-- ==== Sys2Proof/Word.lean ====
section
/-! DEFINITION. The words, addresses and bytes of the local bus, and the fixed-size table that the
collections "one of each" of the NB24 are kept in. -/

namespace Sys2Proof

/-- A word of the performance RAM: 32 bits (Conventions, "Numbers and addresses"). -/
abbrev Word := BitVec 32

/-- A byte address into the performance RAM: 24 bits (Conventions, "Numbers and addresses"). -/
abbrev Addr := BitVec 24

/-- A byte of a word. -/
abbrev Byte := BitVec 8

/-- A fixed number `n` of like things, numbered from 0. -/
structure Tbl (n : Nat) (α : Type) where
  cells : List α
  size : cells.length = n
deriving DecidableEq, Repr

namespace Tbl

/-- The thing numbered `i`. -/
def get {n : Nat} {α : Type} (t : Tbl n α) (i : Fin n) : α :=
  t.cells[i.val]'(by rw [t.size]; exact i.isLt)

/-- The same table with the thing numbered `i` replaced. -/
def set {n : Nat} {α : Type} (t : Tbl n α) (i : Fin n) (x : α) : Tbl n α :=
  ⟨t.cells.set i.val x, by rw [List.length_set, t.size]⟩

/-- Every thing replaced by what `f` makes of it. -/
def map {n : Nat} {α β : Type} (f : α → β) (t : Tbl n α) : Tbl n β :=
  ⟨t.cells.map f, by rw [List.length_map, t.size]⟩

/-- All things alike. -/
def fill (n : Nat) {α : Type} (x : α) : Tbl n α :=
  ⟨List.replicate n x, List.length_replicate⟩

/-- The table whose thing numbered `i` is `f i`. -/
def ofFn {n : Nat} {α : Type} (f : Fin n → α) : Tbl n α :=
  ⟨(List.finRange n).map f, by rw [List.length_map, List.length_finRange]⟩

end Tbl

end Sys2Proof
end

