-- ==== Sys2Proof/Syntax.lean ====
section
/-! DEFINITION. The commands of the NB24: one constructor for each row of spec/opcode_table.json, with
what the outside world supplies for it (a bus request, an answer of the performance RAM, a pin level). -/

namespace Sys2Proof

/-- The order in which a request names its words (R19, R20). -/
inductive BurstOrder where
  | linear
  | wrap
deriving DecidableEq, Repr

/-- What a READ carries (R19). Its length is `more + 1` words: 1..8, and no other value can be written. -/
structure ReadReq where
  start : Addr
  /-- words named after the first -/
  more : Fin 8
  order : BurstOrder
deriving DecidableEq, Repr

/-- What a WRITE carries (R19): as a READ, with the byte mask and one data word for each word. Data words
beyond the length carry nothing and are zero in a well-formed command. -/
structure WriteReq extends ReadReq where
  mask : BitVec 4
  data : Tbl 8 Word
deriving DecidableEq, Repr

/-- RAM's answer to an M-port read (R19): the words in the access's order, or an error. A read of fewer
than 8 words uses the first ones. -/
inductive RamAnswer where
  | done (words : Tbl 8 Word)
  | error
deriving DecidableEq, Repr

/-- RAM's answer to an M-port write (R19). -/
inductive RamAck where
  | done
  | error
deriving DecidableEq, Repr

/-- How the player firmware writes a command into the command slot: word 0 alone, with all four mask bits
set, or words 0 and 1 in one LINEAR write of length 2 (R165, 10.6). -/
structure CmdWrite where
  /-- bits 31..8 of word 0, ignored by the bridge (12.3) -/
  high : BitVec 24
  /-- word 1 when the write names it -/
  arg : Option Word
deriving DecidableEq, Repr

/-- The answer that is a frame start (R128): RAM's data for the T read in service, or a T read that the
held-read slot answers. -/
inductive FrameCause where
  | completes (words : Tbl 8 Word)
  | heldRead (r : ReadReq)
deriving DecidableEq, Repr

/-- The commands of the block, one for each row of spec/opcode_table.json, in the table's order. The eleven
rows of the player firmware's commands are the P write that carries the command (assumption 3); the three rows
SCAN_SILENCE_TRIP, REVERSAL_HOLD_END and SETTLE_CUT are the frame start that brings them about (assumption 4). -/
inductive Instr where
  | powerOnDetect
  | resetLow
  /-- the levels that RESET and the power-on detector reach, and the straps at that moment -/
  | heldRelease (resetHigh detectorQuiet : Bool) (dsel : BitVec 2) (boot : Bool)
  | drainPhaseEnd
  | descriptorReadLands (a : RamAnswer)
  | sectionsPhaseReadLands (a : RamAnswer)
  | voiceTablePhaseEnd
  | initEnd
  | hushPinChange (high : Bool)
  | sustPinChange (high : Bool)
  | pWrite (w : WriteReq)
  | unknownOpcode (opcode : Byte) (c : CmdWrite)
  | perform (c : CmdWrite)
  /-- bits 31..2 of word 1 (ignored) beside bits 31..8 of word 0 -/
  | standbySettle (high : BitVec 24) (argHigh : BitVec 30)
  | standbyCut (high : BitVec 24) (argHigh : BitVec 30)
  | swap (c : CmdWrite)
  | panic (c : CmdWrite)
  | sustain (c : CmdWrite)
  | guard (c : CmdWrite)
  | guardLock (c : CmdWrite)
  | ack (c : CmdWrite)
  | reinit (c : CmdWrite)
  | flush (c : CmdWrite)
  | pRead (r : ReadReq)
  | tRead (r : ReadReq)
  | tWrite (w : WriteReq)
  | mportGrant
  | pWriteLands (k : RamAck)
  | pReadCompletes (a : RamAnswer)
  | tReadCompletes (a : RamAnswer)
  | tWriteCompletes (k : RamAck)
  | scanSilenceTrip (f : FrameCause)
  | reversalHoldEnd (f : FrameCause)
  | settleCut (f : FrameCause)
  | settleTimerEnd
  | groupLate
  | heldReadDiscard
  | voiceWriteLands (k : RamAck)
  | heldReadFillLands (a : RamAnswer)
  | mapEntryFetchLands (a : RamAnswer)
  | programFetchLands (a : RamAnswer)
  | sectionReloadLands (a : RamAnswer)
  | argumentReadLands (a : RamAnswer)
  | snapshotAccessLands (k : RamAck)
  | pushWaitEnd
  | hushItem
  | releaseAll
  | takeReversalNotice
  | reversalWalkStep
  | frameExpiry
  | press
  | release
  | sustainOffWalkStep
  | restrikeWalkStep
  | takeLevelNotice
  | levelSweepStep
deriving DecidableEq, Repr

end Sys2Proof
end

