-- ==== Sys2Proof/Config.lean ====
section
/-! DEFINITION. What the NB24 fixes once: the sizes of its collections and its fixed times. The spec
leaves no value open that an operation of the bridge must produce, so there is no free value here. -/

namespace Sys2Proof.Config

/-- P write queue: up to 8 requests (R29). -/
def pQueueMax : Nat := 8

/-- Button event queue: up to 32 events (R47). -/
def eventMax : Nat := 32

/-- Map cache: up to 32 entries (R76). -/
def cacheMax : Nat := 32

/-- Held-button table: up to 32 records (R92). -/
def heldMax : Nat := 32

/-- Voice write queue: up to 32 writes (R115). -/
def voiceQueueMax : Nat := 32

/-- Group table: up to 4 groups (R117). -/
def groupMax : Nat := 4

/-- Group tags run 1..15 (R117). -/
def tagMax : Nat := 15

/-- Pass-over counts run 0..8; a requester with count 8 is owed a grant (R37). -/
def passMax : Nat := 8

/-- The largest value of the 16-bit saturating counters (R178, R181). -/
def counterMax : Nat := 65535

/-- Full scale of the bellows pressure (R57). -/
def fullScale : Nat := 2047

/-- Pending frames, settle frames and countdowns stop at 255 (R94, R173). -/
def frameMax : Nat := 255

/-- Highest pitch of a voice (R102). -/
def pitchMax : Nat := 127

/-- Discard time of a READY held read, in microseconds (R123). -/
def discardMicros : Nat := 200

/-- The settle timer's 100 ms, in microseconds (R164). -/
def settleMicros : Nat := 100000

/-- Size of the control block in bytes (R3). -/
def controlSize : Nat := 512

/-- Offset of the command slot's word 0 in the control block (R3). -/
def commandOffset : Nat := 0x080

/-- Offset of the status record in the control block (R3). -/
def statusOffset : Nat := 0x100

end Sys2Proof.Config
end

