-- ==== Sys2Proof/Machine/State.lean ====
section
/-! DEFINITION. The state of the NB24, block by block (00_scope, "Block overview"), as plain data, and its
value right after power-on. -/

namespace Sys2Proof.Machine

/-- Voice slots 0..63 (Conventions, "Names and values"). -/
abbrev Slot := Fin 64
/-- Button positions 0..255. -/
abbrev Pos := Fin 256
/-- Orchestral sections 0..7. -/
abbrev SectNo := Fin 8
/-- Program slots 0..511. -/
abbrev ProgNo := Fin 512

/-- The five operating states (R164). -/
inductive OpState where
  | held
  | init
  | transparent
  | performing
  | settling
deriving DecidableEq, Repr

/-- The two map banks. -/
inductive Bank where
  | bankA
  | bankB
deriving DecidableEq, Repr

/-- A sounding direction. -/
inductive Dir where
  | push
  | pull
deriving DecidableEq, Repr

/-- The tracker's reading of the air (R56). -/
inductive Motion where
  | rest
  | push
  | pull
deriving DecidableEq, Repr

/-- Reversal policy of a map entry (R69). -/
inductive Policy where
  | hold
  | repitch
  | cut
deriving DecidableEq, Repr

/-- Steal policy of a section (R85). -/
inductive StealPolicy where
  | keep
  | takeOldest
deriving DecidableEq, Repr

/-- The ten commands (12.3). -/
inductive Opcode where
  | perform
  | standby
  | swap
  | panic
  | sustain
  | guard
  | guardLock
  | ack
  | reinit
  | flush
deriving DecidableEq, Repr

/-- Results of a command (R166); `nothing` is the code 0 of 12.4. -/
inductive CmdResult where
  | nothing
  | done
  | pending
  | busy
  | refused
  | bad
deriving DecidableEq, Repr

/-- The modes of a swap (R152). -/
inductive SwapMode where
  | latch
  | restrike
deriving DecidableEq, Repr

/-- The modes of the edit guard (R160). -/
inductive GuardMode where
  | off
  | inside
  | outside
deriving DecidableEq, Repr

/-- The port a fault is logged with (R181). -/
inductive PortId where
  | portP
  | portT
  | bridge
deriving DecidableEq, Repr

/-- The fault kinds (R181). -/
inductive FaultKind where
  | voiceWrite
  | controlWrite
  | guard
  | beyondTop
  | misaligned
  | badEntry
  | badProgram
  | descBad
  | memoryError
deriving DecidableEq, Repr

/-- The three answers to a request (R21); ACCEPT carries the data words of a READ. -/
inductive Answer where
  | accept (data : List Word)
  | defer
  | refuse
deriving DecidableEq, Repr

/-- The input pins (R1): `resetLow` while RESET is low, `detectorActive` while the power-on detector is active. -/
structure Pins where
  resetLow : Bool
  detectorActive : Bool
  hush : Bool
  sust : Bool
deriving DecidableEq, Repr

/-- The answer groups of the two upstream ports (R1): the last answer given, absent while a request is in
service and before any (assumption 17). -/
structure Ports where
  pAnswer : Option Answer
  tAnswer : Option Answer
deriving DecidableEq, Repr

/-- The player port queue (R29, R31). -/
structure PlayerQueue where
  /-- posted writes, oldest first -/
  writes : List WriteReq
  /-- the P read in wait -/
  read : Option ReadReq
deriving DecidableEq, Repr

/-- What the fetcher reads (R82): `descriptor` and `sections` are INIT's (R13, R14). -/
inductive FetchKind where
  | entry (bank : Bank) (pos : Pos)
  | program (n : ProgNo)
  | reload (i : SectNo)
  | argument
  | descriptor (k : Fin 4)
  | sections (k : Fin 4)
deriving DecidableEq, Repr

/-- Whose access holds the M-port. -/
inductive Owner where
  | tRead
  | tWrite
  | fill
  | voice
  | fetch (k : FetchKind)
  | pWrite
  | pRead
  | snapshot
deriving DecidableEq, Repr

/-- What becomes of the answer of an access already granted: used, discarded with its error logged (REINIT:
R11, R81, R131), or discarded (entry to HELD: R10). -/
inductive Drop where
  | live
  | reinit
  | held
deriving DecidableEq, Repr

/-- An M-port access in progress (R36). On a READ the mask and data carry nothing and stand as 0. -/
structure Access where
  owner : Owner
  isWrite : Bool
  req : WriteReq
  drop : Drop
deriving DecidableEq, Repr

/-- The five requesters of the M-port (R36). -/
inductive Requester where
  | tone
  | voice
  | fetcher
  | player
  | snapshot
deriving DecidableEq, Repr

/-- The memory port arbiter (R36, R37): a pass-over count for each requester and the access in progress. -/
structure Arbiter where
  tone : Nat
  voice : Nat
  fetcher : Nat
  player : Nat
  snapshot : Nat
  access : Option Access
deriving DecidableEq, Repr

/-- The condition of a position in the down image (R42). -/
inductive Cond where
  | up
  | down
  | hushed
deriving DecidableEq, Repr

/-- A button event (R47). -/
structure ButtonEvent where
  isPress : Bool
  pos : Pos
deriving DecidableEq, Repr

/-- The scan monitor (R42, R47, R52). -/
structure Scan where
  down : Tbl 256 Cond
  /-- button events, oldest first -/
  events : List ButtonEvent
  silence : Nat
deriving DecidableEq, Repr

/-- The bellows tracker (R56). -/
structure Bellows where
  magnitude : Nat
  motion : Motion
  dir : Dir
  hold : Nat
  reversals : BitVec 16
  notified : Nat
  revNotice : Option Dir
  levelNotice : Option Nat
deriving DecidableEq, Repr

/-- A map cache entry (R76). -/
structure CacheEntry where
  bank : Bank
  pos : Pos
  word : Word
deriving DecidableEq, Repr

/-- A reload mark (R85). -/
inductive ReloadMark where
  | clear
  | set
  | setAgain
deriving DecidableEq, Repr

/-- A record of the section cache (R85). -/
structure SectRecord where
  budget : Nat
  policy : StealPolicy
  latch : Nat
  curve : Tbl 9 Nat
  mark : ReloadMark
deriving DecidableEq, Repr

/-- A request of the voicing engine to the map unit (R74). -/
inductive EngReq where
  | entry (bank : Bank) (pos : Pos)
  | program (n : ProgNo)
deriving DecidableEq, Repr

/-- A fetch in flight (R82): `overtaken` by R79, `first` the words of a program fetch's first access when its
second one is still to be made (R73). -/
structure Fetch where
  kind : FetchKind
  overtaken : Bool
  first : Option (Tbl 8 Word)
deriving DecidableEq, Repr

/-- The map unit (R76, R82, R85). The cache stands in recency order, most recently used first. -/
structure MapUnit where
  cache : List CacheEntry
  sects : Tbl 8 SectRecord
  engReq : Option EngReq
  fetch : Option Fetch
deriving DecidableEq, Repr

/-- The state of a voice slot (R89). -/
inductive SlotState where
  | free
  | sounding
  | releasing
deriving DecidableEq, Repr

/-- A record of the slot mirror (R89). -/
structure SlotRec where
  state : SlotState
  sect : SectNo
  owner : Option Pos
  layer : Fin 8
  trim : Int
  stolen : Bool
  level : Nat
  countdown : Option Nat
  gen : BitVec 8
deriving DecidableEq, Repr

/-- The entry snapshot of a held record (R70, R92). -/
structure EntrySnap where
  pushProg : Option ProgNo
  pullProg : Option ProgNo
  policy : Policy
  transpose : Int
deriving DecidableEq, Repr

/-- A held record (R92). -/
structure HeldRec where
  pos : Pos
  bank : Bank
  snap : EntrySnap
  dir : Dir
  /-- the record's SOUNDING slots, by layer index -/
  voices : List Slot
  sustained : Bool
deriving DecidableEq, Repr

/-- A layer of a program (R72). -/
structure Layer where
  patch : BitVec 10
  note : Nat
  sect : SectNo
  trim : Int
  pan : BitVec 7
deriving DecidableEq, Repr

/-- A write that the voicing engine is about to push (R98, R99), with what was decided for it when its step
began (assumption 14). -/
inductive Push where
  /-- FULL write of layer `idx` of the record of `pos`, into a free slot or by a steal -/
  | full (pos : Pos) (slot : Slot) (steal : Bool) (layer : Layer) (idx : Fin 8) (dir : Dir)
  /-- RELEASING write for a slot of the record of `pos`, with the release latch read -/
  | releasing (pos : Pos) (slot : Slot) (latch : Nat)
  /-- FREE write, in the item's group or ungrouped -/
  | freeing (slot : Slot) (grouped : Bool)
  /-- LEVEL write -/
  | level (slot : Slot) (lvl : Nat)
  /-- INIT's FULL write of a FREE record (R15) -/
  | blank (slot : Slot)
deriving DecidableEq, Repr

/-- What an item has still to do (R96). -/
inductive Job where
  /-- release one slot of the record of `pos` (R107) -/
  | releaseSlot (pos : Pos) (slot : Slot)
  /-- take the record of `pos` out of the held-button table -/
  | removeRecord (pos : Pos)
  /-- the part of a release-all's group ends (R110) -/
  | finishGroup
  /-- steps 2 and 3 of a press (R101) -/
  | pressEntry (pos : Pos)
  /-- voice the record of `pos` (R102) -/
  | voice (pos : Pos)
  /-- one layer of the program handed over for `pos` (R102, R103) -/
  | layer (pos : Pos) (idx : Fin 8) (l : Layer)
  /-- FREE write of a hush (grouped) or of frame expiry (ungrouped) -/
  | free (slot : Slot) (grouped : Bool)
  /-- a hush's last step: every record leaves the table (R109) -/
  | clearTable
  /-- INIT's blank record (R15) -/
  | blank (slot : Slot)
deriving DecidableEq, Repr

/-- The items that can wait (R95); `rebuild` is INIT's voice table phase (R15). -/
inductive ItemKind where
  | hush
  | releaseAll
  | reversalStep (pos : Pos)
  | expiry
  | press (pos : Pos)
  | release (pos : Pos)
  | sustainStep (pos : Pos)
  | restrikeStep (pos : Pos)
  | sweepStep (slot : Slot)
  | rebuild
deriving DecidableEq, Repr

/-- What the current item waits for (R96, R119, R97). -/
inductive Wait where
  /-- room in the voice write queue, or a place in the group table -/
  | push (p : Push)
  /-- the entry asked of the map unit -/
  | entry (bank : Bank) (pos : Pos)
  /-- the program asked of the map unit for the record of `pos` -/
  | program (pos : Pos)
  /-- an answer awaited for discard, before the entry can be asked for, in the bank that is active then (R71) -/
  | turnEntry (pos : Pos)
  /-- an answer awaited for discard, before the program can be asked for -/
  | turnProgram (pos : Pos)
deriving DecidableEq, Repr

/-- The current item (R95, R96): between commands it always waits. -/
structure Item where
  kind : ItemKind
  wait : Wait
  jobs : List Job
deriving DecidableEq, Repr

/-- A pending hush (R95): `cutOnly` when only a settle cut asked for it (R174). -/
inductive HushPending where
  | clear
  | cutOnly
  | source
deriving DecidableEq, Repr

/-- The voicing engine (R89..R97, R132). A walk with a place runs while its place is present: a place that
reaches the end stops the walk (R132). The place of the reversal walk is named by its record's position. -/
structure Engine where
  mirror : Tbl 64 SlotRec
  free : List Slot
  order : List Slot
  counts : Tbl 8 Nat
  held : List HeldRec
  appliedDir : Dir
  appliedMag : Nat
  pendingFrames : Nat
  hushPending : HushPending
  releaseAll : Bool
  revWalk : Option Pos
  sustainWalk : Bool
  restrikeWalk : Bool
  sweep : Option Slot
  item : Option Item
  awaitDiscard : Bool
deriving DecidableEq, Repr

/-- The data of a voice write (R115). -/
inductive VoiceBody where
  | full (w0 w1 w2 w3 : Word)
  | state (w0 : Word)
  | level (w2 : Word)
deriving DecidableEq, Repr

/-- A write of the voice write queue (R115). -/
structure VoiceWrite where
  slot : Slot
  body : VoiceBody
  tag : Option Nat
deriving DecidableEq, Repr

/-- An update group (R117). `late` is its state: LATE, or OPEN. `started` are the slots for which a FULL write
with its tag has been pushed (R103). -/
structure Group where
  tag : Nat
  slots : List Slot
  started : List Slot
  notLanded : Nat
  filling : Bool
  openedAt : Nat
  late : Bool
deriving DecidableEq, Repr

/-- The voice writer (R115, R117). -/
structure VoiceWriter where
  queue : List VoiceWrite
  groups : List Group
  nextTag : Nat
deriving DecidableEq, Repr

/-- The held-read slot (R123). `since` is the timebase reading at which the discard timer started. -/
inductive HeldRead where
  | vacant
  | waiting (r : ReadReq)
  | filling (r : ReadReq)
  | ready (r : ReadReq) (data : Tbl 8 Word) (since : Nat)
deriving DecidableEq, Repr

/-- The fill access of the held-read slot (R124, R125): outstanding, or outstanding with its data to be
discarded. -/
inductive FillState where
  | none
  | live
  | discarded
deriving DecidableEq, Repr

/-- A T request in service (R33, R34). -/
inductive ToneReq where
  | read (r : ReadReq)
  | write (w : WriteReq)
deriving DecidableEq, Repr

/-- What the tone port presents to the arbiter (R34). -/
inductive ToneTurn where
  | request
  | fill
deriving DecidableEq, Repr

/-- The tone port (R33, R34, R123, R129): `turns` in the order in which each became ready. -/
structure Tone where
  slot : HeldRead
  fill : FillState
  service : Option ToneReq
  turns : List ToneTurn
  frame : BitVec 16
deriving DecidableEq, Repr

/-- The descriptor's fields as the bits of 12.2 hold them (R4, R186). -/
structure Desc where
  format : BitVec 8
  ramTop : BitVec 9
  scan : Addr
  mapA : Addr
  mapB : Addr
  programs : Addr
  sections : Addr
  voices : Addr
  used : BitVec 9
  onset : BitVec 11
  rest : BitVec 11
  levelStep : BitVec 11
  reverseHold : BitVec 4
  silenceLimit : BitVec 8
  holdLimit : BitVec 10
  settleFrames : BitVec 8
  hushEnable : Bool
  sustEnable : Bool
  irqMask : BitVec 7
deriving DecidableEq, Repr

/-- INIT's phases (1.7): the descriptor phase with its next read, the words read and whether a read has
failed; the sections phase with its next read. -/
inductive InitPhase where
  | drain
  | descriptor (k : Fin 4) (words : List Word) (failed : Bool)
  | sections (k : Fin 4)
  | voiceTable
  | snapshot
deriving DecidableEq, Repr

/-- The argument read (R164). -/
inductive ArgRead where
  | none
  | requested
  | inFlight
deriving DecidableEq, Repr

/-- A swap that is pending (R150); `taken` once it has taken effect and its restrike walk runs (R154). -/
structure Swap where
  mode : SwapMode
  incoming : Bank
  taken : Bool
deriving DecidableEq, Repr

/-- The edit guard (R160, R162). -/
structure Guard where
  first : Pos
  last : Pos
  mode : GuardMode
  lock : Bool
deriving DecidableEq, Repr

/-- The control unit (R2, R5, R150, R164). `argAhead` counts the P writes accepted before the command write
that have not reached RAM yet (R168). -/
structure Control where
  op : OpState
  phase : Option InitPhase
  dsel : BitVec 2
  boot : Bool
  desc : Option Desc
  valid : Bool
  command : Option Opcode
  argRead : ArgRead
  argAhead : Nat
  settleFrames : Nat
  settleTimer : Option Nat
  settleCut : Bool
  bank : Bank
  swap : Option Swap
  sustainFlag : Bool
  sustReading : Bool
  hushReading : Bool
  sustain : Bool
  hushEffective : Bool
  guard : Guard
deriving DecidableEq, Repr

/-- The fault log's first fault (R181). -/
structure FaultRec where
  kind : FaultKind
  port : PortId
  addr : Addr
deriving DecidableEq, Repr

/-- The nine counters (R178). -/
structure Counters where
  dropBudget : Nat
  dropExhausted : Nat
  dropRange : Nat
  dropHeldFull : Nat
  steals : Nat
  lateGroups : Nat
  discards : Nat
  scanDefers : Nat
  pQueueDefers : Nat
deriving DecidableEq, Repr

/-- The unfinished command that the status record's result belongs to (R166, R154): the command being taken
or whose argument is being read, a SWAP, a STANDBY SETTLE, a REINIT (assumption 24). -/
inductive Awaited where
  | none
  | command
  | swap
  | settle
  | reinit
deriving DecidableEq, Repr

/-- Every status field, counter, flag and the fault log (R177, R178). -/
structure StatusView where
  op : OpState
  bank : Bank
  swapPending : Bool
  sustain : Bool
  hushEffective : Bool
  motion : Motion
  dir : Dir
  magnitude : Nat
  reversals : BitVec 16
  frame : BitVec 16
  voicesInUse : Nat
  heldCount : Nat
  counts : Tbl 8 Nat
  eventDepth : Nat
  flags : BitVec 7
  lastOpcode : BitVec 8
  result : CmdResult
  cmdCount : BitVec 8
  faultLog : Option FaultRec
  moreFaults : Bool
  faultCount : Nat
  counters : Counters
deriving DecidableEq, Repr

/-- A snapshot in flight (R180): the image taken at its request and its next access. -/
structure Snapshot where
  image : StatusView
  next : Fin 4
deriving DecidableEq, Repr

/-- The status unit (R177..R182). -/
structure Status where
  flags : BitVec 7
  faultLog : Option FaultRec
  moreFaults : Bool
  faultCount : Nat
  counters : Counters
  lastOpcode : BitVec 8
  result : CmdResult
  cmdCount : BitVec 8
  awaited : Awaited
  stale : Bool
  freshPass : Bool
  changed : Bool
  snapshot : Option Snapshot
deriving DecidableEq, Repr

/-- The state of the NB24, block by block, and the queue of commands that wait. -/
structure State where
  pins : Pins
  ports : Ports
  timebase : Nat
  player : PlayerQueue
  arb : Arbiter
  scan : Scan
  bellows : Bellows
  map : MapUnit
  eng : Engine
  voice : VoiceWriter
  tone : Tone
  ctrl : Control
  stat : Status
  pending : List Instr
deriving DecidableEq, Repr

/-- The reasons the machine stops: none. No event of the spec stops the bridge (2.8: "An error never stops the
bridge"); what the spec calls a fault is logged state (R181). Nothing raises a fault (assumption 20). -/
inductive Fault where
deriving DecidableEq, Repr

/-- The reasons a command has no meaning. -/
inductive Refusal where
  /-- Raised by an arm of exec for a command not modelled yet; safe. No arm raises it. -/
  | notModelled (mnemonic : String)
deriving DecidableEq, Repr

/-! ### Reset values -/

/-- Down image, events and silence counter after power-on and RESET (R54). -/
def Scan.reset : Scan := { down := Tbl.fill 256 .up, events := [], silence := 0 }

/-- The tracker after power-on and RESET (R56). -/
def Bellows.reset : Bellows :=
  { magnitude := 0, motion := .rest, dir := .push, hold := 0, reversals := 0, notified := 0,
    revNotice := none, levelNotice := none }

/-- A section record after power-on and RESET (R85), and for a failed read of INIT (R14). -/
def SectRecord.zero : SectRecord :=
  { budget := 0, policy := .keep, latch := 0, curve := Tbl.fill 9 0, mark := .clear }

/-- The map unit after power-on and RESET (R76, R81, R85). -/
def MapUnit.reset : MapUnit :=
  { cache := [], sects := Tbl.fill 8 SectRecord.zero, engReq := none, fetch := none }

/-- A slot mirror record after reset (R113). -/
def SlotRec.reset : SlotRec :=
  { state := .free, sect := 0, owner := none, layer := 0, trim := 0, stolen := false, level := 0,
    countdown := none, gen := 0 }

/-- The voicing engine at entry to HELD and when REINIT is taken (R113, R114). -/
def Engine.reset : Engine :=
  { mirror := Tbl.fill 64 SlotRec.reset, free := List.finRange 64, order := [], counts := Tbl.fill 8 0,
    held := [], appliedDir := .push, appliedMag := 0, pendingFrames := 0, hushPending := .clear,
    releaseAll := false, revWalk := none, sustainWalk := false, restrikeWalk := false, sweep := none,
    item := none, awaitDiscard := false }

/-- The voice writer after each reset (R131). -/
def VoiceWriter.reset : VoiceWriter := { queue := [], groups := [], nextTag := 1 }

/-- The tone port after power-on and RESET (R35, R127, R130). -/
def Tone.reset : Tone := { slot := .vacant, fill := .none, service := none, turns := [], frame := 0 }

/-- The edit guard after power-on (R163). -/
def Guard.powerOn : Guard := { first := 0, last := 255, mode := .off, lock := false }

/-- The control unit after power-on (R5, R150, R164); the kept straps and the pin readings are DESIGN CHOICE
(assumption 8). -/
def Control.powerOn : Control :=
  { op := .held, phase := none, dsel := 0, boot := false, desc := none, valid := false, command := none,
    argRead := .none, argAhead := 0, settleFrames := 0, settleTimer := none, settleCut := false, bank := .bankA,
    swap := none, sustainFlag := false, sustReading := false, hushReading := false, sustain := false,
    hushEffective := false, guard := Guard.powerOn }

/-- All counters 0 (R185). -/
def Counters.zero : Counters :=
  { dropBudget := 0, dropExhausted := 0, dropRange := 0, dropHeldFull := 0, steals := 0, lateGroups := 0,
    discards := 0, scanDefers := 0, pQueueDefers := 0 }

/-- The status unit after power-on and RESET (R185). -/
def Status.reset : Status :=
  { flags := 0, faultLog := none, moreFaults := false, faultCount := 0, counters := Counters.zero,
    lastOpcode := 0, result := .nothing, cmdCount := 0, awaited := .none, stale := true, freshPass := false,
    changed := false, snapshot := none }

/-- The arbiter at entry to HELD with no access in progress (R37). -/
def Arbiter.reset : Arbiter := { tone := 0, voice := 0, fetcher := 0, player := 0, snapshot := 0, access := none }

/-- The machine right after power-on: in HELD, with the power-on detector active (R10, R18). The levels of
RESET, HUSH and SUST, the absent port answers and the timebase reading are DESIGN CHOICE (assumptions 7, 8, 17). -/
def State.reset : State :=
  { pins := { resetLow := false, detectorActive := true, hush := false, sust := false }
    ports := { pAnswer := none, tAnswer := none }
    timebase := 0
    player := { writes := [], read := none }
    arb := Arbiter.reset
    scan := Scan.reset
    bellows := Bellows.reset
    map := MapUnit.reset
    eng := Engine.reset
    voice := VoiceWriter.reset
    tone := Tone.reset
    ctrl := Control.powerOn
    stat := Status.reset
    pending := [] }

end Sys2Proof.Machine
end

