-- ==== Sys2Proof/Machine/Operands.lean ====
section
/-! DEFINITION. Operand forms: bit fields of words, the words a request names, the areas of RAM, and the records
of Chapter 12 as the bridge reads and writes them. -/

namespace Sys2Proof

/-- How many words a request names: 1..8 (R19). -/
def ReadReq.len (r : ReadReq) : Nat := r.more.val + 1

end Sys2Proof

namespace Sys2Proof.Machine

/-! ### Bit fields (Chapter 12) -/

/-- The field of `len` bits whose lowest bit is bit `lo` of the word. -/
def bitsAt (w : Word) (lo len : Nat) : BitVec len := w.extractLsb' lo len

/-- The value of the field of `len` bits at bit `lo`, unsigned. -/
def fieldAt (w : Word) (lo len : Nat) : Nat := (bitsAt w lo len).toNat

/-- Bit `i` of the word. -/
def bitAt (w : Word) (i : Nat) : Bool := w.getLsbD i

/-- Byte `i` of the word, byte 0 the least significant (little-endian, Conventions). -/
def byteAt (w : Word) (i : Nat) : Byte := bitsAt w (8 * i) 8

/-- The word with the value `v` at bit `lo` and zero elsewhere. -/
def putAt (lo v : Nat) : Word := BitVec.ofNat 32 (v * 2 ^ lo)

/-- 1 for true, 0 for false. -/
def bit (b : Bool) : Nat := if b then 1 else 0

/-! ### The words a request names (R19, R20) -/

/-- The address of the `i`-th named word: LINEAR goes on by 4 bytes and wraps at 24 bits; WRAP stays within the
aligned block of 32 bytes. -/
def wordAddr (r : ReadReq) (i : Nat) : Addr :=
  match r.order with
  | .linear => r.start + BitVec.ofNat 24 (4 * i)
  | .wrap =>
    let block := r.start.toNat / 32 * 32
    BitVec.ofNat 24 (block + (r.start.toNat % 32 + 4 * i) % 32)

/-- The addresses of the named words, in the request's order. -/
def namedAddrs (r : ReadReq) : List Addr := (List.range r.len).map (wordAddr r)

/-- A named word of a write, with its data and the mask of the bytes written. -/
structure NamedWord where
  addr : Addr
  data : Word
  mask : BitVec 4
deriving DecidableEq, Repr

/-- The words a write names, with their data: the mask counts for a write of length 1, every byte is written
otherwise (R20). -/
def namedWords (w : WriteReq) : List NamedWord :=
  (List.range w.toReadReq.len).map fun i =>
    { addr := wordAddr w.toReadReq i
      data := w.data.cells.getD i 0
      mask := if w.more = 0 then w.mask else 0xF }

/-- A request's form is bad (R23): a start address that is no multiple of 4. -/
def badStart (a : Addr) : Bool := a.toNat % 4 != 0

/-- A write's form is bad (R23): a bad start, or a length of 2..8 without all four mask bits. -/
def badForm (w : WriteReq) : Bool := badStart w.start || (w.more != 0 && w.mask != 0xF)

/-- The first `r.len` words of RAM's answer. -/
def answerWords (r : ReadReq) (t : Tbl 8 Word) : List Word := t.cells.take r.len

/-! ### Map entries (12.6, R70) -/

/-- The snapshot of an entry judged invalid or bad, or not read for an error (R92). -/
def EntrySnap.none : EntrySnap :=
  { pushProg := Option.none, pullProg := Option.none, policy := .hold, transpose := 0 }

/-- The three judgements of R70. -/
inductive EntryVerdict where
  | invalid
  | bad
  | valid (e : EntrySnap)
deriving DecidableEq, Repr

/-- The reversal policy a code names (12.6). -/
def policyOf (code : Nat) : Option Policy :=
  match code with
  | 0 => some .hold
  | 1 => some .repitch
  | 2 => some .cut
  | _ => Option.none

/-- The program a number field and its present bit name (12.6). -/
def programOf (w : Word) (lo : Nat) : Option ProgNo :=
  if bitAt w (lo + 9) then some (Fin.ofNat 512 (fieldAt w lo 9)) else Option.none

/-- Judging a map entry's word (R70, 12.6). -/
def judgeEntry (w : Word) : EntryVerdict :=
  if bitAt w 31 then
    let t := (bitsAt w 24 6).toInt
    match policyOf (fieldAt w 20 2) with
    | some p =>
      if -24 ≤ t ∧ t ≤ 24 then
        .valid { pushProg := programOf w 0, pullProg := programOf w 10, policy := p, transpose := t }
      else .bad
    | Option.none => .bad
  else .invalid

/-- The program a snapshot names for a direction (R102). -/
def EntrySnap.program (e : EntrySnap) (d : Dir) : Option ProgNo :=
  match d with
  | .push => e.pushProg
  | .pull => e.pullProg

/-! ### Programs (12.7, R72, R73) -/

/-- The layer count of a program header. -/
def layerCount (header : Word) : Nat := fieldAt header 0 4

/-- Layer `i` from the program header and its own layer word. -/
def layerOf (header word : Word) (i : Fin 8) : Layer :=
  { patch := bitsAt word 0 10
    note := fieldAt word 10 7
    sect := Fin.ofNat 8 (fieldAt header (4 + 3 * i.val) 3)
    trim := (bitsAt word 17 6).toInt
    pan := bitsAt word 23 7 }

/-- The first `n` layers of a program, each with its index; `words` holds words 0..8 of the slot as far as read. -/
def layersOf (words : List Word) (n : Nat) : List (Fin 8 × Layer) :=
  ((List.finRange 8).take n).map fun i => (i, layerOf (words.getD 0 0) (words.getD (i.val + 1) 0) i)

/-! ### Section records (12.8, R85) -/

/-- A section record from its four words, with a clear reload mark. -/
def sectOf (w0 w1 w2 w3 : Word) : SectRecord :=
  { budget := min (fieldAt w0 0 7) 64
    policy := if fieldAt w0 8 2 = 1 then .takeOldest else .keep
    latch := fieldAt w0 16 8
    curve := Tbl.ofFn fun k =>
      if k.val < 4 then (byteAt w1 k.val).toNat
      else if k.val < 8 then (byteAt w2 (k.val - 4)).toNat
      else (byteAt w3 0).toNat
    mark := .clear }

/-! ### The descriptor (12.2, R4, R8, R186) -/

/-- The descriptor's fields from its words. -/
def Desc.ofWords (ws : List Word) : Desc :=
  let w := fun i => ws.getD i 0
  { format := bitsAt (w 0) 0 8
    ramTop := bitsAt (w 1) 0 9
    scan := bitsAt (w 2) 0 24
    mapA := bitsAt (w 3) 0 24
    mapB := bitsAt (w 4) 0 24
    programs := bitsAt (w 5) 0 24
    sections := bitsAt (w 6) 0 24
    voices := bitsAt (w 7) 0 24
    used := bitsAt (w 8) 0 9
    onset := bitsAt (w 9) 0 11
    rest := bitsAt (w 10) 0 11
    levelStep := bitsAt (w 11) 0 11
    reverseHold := bitsAt (w 12) 0 4
    silenceLimit := bitsAt (w 13) 0 8
    holdLimit := bitsAt (w 14) 0 10
    settleFrames := bitsAt (w 15) 0 8
    hushEnable := bitAt (w 16) 0
    sustEnable := bitAt (w 16) 1
    irqMask := bitsAt (w 17) 0 7 }

/-- The values that stand for a copy that holds none (R5); no rule uses them. -/
def Desc.zero : Desc := Desc.ofWords []

/-- A region: base, size and the descriptor word that holds the base. -/
structure Region where
  base : Nat
  size : Nat
  word : Nat
deriving DecidableEq, Repr

/-- The six regions in the order of R8 (R6). -/
def Desc.regions (d : Desc) : List Region :=
  [ ⟨d.scan.toNat, 512, 2⟩, ⟨d.mapA.toNat, 1024, 3⟩, ⟨d.mapB.toNat, 1024, 4⟩,
    ⟨d.programs.toNat, 32768, 5⟩, ⟨d.sections.toNat, 128, 6⟩, ⟨d.voices.toNat, 1024, 7⟩ ]

/-- RAM_TOP in bytes (R7). -/
def Desc.top (d : Desc) : Nat := d.ramTop.toNat * 65536

/-- The control block base for the straps (R3). -/
def controlBase (dsel : BitVec 2) : Nat :=
  match dsel.toNat with
  | 0 => 0x000000
  | 1 => 0x008000
  | 2 => 0x040000
  | _ => 0x0F0000

/-- Two areas share an address. -/
def overlap (b₁ n₁ b₂ n₂ : Nat) : Bool := decide (b₁ < b₂ + n₂ ∧ b₂ < b₁ + n₁)

/-- Every pair of an earlier and a later region. -/
def pairs : List Region → List (Region × Region)
  | [] => []
  | r :: rs => rs.map (fun q => (r, q)) ++ pairs rs

/-- The tests of R8 in order, each with the descriptor word logged when it fails. -/
def Desc.tests (d : Desc) (cb : Nat) : List (Bool × Nat) :=
  [ (decide (d.format.toNat = 1), 0),
    (decide (1 ≤ d.ramTop.toNat ∧ d.ramTop.toNat ≤ 256), 1),
    (decide (1 ≤ d.used.toNat ∧ d.used.toNat ≤ 256), 8),
    (decide (1 ≤ d.onset.toNat), 9),
    (decide (d.rest.toNat < d.onset.toNat), 10),
    (decide (1 ≤ d.levelStep.toNat), 11),
    (decide (d.silenceLimit.toNat = 0 ∨ 8 ≤ d.silenceLimit.toNat), 13),
    (decide (50 ≤ d.holdLimit.toNat ∧ d.holdLimit.toNat ≤ 1000), 14),
    (decide (1 ≤ d.settleFrames.toNat), 15) ]
  ++ d.regions.map (fun r => (decide (r.base % r.size = 0), r.word))
  ++ [(decide (cb + Config.controlSize ≤ d.top), 1)]
  ++ d.regions.map (fun r => (decide (r.base + r.size ≤ d.top), r.word))
  ++ d.regions.map (fun r => (!overlap cb Config.controlSize r.base r.size, r.word))
  ++ (pairs d.regions).map (fun p => (!overlap p.1.base p.1.size p.2.base p.2.size, p.2.word))

/-- The descriptor word of the first failing test of R8, if any. -/
def Desc.check (d : Desc) (cb : Nat) : Option Nat :=
  ((d.tests cb).find? (fun t => !t.1)).map (·.2)

/-! ### Areas (R3, R6, R24) -/

/-- The areas a request is split by (R24); `other` is everything outside the control block while the descriptor
is invalid. -/
inductive Area where
  | descriptor
  | command
  | spareLow
  | status
  | spareHigh
  | scan
  | mapA
  | mapB
  | programs
  | sections
  | voices
  | ram
  | beyond
  | other
deriving DecidableEq, Repr

/-- The descriptor copy in use. -/
def Control.copy (c : Control) : Desc := c.desc.getD Desc.zero

/-- The part of the control block an offset lies in (R3). -/
def controlPart (off : Nat) : Area :=
  if off < 0x080 then .descriptor
  else if off < 0x088 then .command
  else if off < 0x100 then .spareLow
  else if off < 0x180 then .status
  else .spareHigh

/-- The address lies in the area of `size` bytes at `base`. -/
def within (base size n : Nat) : Bool := decide (base ≤ n ∧ n < base + size)

/-- The area an address lies in (R24). -/
def areaOf (c : Control) (a : Addr) : Area :=
  let n := a.toNat
  let cb := controlBase c.dsel
  let d := c.copy
  if within cb Config.controlSize n then controlPart (n - cb)
  else if !c.valid then .other
  else if d.top ≤ n then .beyond
  else if within d.scan.toNat 512 n then .scan
  else if within d.mapA.toNat 1024 n then .mapA
  else if within d.mapB.toNat 1024 n then .mapB
  else if within d.programs.toNat 32768 n then .programs
  else if within d.sections.toNat 128 n then .sections
  else if within d.voices.toNat 1024 n then .voices
  else .ram

/-- The base of a bank's map region (R6). -/
def Desc.mapBase (d : Desc) : Bank → Addr
  | .bankA => d.mapA
  | .bankB => d.mapB

/-- The byte offset of an address from a base. -/
def offsetFrom (base a : Addr) : Nat := a.toNat - base.toNat

/-- The bank that is not `b`. -/
def Bank.other : Bank → Bank
  | .bankA => .bankB
  | .bankB => .bankA

/-- The address of byte `off` of the control block. -/
def controlAddr (c : Control) (off : Nat) : Addr := BitVec.ofNat 24 (controlBase c.dsel + off)

/-- The address of slot `i`'s voice record (R116). -/
def voiceAddr (d : Desc) (i : Slot) : Addr := d.voices + BitVec.ofNat 24 (16 * i.val)

/-- The slots whose voice records a read names a word of (R121). -/
def touchedSlots (d : Desc) (r : ReadReq) : List Slot :=
  ((namedAddrs r).filter fun a => within d.voices.toNat 1024 a.toNat).map fun a =>
    Fin.ofNat 64 (offsetFrom d.voices a / 16)

/-! ### Voice records (12.9, R98, R99, R187) -/

/-- The state code of a voice record. -/
def SlotState.code : SlotState → Nat
  | .free => 0
  | .sounding => 1
  | .releasing => 2

/-- The direction code. -/
def Dir.code : Dir → Nat
  | .push => 0
  | .pull => 1

/-- Word 0 of a voice record. -/
def voiceWord0 (st : SlotState) (stolen : Bool) (sect : SectNo) (layer : Fin 8) (gen : BitVec 8) (owner : Nat) :
    Word :=
  putAt 0 st.code ||| putAt 2 (bit stolen) ||| putAt 4 sect.val ||| putAt 8 layer.val ||| putAt 16 gen.toNat
    ||| putAt 24 owner

/-- Word 1 of a voice record. -/
def voiceWord1 (patch : BitVec 10) (pitch : Nat) (pan : BitVec 7) : Word :=
  putAt 0 patch.toNat ||| putAt 16 pitch ||| putAt 24 pan.toNat

/-- Word 2 of a voice record. -/
def voiceWord2 (level : Nat) : Word := putAt 0 level

/-- Word 3 of a voice record. -/
def voiceWord3 (stamp : BitVec 16) (d : Dir) : Word := putAt 0 stamp.toNat ||| putAt 16 d.code

/-- The mask, data and length of a voice write's M-port access, and the word of the record it starts at (R116). -/
def VoiceBody.words : VoiceBody → List Word
  | .full w0 w1 w2 w3 => [w0, w1, w2, w3]
  | .state w0 => [w0]
  | .level w2 => [w2]

/-- The word of the record a voice write starts at (R116). -/
def VoiceBody.firstWord : VoiceBody → Nat
  | .full _ _ _ _ => 0
  | .state _ => 0
  | .level _ => 2

/-! ### The status record (12.4, R187) -/

def OpState.code : OpState → Nat
  | .held => 0
  | .init => 1
  | .transparent => 2
  | .performing => 3
  | .settling => 4

def Bank.code : Bank → Nat
  | .bankA => 0
  | .bankB => 1

def Motion.code : Motion → Nat
  | .rest => 0
  | .push => 1
  | .pull => 2

def CmdResult.code : CmdResult → Nat
  | .nothing => 0
  | .done => 1
  | .pending => 2
  | .busy => 3
  | .refused => 4
  | .bad => 5

def FaultKind.code : FaultKind → Nat
  | .voiceWrite => 1
  | .controlWrite => 2
  | .guard => 3
  | .beyondTop => 4
  | .misaligned => 5
  | .badEntry => 6
  | .badProgram => 7
  | .descBad => 8
  | .memoryError => 9

def PortId.code : PortId → Nat
  | .portP => 0
  | .portT => 1
  | .bridge => 2

/-- Two 16-bit counters in one word. -/
def counterPair (lo hi : Nat) : Word := putAt 0 lo ||| putAt 16 hi

/-- Four section counts in one word, the first in byte 0. -/
def countWord (v : StatusView) (i : Fin 8) (j k l : Fin 8) : Word :=
  putAt 0 (v.counts.get i) ||| putAt 8 (v.counts.get j) ||| putAt 16 (v.counts.get k) ||| putAt 24 (v.counts.get l)

/-- The words of the status record that carry fields: words 0..13 (12.4). -/
def statusWords (v : StatusView) : List Word :=
  [ putAt 0 v.op.code ||| putAt 4 v.bank.code ||| putAt 5 (bit v.swapPending) ||| putAt 6 (bit v.sustain)
      ||| putAt 7 (bit v.hushEffective) ||| putAt 8 v.motion.code ||| putAt 10 v.dir.code,
    putAt 0 v.magnitude ||| putAt 16 v.reversals.toNat,
    putAt 0 v.frame.toNat ||| putAt 16 v.voicesInUse ||| putAt 24 v.heldCount,
    putAt 0 v.eventDepth ||| putAt 8 v.flags.toNat ||| putAt 16 v.lastOpcode.toNat ||| putAt 24 v.result.code,
    putAt 0 v.cmdCount.toNat,
    countWord v 0 1 2 3,
    countWord v 4 5 6 7,
    (match v.faultLog with
      | some f => putAt 0 f.kind.code ||| putAt 4 f.port.code
      | none => 0) ||| putAt 8 (bit v.moreFaults) ||| putAt 16 v.faultCount,
    (match v.faultLog with
      | some f => putAt 0 f.addr.toNat
      | none => 0),
    counterPair v.counters.dropBudget v.counters.dropExhausted,
    counterPair v.counters.dropRange v.counters.dropHeldFull,
    counterPair v.counters.steals v.counters.lateGroups,
    counterPair v.counters.discards v.counters.scanDefers,
    putAt 0 v.counters.pQueueDefers ]

/-- The eight words of the `k`-th access of a snapshot: words 8k..8k+7, with zero in words 14..31 (R180, R187). -/
def snapshotWords (v : StatusView) (k : Fin 4) : Tbl 8 Word :=
  Tbl.ofFn fun i => (statusWords v).getD (8 * k.val + i.val) 0

/-! ### The command slot (12.3) -/

/-- The command an opcode names. -/
def opcodeOf (b : Byte) : Option Opcode :=
  match b.toNat with
  | 1 => some .perform
  | 2 => some .standby
  | 3 => some .swap
  | 4 => some .panic
  | 5 => some .sustain
  | 6 => some .guard
  | 7 => some .guardLock
  | 8 => some .ack
  | 9 => some .reinit
  | 10 => some .flush
  | _ => none

/-- The commands that carry an argument (R167). -/
def Opcode.hasArg : Opcode → Bool
  | .swap | .standby | .sustain | .guard | .ack => true
  | .perform | .panic | .guardLock | .reinit | .flush => false

/-- The commands an invalid descriptor leaves permitted (R167). -/
def Opcode.anyDescriptor : Opcode → Bool
  | .reinit | .ack | .guard | .guardLock | .flush => true
  | .perform | .standby | .swap | .panic | .sustain => false

/-- The mode a SWAP argument names. -/
def swapModeOf (w : Word) : Option SwapMode :=
  match fieldAt w 0 2 with
  | 1 => some .latch
  | 2 => some .restrike
  | _ => none

/-- The guard mode a GUARD argument names. -/
def guardModeOf (w : Word) : Option GuardMode :=
  match fieldAt w 16 2 with
  | 0 => some .off
  | 1 => some .inside
  | 2 => some .outside
  | _ => none

/-- The request of a command write (R165, 10.6): word 0 alone with all mask bits, or words 0 and 1 LINEAR. -/
def commandRequest (c : Control) (opcode : Byte) (w : CmdWrite) : WriteReq :=
  let word0 : Word := w.high ++ opcode
  match w.arg with
  | none =>
    { start := controlAddr c Config.commandOffset, more := 0, order := .linear, mask := 0xF,
      data := ⟨[word0, 0, 0, 0, 0, 0, 0, 0], rfl⟩ }
  | some a =>
    { start := controlAddr c Config.commandOffset, more := 1, order := .linear, mask := 0xF,
      data := ⟨[word0, a, 0, 0, 0, 0, 0, 0], rfl⟩ }

end Sys2Proof.Machine
end

