-- ==== Sys2Proof/Machine/ScanMonitor.lean ====
section
/-! DEFINITION. The scan monitor's operations on its own block (Chapter 3). -/

namespace Sys2Proof.Machine

/-- The named words in ascending address order (R43 takes the button bytes in ascending position order). -/
def insertByAddr (w : NamedWord) : List NamedWord → List NamedWord
  | [] => [w]
  | v :: vs => if w.addr.toNat ≤ v.addr.toNat then w :: v :: vs else v :: insertByAddr w vs

def sortByAddr (ws : List NamedWord) : List NamedWord := ws.foldr insertByAddr []

/-- The new states that one word gives to the positions it writes, below USED_POSITIONS (R41, R43): down when the
byte is nonzero. -/
def buttonsOfWord (d : Desc) (w : NamedWord) : List (Pos × Bool) :=
  ((List.range 4).filter fun i =>
      w.mask.getLsbD i && decide (offsetFrom d.scan w.addr + i < min 256 d.used.toNat)).map fun i =>
    (Fin.ofNat 256 (offsetFrom d.scan w.addr + i), byteAt w.data i != 0)

/-- The new states that a SCAN part gives, in ascending position order (R43). -/
def buttonChanges (d : Desc) (ws : List NamedWord) : List (Pos × Bool) :=
  (sortByAddr ws).flatMap (buttonsOfWord d)

/-- The pressure a SCAN part carries: present when it writes both bytes 256 and 257 (R48). -/
def pressureOf (d : Desc) (ws : List NamedWord) : Option Int :=
  (ws.find? fun w => decide (w.addr.toNat = d.scan.toNat + 256) && w.mask.getLsbD 0 && w.mask.getLsbD 1).map
    fun w => (bitsAt w.data 0 16).toInt

/-- The event a new state makes in PERFORMING (R44). -/
def eventOf (eff : Bool) (c : Cond) (p : Pos) (isDown : Bool) : Option ButtonEvent :=
  match c, isDown with
  | .up, true => if eff then none else some { isPress := true, pos := p }
  | .down, false => some { isPress := false, pos := p }
  | _, _ => none

/-- The condition after a new state (R44, R45). -/
def condAfter (op : OpState) (eff : Bool) (c : Cond) (isDown : Bool) : Cond :=
  match c, isDown with
  | _, false => .up
  | .up, true =>
    match op with
    | .performing => if eff then .hushed else .down
    | .settling => .hushed
    | .held | .init | .transparent => .down
  | .down, true => .down
  | .hushed, true => .hushed

/-- One new state is applied to its position (R44 in PERFORMING, R45 otherwise). -/
def Scan.apply (op : OpState) (eff : Bool) (sc : Scan) (x : Pos × Bool) : Scan :=
  let c := sc.down.get x.1
  { sc with
    down := sc.down.set x.1 (condAfter op eff c x.2)
    events := if op = .performing then sc.events ++ (eventOf eff c x.1 x.2).toList else sc.events }

/-- The number of events a SCAN part would create (R46): 0 outside PERFORMING. -/
def eventCount (op : OpState) (eff : Bool) (sc : Scan) (changes : List (Pos × Bool)) : Nat :=
  if op = .performing then
    (changes.filter fun x => (eventOf eff (sc.down.get x.1) x.1 x.2).isSome).length
  else 0

/-- The free space of the button event queue (R46). -/
def Scan.freeSpace (sc : Scan) : Nat := Config.eventMax - sc.events.length

/-- Every down position is marked hushed (R49, R50). -/
def hushCond : Cond → Cond
  | .down => .hushed
  | .up => .up
  | .hushed => .hushed

/-- Entry to PERFORMING (R49). -/
def Scan.enterPerforming (sc : Scan) : Scan := { sc with down := sc.down.map hushCond, silence := 0 }

/-- A flush of the button event queue (R47). -/
def Scan.flush (sc : Scan) : Scan := { sc with events := [] }

/-- A hush at the scan monitor (R50). -/
def Scan.hush (sc : Scan) : Scan := { sc with events := [], down := sc.down.map hushCond }

/-- Whether a frame start advances the silence counter (R52). -/
def Scan.counts (d : Desc) (op : OpState) (sc : Scan) : Bool :=
  decide (op = .performing ∧ d.silenceLimit.toNat ≠ 0 ∧ sc.silence < d.silenceLimit.toNat)

/-- Whether a frame start trips the watchdog (R52). -/
def Scan.trips (d : Desc) (op : OpState) (sc : Scan) : Bool :=
  sc.counts d op && decide (sc.silence + 1 = d.silenceLimit.toNat)

/-- The watchdog's effect on the scan monitor itself (R53): every position up, the queue flushed. -/
def Scan.trip (sc : Scan) : Scan := { sc with down := Tbl.fill 256 .up, events := [] }

/-- A frame start at the scan monitor's counter (R52). -/
def Scan.tick (d : Desc) (op : OpState) (sc : Scan) : Scan :=
  if sc.counts d op then { sc with silence := sc.silence + 1 } else sc

/-- The down image brought into line with a new descriptor copy at the end of INIT (R55). -/
def Scan.align (valid : Bool) (d : Desc) (sc : Scan) : Scan :=
  if valid then
    { sc with down := Tbl.ofFn fun p => if p.val < d.used.toNat then sc.down.get p else .up }
  else { sc with down := Tbl.fill 256 .up }

end Sys2Proof.Machine
end

