-- ==== Sys2Proof/Machine/Tracker.lean ====
section
/-! DEFINITION. The bellows tracker's operations on its own block (Chapter 4). -/

namespace Sys2Proof.Machine

/-- The pressure clamped to full scale (R57 step 1). -/
def clampPressure (p : Int) : Int := max (-2047) (min 2047 p)

/-- The motion after a sample (R58): the rows are tested in order. -/
def motionAfter (d : Desc) (m : Motion) (p : Int) : Motion :=
  if (d.onset.toNat : Int) ≤ p then .push
  else if p ≤ -(d.onset.toNat : Int) then .pull
  else if p.natAbs < d.rest.toNat then .rest
  else m

/-- The direction a motion names. -/
def Motion.dir? : Motion → Option Dir
  | .rest => none
  | .push => some .push
  | .pull => some .pull

/-- The sounding direction changes to `m` (R59), with a reversal notice in PERFORMING (R61). -/
def Bellows.turn (d : Desc) (op : OpState) (m : Dir) (b : Bellows) : Bellows :=
  { b with
    dir := m
    hold := d.reverseHold.toNat
    reversals := b.reversals + 1
    revNotice := if op = .performing then some m else b.revNotice }

/-- The test of the sounding direction (R59). -/
def Bellows.testDir (d : Desc) (op : OpState) (b : Bellows) : Bellows :=
  match b.motion.dir? with
  | none => b
  | some m => if m ≠ b.dir ∧ b.hold = 0 then b.turn d op m else b

/-- The size of the difference of two magnitudes. -/
def gap (m n : Nat) : Nat := if m ≤ n then n - m else m - n

/-- The test of the level (R62). -/
def Bellows.testLevel (d : Desc) (b : Bellows) : Bellows :=
  if d.levelStep.toNat ≤ gap b.magnitude b.notified ∨ (b.magnitude = 0 ∧ b.notified ≠ 0) then
    { b with levelNotice := some b.magnitude, notified := b.magnitude }
  else b

/-- A pressure sample (R57). -/
def Bellows.sample (d : Desc) (op : OpState) (p : Int) (b : Bellows) : Bellows :=
  let q := clampPressure p
  let b₁ : Bellows := { b with magnitude := q.natAbs, motion := motionAfter d b.motion q }
  let b₂ := b₁.testDir d op
  match op with
  | .performing | .settling => b₂.testLevel d
  | .held | .init | .transparent => b₂

/-- A frame start at the tracker (R60). -/
def Bellows.frame (d : Desc) (op : OpState) (b : Bellows) : Bellows :=
  if b.hold = 0 then b
  else
    let b₁ : Bellows := { b with hold := b.hold - 1 }
    if b₁.hold = 0 then b₁.testDir d op else b₁

/-- Entry to PERFORMING (R64). -/
def Bellows.enterPerforming (b : Bellows) : Bellows :=
  { b with revNotice := some b.dir, levelNotice := some b.magnitude, notified := b.magnitude }

/-- Both notices become absent (R66, R68). -/
def Bellows.dropNotices (b : Bellows) : Bellows := { b with revNotice := none, levelNotice := none }

end Sys2Proof.Machine
end

