-- ==== Sys2Proof/Machine/Update.lean ====
section
/-! DEFINITION. One setter for each block of the state: every operation writes a block through its setter. -/

namespace Sys2Proof.Machine.State

def setPins (s : State) (x : Pins) : State := { s with pins := x }
def setPorts (s : State) (x : Ports) : State := { s with ports := x }
def setTimebase (s : State) (x : Nat) : State := { s with timebase := x }
def setPlayer (s : State) (x : PlayerQueue) : State := { s with player := x }
def setArb (s : State) (x : Arbiter) : State := { s with arb := x }
def setScan (s : State) (x : Scan) : State := { s with scan := x }
def setBellows (s : State) (x : Bellows) : State := { s with bellows := x }
def setMap (s : State) (x : MapUnit) : State := { s with map := x }
def setEng (s : State) (x : Engine) : State := { s with eng := x }
def setVoice (s : State) (x : VoiceWriter) : State := { s with voice := x }
def setTone (s : State) (x : Tone) : State := { s with tone := x }
def setCtrl (s : State) (x : Control) : State := { s with ctrl := x }
def setStat (s : State) (x : Status) : State := { s with stat := x }

end Sys2Proof.Machine.State
end

