-- ==== Sys2Proof/Machine/Flags.lean ====
section
/-! DEFINITION. The status unit (Chapter 11): the status fields, staleness, event flags, the fault log, the
counters, a command's result and IRQ. -/

namespace Sys2Proof.Machine

/-- The state INIT is about to enter (R16). -/
def initTarget (c : Control) : OpState := if c.valid && c.boot then .performing else .transparent

/-- The operating state field: during INIT's snapshot phase it already shows the state INIT enters (R16). -/
def opField (c : Control) : OpState :=
  match c.phase with
  | some .snapshot => initTarget c
  | _ => c.op

/-- Every status field, counter, flag and the fault log, as they stand (R177, R178). -/
def statusView (s : State) : StatusView :=
  { op := opField s.ctrl
    bank := s.ctrl.bank
    swapPending := s.ctrl.swap.isSome
    sustain := s.ctrl.sustain
    hushEffective := s.ctrl.hushEffective
    motion := s.bellows.motion
    dir := s.bellows.dir
    magnitude := s.bellows.magnitude
    reversals := s.bellows.reversals
    frame := s.tone.frame
    voicesInUse := s.eng.order.length
    heldCount := s.eng.held.length
    counts := s.eng.counts
    eventDepth := s.scan.events.length
    flags := s.stat.flags
    lastOpcode := s.stat.lastOpcode
    result := s.stat.result
    cmdCount := s.stat.cmdCount
    faultLog := s.stat.faultLog
    moreFaults := s.stat.moreFaults
    faultCount := s.stat.faultCount
    counters := s.stat.counters }

/-- The status unit takes the reports of a change from `before` to `after`: a changed field, counter, flag or
fault log sets the stale mark and the change-since-image mark (R179, R180); a report that leaves every field at
its value is no change (R177). -/
def report (before after : State) : State :=
  if statusView before = statusView after then after
  else after.setStat { after.stat with stale := true, changed := true }

/-! ### Event flags (12.1, R182) -/

def flagFault : BitVec 7 := 1
def flagSwapDone : BitVec 7 := 2
def flagSettled : BitVec 7 := 4
def flagScanSilent : BitVec 7 := 8
def flagDrop : BitVec 7 := 16
def flagGroupLate : BitVec 7 := 32
def flagHushed : BitVec 7 := 64

/-- Raise event flags; a flag already set stays set and is no change (R182). -/
def raiseFlag (f : BitVec 7) (s : State) : State :=
  report s (s.setStat { s.stat with flags := s.stat.flags ||| f })

/-- A 16-bit counter rises by 1 and stays at 65535 (R178). -/
def bump (n : Nat) : Nat := if n < Config.counterMax then n + 1 else n

/-- Log a fault (R181): the count rises, the first fault is kept, a later one sets the more-faults mark, and FAULT
is raised. -/
def logFault (kind : FaultKind) (port : PortId) (addr : Addr) (s : State) : State :=
  let st := s.stat
  let logged : Status :=
    match st.faultLog with
    | none => { st with faultLog := some { kind := kind, port := port, addr := addr }, moreFaults := false }
    | some _ => { st with moreFaults := true }
  raiseFlag flagFault (report s (s.setStat { logged with faultCount := bump st.faultCount }))

/-- Change the counters (R178). -/
def setCounters (f : Counters → Counters) (s : State) : State :=
  report s (s.setStat { s.stat with counters := f s.stat.counters })

/-- The reasons of a drop (R105). -/
inductive DropReason where
  | budget
  | exhausted
  | range
  | heldFull
deriving DecidableEq, Repr

/-- A drop raises its counter and the flag DROP (R105). -/
def dropFor (r : DropReason) (s : State) : State :=
  raiseFlag flagDrop (setCounters (fun c =>
    match r with
    | .budget => { c with dropBudget := bump c.dropBudget }
    | .exhausted => { c with dropExhausted := bump c.dropExhausted }
    | .range => { c with dropRange := bump c.dropRange }
    | .heldFull => { c with dropHeldFull := bump c.dropHeldFull }) s)

/-- ACK clears the flags of its mask and, with the FAULT bit, empties the fault log (R183). -/
def ackFlags (mask : BitVec 7) (s : State) : State :=
  let st := { s.stat with flags := s.stat.flags &&& ~~~mask }
  report s (s.setStat (if mask &&& flagFault = 0 then st else { st with faultLog := none, moreFaults := false }))

/-! ### Command results (R166) -/

/-- A command is taken: last opcode, command count, and PENDING until its result is given. -/
def takeOpcode (opcode : Byte) (s : State) : State :=
  report s (s.setStat { s.stat with
    lastOpcode := opcode, cmdCount := s.stat.cmdCount + 1, result := .pending, awaited := .command })

/-- The command that `who` names has finished with the result `r`: the record takes it only if no later command
has been taken meanwhile. -/
def finish (who : Awaited) (r : CmdResult) (s : State) : State :=
  if s.stat.awaited = who then
    report s (s.setStat { s.stat with result := r, awaited := .none })
  else s

/-- The command being taken or acting stays PENDING, and `who` names it from now on. -/
def leavePending (who : Awaited) (s : State) : State :=
  if s.stat.awaited = .command then s.setStat { s.stat with awaited := who } else s

/-! ### IRQ (R184) -/

/-- The mask in use: the copy's while the mark shows valid, all seven bits otherwise (R5, R184). -/
def irqMask (c : Control) : BitVec 7 := if c.valid then c.copy.irqMask else 0x7F

/-- IRQ is high while an unmasked flag is set, and low throughout HELD and INIT (R184). -/
def irq (s : State) : Bool :=
  match s.ctrl.op with
  | .held => false
  | .init => false
  | .transparent | .performing | .settling => decide (s.stat.flags &&& irqMask s.ctrl ≠ 0)

/-! ### Snapshots (R180) -/

/-- A snapshot begins: the image is taken and the change-since-image mark is cleared. -/
def beginSnapshot (s : State) : State :=
  s.setStat { s.stat with snapshot := some { image := statusView s, next := 0 }, changed := false }

end Sys2Proof.Machine
end

