-- ==== Sys2Proof/Machine/Fetcher.lean ====
section
/-! DEFINITION. The map unit: the map cache, the section cache's reload marks and the fetcher (Chapter 5). -/

namespace Sys2Proof.Machine

/-! ### What the P write queue holds (R32) -/

/-- The queue holds a write to the word at `a`, whatever its byte mask. -/
def holdsWord (q : PlayerQueue) (a : Addr) : Bool :=
  q.writes.any fun w => (namedAddrs w.toReadReq).contains a

/-- The queue holds a write into the area of `size` bytes at `base`. -/
def holdsArea (q : PlayerQueue) (base size : Nat) : Bool :=
  q.writes.any fun w => (namedAddrs w.toReadReq).any fun a => within base size a.toNat

/-! ### The fetcher (R82, R83) -/

/-- The access a fetch makes: start address and length (R14, R13, R73, R74, R87, R168). The second access of a
program fetch reads word 8 alone. -/
def fetchAccess (c : Control) (f : Fetch) : ReadReq :=
  let d := c.copy
  match f.kind with
  | .entry b p => { start := d.mapBase b + BitVec.ofNat 24 (4 * p.val), more := 0, order := .linear }
  | .program n =>
    match f.first with
    | none => { start := d.programs + BitVec.ofNat 24 (64 * n.val), more := 7, order := .linear }
    | some _ => { start := d.programs + BitVec.ofNat 24 (64 * n.val + 32), more := 0, order := .linear }
  | .reload i => { start := d.sections + BitVec.ofNat 24 (16 * i.val), more := 3, order := .linear }
  | .argument => { start := controlAddr c (Config.commandOffset + 4), more := 0, order := .linear }
  | .descriptor k => { start := controlAddr c (32 * k.val), more := 7, order := .linear }
  | .sections k => { start := d.sections + BitVec.ofNat 24 (32 * k.val), more := 7, order := .linear }

/-- A fetch's access is eligible while the P write queue holds no write to a word it reads (R38, R83). -/
def eligible (s : State) (f : Fetch) : Bool :=
  (namedAddrs (fetchAccess s.ctrl f)).all fun a => !holdsWord s.player a

/-- A fetch as the fetcher chooses it: nothing read yet. -/
def Fetch.begin (k : FetchKind) : Fetch := { kind := k, overtaken := false, first := none }

/-- The control unit's requested read: INIT's phases (R13, R14), or a command argument (R168). -/
def controlRead (c : Control) : Option FetchKind :=
  match c.phase with
  | some (.descriptor k _ _) => some (.descriptor k)
  | some (.sections k) => some (.sections k)
  | _ => if c.argRead = .requested then some .argument else none

/-- The section records whose reload is requested, lowest number first (R82, R86). -/
def reloads (m : MapUnit) : List FetchKind :=
  ((List.finRange 8).filter fun i => decide ((m.sects.get i).mark ≠ .clear)).map .reload

/-- The voicing engine's requested fetch (R74). -/
def EngReq.kind : EngReq → FetchKind
  | .entry b p => .entry b p
  | .program n => .program n

/-- The requested fetches in the fetcher's order (R82). -/
def requested (s : State) : List FetchKind :=
  (controlRead s.ctrl).toList ++ reloads s.map ++ (s.map.engReq.map EngReq.kind).toList

/-- What the choice of a fetch changes besides the fetch in flight: the request it serves (R82). -/
def noteChosen (k : FetchKind) (s : State) : State :=
  match k with
  | .argument => s.setCtrl { s.ctrl with argRead := .inFlight }
  | .entry _ _ | .program _ => s.setMap { s.map with engReq := none }
  | .reload _ | .descriptor _ | .sections _ => s

/-- The fetcher chooses the first eligible requested fetch when none is in flight (R82). -/
def chooseFetch (s : State) : State :=
  match s.map.fetch with
  | some _ => s
  | none =>
    match (requested s).find? (fun k => eligible s (Fetch.begin k)) with
    | none => s
    | some k =>
      let s₁ := noteChosen k s
      s₁.setMap { s₁.map with fetch := some (Fetch.begin k) }

/-- The fetch in flight holds the M-port: its access has been granted and is not answered (R79). -/
def fetchGranted (s : State) : Bool :=
  match s.map.fetch, s.arb.access with
  | some f, some a => decide (a.owner = .fetch f.kind ∧ a.drop = .live)
  | _, _ => false

/-- The fetch in flight has ended. -/
def endFetch (s : State) : State := s.setMap { s.map with fetch := none }

/-! ### The map cache (R76..R80) -/

/-- Drop the cache entry of a tag, if any. -/
def evict (b : Bank) (p : Pos) (cache : List CacheEntry) : List CacheEntry :=
  cache.filter fun e => !decide (e.bank = b ∧ e.pos = p)

/-- The cache entry of a tag. -/
def lookupEntry (b : Bank) (p : Pos) (cache : List CacheEntry) : Option CacheEntry :=
  cache.find? fun e => decide (e.bank = b ∧ e.pos = p)

/-- A hit makes the entry the most recently used (R76). -/
def promote (e : CacheEntry) (cache : List CacheEntry) : List CacheEntry := e :: evict e.bank e.pos cache

/-- Installing a word (R77): the least recently used entry makes room, and the new one is the most recently used. -/
def install (e : CacheEntry) (cache : List CacheEntry) : List CacheEntry :=
  (e :: evict e.bank e.pos cache).take Config.cacheMax

/-- Mark the map entry fetch that holds the M-port as overtaken when `which` holds of it (R79, R80). -/
def overtake (which : Bank → Pos → Bool) (s : State) : State :=
  match s.map.fetch with
  | some f =>
    match f.kind with
    | .entry b p =>
      if fetchGranted s && which b p then s.setMap { s.map with fetch := some { f with overtaken := true } } else s
    | .program _ | .reload _ | .argument | .descriptor _ | .sections _ => s
  | none => s

/-- An accepted write names the entry of position `p` in bank `b` (R78, R79). -/
def writesEntry (b : Bank) (p : Pos) (s : State) : State :=
  let s₁ := s.setMap { s.map with cache := evict b p s.map.cache }
  overtake (fun b' p' => decide (b' = b ∧ p' = p)) s₁

/-- FLUSH at the map unit (R80). -/
def flushCache (s : State) : State :=
  overtake (fun _ _ => true) (s.setMap { s.map with cache := [] })

/-! ### Reload marks (R86, R87) -/

/-- An accepted write names a word of section record `i` (R86). -/
def markSection (i : SectNo) (m : MapUnit) : MapUnit :=
  let r := m.sects.get i
  let inFlight := decide (m.fetch.map (·.kind) = some (.reload i))
  let mark' : ReloadMark :=
    match r.mark with
    | .clear => .set
    | .set => if inFlight then .setAgain else .set
    | .setAgain => .setAgain
  { m with sects := m.sects.set i { r with mark := mark' } }

/-- The mark after a reload has landed (R87): set again goes back to set, and a fresh reload is requested. -/
def ReloadMark.landed : ReloadMark → ReloadMark
  | .clear => .clear
  | .set => .clear
  | .setAgain => .set

/-- Every reload mark is cleared (R81). -/
def clearMarks (t : Tbl 8 SectRecord) : Tbl 8 SectRecord := t.map fun r => { r with mark := .clear }

end Sys2Proof.Machine
end

