-- ==== Sys2Proof/Machine/VoiceOps.lean ====
section
/-! DEFINITION. The voice writer's queue and groups, the held-read slot, and the push of a voice write with its
mirror, list and count changes (Chapters 6 and 7). -/

namespace Sys2Proof.Machine

/-! ### The gate and the held-read slot (R121..R125) -/

/-- A read touches the group: it names a word of the record of a slot the group has written (R121). -/
def touchesGroup (d : Desc) (r : ReadReq) (g : Group) : Bool :=
  (touchedSlots d r).any fun i => g.slots.contains i

/-- A read touches an OPEN group (R121). -/
def touchesOpen (s : State) (r : ReadReq) : Bool :=
  s.voice.groups.any fun g => !g.late && touchesGroup s.ctrl.copy r g

/-- A WAITING slot that no OPEN group touches, and whose last fill has been answered, begins to fill (R124). -/
def tryFill (s : State) : State :=
  match s.tone.slot with
  | .waiting r =>
    if s.tone.fill = .none ∧ touchesOpen s r = false then
      s.setTone { s.tone with slot := .filling r, fill := .live, turns := s.tone.turns ++ [.fill] }
    else s
  | .vacant | .filling _ | .ready _ _ _ => s

/-- A touching push of slot `i` drops a FILLING or READY held read back to WAITING (R125). -/
def touchHeld (d : Desc) (i : Slot) (t : Tone) : Tone :=
  match t.slot with
  | .filling r => if (touchedSlots d r).contains i then { t with slot := .waiting r, fill := .discarded } else t
  | .ready r _ _ => if (touchedSlots d r).contains i then { t with slot := .waiting r } else t
  | .vacant | .waiting _ => t

/-! ### Update groups (R117, R118) -/

/-- The group of the current item: the one still filling. -/
def fillingGroup (v : VoiceWriter) : Option Group := v.groups.find? (·.filling)

/-- The tag a grouped push carries: the current group's, or the next tag when the push opens a group (R117). -/
def pushTag (v : VoiceWriter) : Nat :=
  match fillingGroup v with
  | some g => g.tag
  | none => v.nextTag

/-- The tag after `n`: 15 is followed by 1 (R117). -/
def tagAfter (n : Nat) : Nat := if n < Config.tagMax then n + 1 else 1

/-- A slot number joins a set of slots. -/
def addSlot (i : Slot) (l : List Slot) : List Slot := if l.contains i then l else l ++ [i]

/-- A grouped push of slot `i` is counted into its group, which its first push opens (R117). `starts` for a FULL
write (R103). -/
def joinGroup (i : Slot) (starts : Bool) (now : Nat) (v : VoiceWriter) : VoiceWriter :=
  match fillingGroup v with
  | some _ =>
    { v with groups := v.groups.map fun g =>
        if g.filling then
          { g with
            slots := addSlot i g.slots
            started := if starts then addSlot i g.started else g.started
            notLanded := g.notLanded + 1 }
        else g }
  | none =>
    { v with
      groups := v.groups ++ [{
        tag := v.nextTag, slots := [i], started := if starts then [i] else [], notLanded := 1, filling := true,
        openedAt := now, late := false }]
      nextTag := tagAfter v.nextTag }

/-- A push of slot `i` into the current group is a touching push (R117): it adds the slot to an OPEN group. -/
def isTouching (i : Slot) (v : VoiceWriter) : Bool :=
  match fillingGroup v with
  | some g => !g.late && !g.slots.contains i
  | none => true

/-- A group closes once its filling is no and its writes have all landed (R118). -/
def Group.closable (g : Group) : Bool := !g.filling && g.notLanded == 0

/-- Every closable group leaves the table, and a held read freed by it begins to fill (R118, R124). -/
def closeGroups (s : State) : State :=
  tryFill (s.setVoice { s.voice with groups := s.voice.groups.filter fun g => !g.closable })

/-- The owning item or step has ended: filling becomes no (R117). -/
def endFilling (s : State) : State :=
  closeGroups (s.setVoice { s.voice with groups := s.voice.groups.map fun g => { g with filling := false } })

/-- A write with the tag has landed (R116). -/
def landTag (tag : Option Nat) (v : VoiceWriter) : VoiceWriter :=
  match tag with
  | none => v
  | some n => { v with groups := v.groups.map fun g =>
      if g.tag = n then { g with notLanded := g.notLanded - 1 } else g }

/-! ### Pushing (R96, R98, R99, R115, R119) -/

/-- The writes that carry the item's group tag (R96, R108, R146). -/
def Push.grouped : Push → Bool
  | .full _ _ _ _ _ _ => true
  | .releasing _ _ _ => true
  | .freeing _ g => g
  | .level _ _ => false
  | .blank _ => false

/-- The push need not wait (R119): the voice write queue has room and, if it would open a group, so has the group
table. -/
def canPush (s : State) (p : Push) : Bool :=
  decide (s.voice.queue.length < Config.voiceQueueMax) &&
    (!p.grouped || (fillingGroup s.voice).isSome || decide (s.voice.groups.length < Config.groupMax))

/-- The element that follows `x` in the list. -/
def nextAfter {α : Type} [DecidableEq α] (x : α) : List α → Option α
  | [] => none
  | [_] => none
  | y :: z :: l => if y = x then some z else nextAfter x (z :: l)

/-- The level sweep's place when slot `i` leaves its place in the sounding order (R132). -/
def sweepPast (i : Slot) (e : Engine) : Option Slot :=
  if e.sweep = some i then nextAfter i e.order else e.sweep

/-- Slot `i` leaves every voice list; it stands in at most its owner's (R92). -/
def unlist (i : Slot) (held : List HeldRec) : List HeldRec :=
  held.map fun r => { r with voices := r.voices.filter fun j => decide (j ≠ i) }

/-- Slot `i` joins the voice list of the record of `p` (R92, R102). -/
def enlist (p : Pos) (i : Slot) (held : List HeldRec) : List HeldRec :=
  held.map fun r => if r.pos = p then { r with voices := r.voices ++ [i] } else r

/-- A section count changes (R91). -/
def addCount (sect : SectNo) (f : Nat → Nat) (counts : Tbl 8 Nat) : Tbl 8 Nat :=
  counts.set sect (f (counts.get sect))

/-- The level of a voice (R100): the section's curve at the applied magnitude, rounded toward zero, with the trim,
clamped to 0..255. -/
def levelOf (m : Nat) (curve : Tbl 9 Nat) (trim : Int) : Nat :=
  let k := m / 256
  let c := fun (i : Nat) => ((curve.get (Fin.ofNat 9 i) : Nat) : Int)
  let onCurve := c k + ((c (k + 1) - c k) * ((m : Int) - 256 * k)).tdiv 256
  (max 0 (min 255 (onCurve + trim))).toNat

/-- The level of a voice of the section with the trim, as it stands (R100). -/
def levelFor (s : State) (sect : SectNo) (trim : Int) : Nat :=
  levelOf s.eng.appliedMag (s.map.sects.get sect).curve trim

/-- The pitch of a layer under a transpose (R102). -/
def pitchOf (note : Nat) (transpose : Int) : Int := (note : Int) + transpose

/-- Slot `i` starts a voice (R90, R91, R98, R104): it joins the tail of the sounding order, from the free list or
by a steal, and takes the mirror record `rec`. -/
def startVoice (p : Pos) (i : Slot) (steal : Bool) (rec : SlotRec) (e : Engine) : Engine :=
  let old := e.mirror.get i
  if steal then
    if i ∈ e.order then
      { e with
        mirror := e.mirror.set i rec
        order := e.order.filter (fun j => decide (j ≠ i)) ++ [i]
        sweep := sweepPast i e
        counts := addCount rec.sect (· + 1) (addCount old.sect (· - 1) e.counts)
        held := enlist p i (unlist i e.held) }
    else e
  else
    if i ∈ e.free then
      { e with
        mirror := e.mirror.set i rec
        free := e.free.filter (fun j => decide (j ≠ i))
        order := e.order ++ [i]
        counts := addCount rec.sect (· + 1) e.counts
        held := enlist p i (unlist i e.held) }
    else e

/-- Slot `i` becomes FREE (R90, R91, R99): it leaves the sounding order for the tail of the free list. -/
def freeSlot (i : Slot) (e : Engine) : Engine :=
  let old := e.mirror.get i
  if i ∈ e.order then
    { e with
      mirror := e.mirror.set i { old with state := .free, owner := none, countdown := none }
      order := e.order.filter (fun j => decide (j ≠ i))
      sweep := sweepPast i e
      free := e.free ++ [i]
      counts := addCount old.sect (· - 1) e.counts
      held := unlist i e.held }
  else e

/-- Slot `i` becomes RELEASING with the countdown `latch` (R90, R99, R107): it leaves its voice list and keeps its
place. -/
def releaseSlot (i : Slot) (latch : Nat) (e : Engine) : Engine :=
  let old := e.mirror.get i
  if i ∈ e.order then
    { e with
      mirror := e.mirror.set i { old with state := .releasing, owner := none, countdown := some latch }
      held := unlist i e.held }
  else e

/-- The mirror record of a voice started by a FULL write (R98). -/
def startedRec (old : SlotRec) (p : Pos) (steal : Bool) (l : Layer) (idx : Fin 8) (level : Nat) : SlotRec :=
  { state := .sounding, sect := l.sect, owner := some p, layer := idx, trim := l.trim, stolen := steal,
    level := level, countdown := none, gen := old.gen + 1 }

/-- The transpose of the record of `p`. -/
def transposeOf (e : Engine) (p : Pos) : Int :=
  match e.held.find? (fun r => decide (r.pos = p)) with
  | some r => r.snap.transpose
  | none => 0

/-- The data that a push writes (R98, R99, R15). -/
def pushBody (s : State) : Push → VoiceBody
  | .full p i steal l idx dir =>
    let r := startedRec (s.eng.mirror.get i) p steal l idx (levelFor s l.sect l.trim)
    .full (voiceWord0 .sounding steal l.sect idx r.gen p.val)
      (voiceWord1 l.patch (pitchOf l.note (transposeOf s.eng p)).toNat l.pan)
      (voiceWord2 r.level) (voiceWord3 s.tone.frame dir)
  | .releasing p i _ =>
    let r := s.eng.mirror.get i
    .state (voiceWord0 .releasing r.stolen r.sect r.layer r.gen p.val)
  | .freeing i _ => .state (voiceWord0 .free false 0 0 (s.eng.mirror.get i).gen 0)
  | .level _ lvl => .level (voiceWord2 lvl)
  | .blank _ => .full (voiceWord0 .free false 0 0 0 0) 0 0 0

/-- The slot a push writes. -/
def Push.slot : Push → Slot
  | .full _ i _ _ _ _ => i
  | .releasing _ i _ => i
  | .freeing i _ => i
  | .level i _ => i
  | .blank i => i

/-- The push is a FULL write of a voice (R103). -/
def Push.starts : Push → Bool
  | .full _ _ _ _ _ _ => true
  | .releasing _ _ _ => false
  | .freeing _ _ => false
  | .level _ _ => false
  | .blank _ => false

/-- The push takes its slot by a steal (R104). -/
def Push.steals : Push → Bool
  | .full _ _ steal _ _ _ => steal
  | .releasing _ _ _ => false
  | .freeing _ _ => false
  | .level _ _ => false
  | .blank _ => false

/-- The mirror, list and count changes of a push (R89, R96). -/
def pushEngine (s : State) (p : Push) (e : Engine) : Engine :=
  match p with
  | .full pos i steal l idx _ =>
    startVoice pos i steal (startedRec (e.mirror.get i) pos steal l idx (levelFor s l.sect l.trim)) e
  | .releasing _ i latch => releaseSlot i latch e
  | .freeing i _ => freeSlot i e
  | .level i lvl => { e with mirror := e.mirror.set i { e.mirror.get i with level := lvl } }
  | .blank i => if i ∈ e.order then e else { e with mirror := e.mirror.set i SlotRec.reset }

/-- The write joins the voice write queue, counted into its group (R115, R117). -/
def pushWriter (s : State) (p : Push) (v : VoiceWriter) : VoiceWriter :=
  let w : VoiceWrite :=
    { slot := p.slot, body := pushBody s p, tag := if p.grouped then some (pushTag v) else none }
  let v₁ := if p.grouped then joinGroup p.slot p.starts s.timebase v else v
  { v₁ with queue := v₁.queue ++ [w] }

/-- The tone port's part of a push: a touching push may drop the held read (R125). -/
def pushTone (s : State) (p : Push) (t : Tone) : Tone :=
  if p.grouped && isTouching p.slot s.voice then touchHeld s.ctrl.copy p.slot t else t

/-- One write is pushed, with every change that goes with it, together (R96). -/
def doPush (p : Push) (s : State) : State :=
  let s₁ := ((s.setEng (pushEngine s p s.eng)).setVoice (pushWriter s p s.voice)).setTone (pushTone s p s.tone)
  let s₂ := report s s₁
  if p.steals then setCounters (fun c => { c with steals := bump c.steals }) s₂ else s₂

end Sys2Proof.Machine
end

