-- ==== Sys2Proof/Machine/Ops.lean ====
section
/-! DEFINITION. The operations that reach several blocks: sustain, swaps, hush, the operating states and their
transitions, frame starts, entry to HELD and the taking of REINIT. -/

namespace Sys2Proof.Machine

/-- The operating states in which requests are judged and commands taken. -/
def OpState.working : OpState → Bool
  | .transparent | .performing | .settling => true
  | .held | .init => false

/-! ### Pin enables in use (R5, R44) -/

def hushEnable (c : Control) : Bool := c.valid && c.copy.hushEnable

def sustEnable (c : Control) : Bool := c.valid && c.copy.sustEnable

/-- The HUSH pin is effective for a press (R44): enabled and read high. -/
def hushPinActive (c : Control) : Bool := hushEnable c && c.hushReading

/-! ### Effective sustain and HUSH effective (R156, R158) -/

/-- Effective sustain by the table of R156: off in HELD, INIT and SETTLING. -/
def sustainValue (c : Control) : Bool :=
  match c.op with
  | .transparent | .performing => (sustEnable c && c.sustReading) || c.sustainFlag
  | .held | .init | .settling => false

/-- HUSH effective (R158): no in HELD and INIT. -/
def hushValue (c : Control) : Bool := c.op.working && hushPinActive c

/-- Effective sustain and HUSH effective are worked out afresh, and reported when they change (R157, R158). -/
def workOut (s : State) : State :=
  report s (s.setCtrl { s.ctrl with sustain := sustainValue s.ctrl, hushEffective := hushValue s.ctrl })

/-- As `workOut`, at a change of an input: a change from on to off in PERFORMING starts the sustain-off walk (R143,
R157). -/
def workOutSustain (s : State) : State :=
  let s₁ := workOut s
  if s.ctrl.sustain && !s₁.ctrl.sustain && decide (s₁.ctrl.op = .performing) then
    s₁.setEng { s₁.eng with sustainWalk := true }
  else s₁

/-- The operating state changes; it is reported at each change (R164). -/
def setOp (op : OpState) (s : State) : State := report s (s.setCtrl { s.ctrl with op := op })

/-! ### Swaps (R151..R155) -/

/-- The P write queue holds a write into the bank's map region (R32, R153). -/
def holdsBank (s : State) (b : Bank) : Bool := holdsArea s.player (s.ctrl.copy.mapBase b).toNat 1024

/-- A swap completes (R154). -/
def completeSwap (s : State) : State :=
  let s₁ := report s (s.setCtrl { s.ctrl with swap := none })
  finish .swap .done (raiseFlag flagSwapDone s₁)

/-- A pending swap takes effect (R153, R154). -/
def takeSwap (w : Swap) (s : State) : State :=
  let s₁ := report s (s.setCtrl { s.ctrl with bank := w.incoming })
  if w.mode = .restrike ∧ s.ctrl.op = .performing then
    (s₁.setCtrl { s₁.ctrl with swap := some { w with taken := true } }).setEng { s₁.eng with restrikeWalk := true }
  else completeSwap s₁

/-- A test of a pending swap (R153). -/
def testSwap (s : State) : State :=
  match s.ctrl.swap with
  | some w => if !w.taken && !holdsBank s w.incoming then takeSwap w s else s
  | none => s

/-- A restrike walk stops or has ended; its end is reported and the swap completes (R133, R134, R140). -/
def endRestrike (s : State) : State :=
  if s.eng.restrikeWalk then completeSwap (s.setEng { s.eng with restrikeWalk := false }) else s

/-! ### Ending an item (R97) -/

/-- The fetch an ended item waits for: withdrawn when the fetcher has not chosen it, awaited for discard
otherwise. -/
def leaveFetch (w : Wait) (s : State) : State :=
  match w with
  | .entry _ _ | .program _ =>
    if s.map.engReq.isSome then s.setMap { s.map with engReq := none }
    else s.setEng { s.eng with awaitDiscard := true }
  | .push _ | .turnEntry _ | .turnProgram _ => s

/-- The current item is ended: no further push, its writes already pushed stay (R97). -/
def endItem (s : State) : State :=
  match s.eng.item with
  | some it => endFilling (leaveFetch it.wait (s.setEng { s.eng with item := none }))
  | none => s

/-- The current item is a hush. -/
def itemIsHush (e : Engine) : Bool :=
  match e.item with
  | some it => decide (it.kind = .hush)
  | none => false

/-- A pending hush ends the current item unless it is itself a hush (R97). -/
def endForHush (s : State) : State := if itemIsHush s.eng then s else endItem s

/-! ### Hush (R159) -/

/-- A hush is announced to the scan monitor (R50), the bellows tracker (R66) and the voicing engine (R95). -/
def announceHush (s : State) : State :=
  let s₁ := report s (s.setScan s.scan.hush)
  let s₂ := (s₁.setEng { s₁.eng with
      appliedDir := s₁.bellows.revNotice.getD s₁.eng.appliedDir
      appliedMag := s₁.bellows.levelNotice.getD s₁.eng.appliedMag
      hushPending := .source }).setBellows s₁.bellows.dropNotices
  endForHush s₂

/-! ### Transitions among the working states (R171..R175) -/

/-- Entry to PERFORMING (R171). -/
def enterPerforming (s : State) : State :=
  let s₁ := setOp .performing s
  let s₂ := (s₁.setScan s₁.scan.enterPerforming).setBellows s₁.bellows.enterPerforming
  workOut s₂

/-- Entry to TRANSPARENT (R175, R65). -/
def enterTransparent (s : State) : State :=
  let s₁ := workOut (setOp .transparent s)
  let s₂ := s₁.setBellows { s₁.bellows with levelNotice := none }
  testSwap s₂

/-- Entry to SETTLING (R172). -/
def enterSettling (s : State) : State :=
  let s₁ := setOp .settling s
  let s₂ := s₁.setCtrl { s₁.ctrl with settleFrames := 0, settleTimer := some s₁.timebase, settleCut := false }
  let s₃ := report s₂ (s₂.setScan s₂.scan.flush)
  let s₄ := s₃.setBellows { s₃.bellows with revNotice := none }
  let s₅ := s₄.setEng { s₄.eng with revWalk := none, sustainWalk := false, releaseAll := true }
  workOut (endRestrike s₅)

/-- The items that end with SETTLING: a release-all (R173), and a press, whose record would stand in TRANSPARENT
(R171, assumption 13). -/
def ItemKind.endsWithSettling : ItemKind → Bool
  | .releaseAll | .press _ => true
  | .hush | .reversalStep _ | .expiry | .release _ | .sustainStep _ | .restrikeStep _ | .sweepStep _ | .rebuild => false

/-- The end of SETTLING (R173). -/
def endSettling (s : State) : State :=
  let s₁ := s.setCtrl { s.ctrl with settleTimer := none, settleCut := false }
  let s₂ := match s₁.eng.item with
    | some it => if it.kind.endsWithSettling then endItem s₁ else s₁
    | none => s₁
  let s₃ := report s₂ (s₂.setEng { s₂.eng with releaseAll := false, held := [], revWalk := none })
  let s₄ := enterTransparent s₃
  finish .settle .done (raiseFlag flagSettled s₄)

/-- A settle cut begins (R174): a hush is set pending for it unless one is pending or running. -/
def beginSettleCut (s : State) : State :=
  let s₁ := s.setCtrl { s.ctrl with settleCut := true, settleTimer := none }
  if itemIsHush s₁.eng then s₁
  else
    match s₁.eng.hushPending with
    | .clear => endItem (s₁.setEng { s₁.eng with hushPending := .cutOnly })
    | .cutOnly | .source => s₁

/-! ### Frame starts (R128, R129) -/

/-- A frame start at the scan monitor (R52, R53). -/
def frameScan (s : State) : State :=
  let d := s.ctrl.copy
  if s.scan.trips d s.ctrl.op then
    let s₁ := report s (s.setScan (s.scan.tick d s.ctrl.op).trip)
    raiseFlag flagScanSilent (s₁.setEng { s₁.eng with releaseAll := true })
  else s.setScan (s.scan.tick d s.ctrl.op)

/-- Settle frames rise by 1, stopping at 255 (R173). -/
def nextSettleFrame (n : Nat) : Nat := if n < Config.frameMax then n + 1 else n

/-- A frame start in SETTLING (R173). -/
def frameSettle (s : State) : State :=
  let n := nextSettleFrame s.ctrl.settleFrames
  let s₁ := s.setCtrl { s.ctrl with settleFrames := n }
  if s.ctrl.settleCut then s₁
  else if s.eng.order = [] then endSettling s₁
  else if s.ctrl.copy.settleFrames.toNat ≤ n then beginSettleCut s₁
  else s₁

/-- A frame start at the control unit (R129): a pending swap is tested in PERFORMING and SETTLING, and SETTLING
counts. -/
def frameControl (s : State) : State :=
  match s.ctrl.op with
  | .performing => testSwap s
  | .settling => frameSettle (testSwap s)
  | .held | .init | .transparent => s

/-- Pending frames rise by 1, stopping at 255 (R94). -/
def addFrame (n : Nat) : Nat := if n < Config.frameMax then n + 1 else n

/-- A frame start (R129): the frame counter advances and the five blocks take it. -/
def frameStart (s : State) : State :=
  let s₁ := report s (s.setTone { s.tone with frame := s.tone.frame + 1 })
  let s₂ := s₁.setEng { s₁.eng with pendingFrames := addFrame s₁.eng.pendingFrames }
  let s₃ := report s₂ (s₂.setBellows (s₂.bellows.frame s₂.ctrl.copy s₂.ctrl.op))
  frameControl (frameScan s₃)

/-- An answered T read is a frame start (R128): with a valid descriptor in a working state, it names word 0 of
voice record 0. -/
def isFrameStart (c : Control) (r : ReadReq) : Bool :=
  c.valid && c.op.working && (namedAddrs r).contains c.copy.voices

/-! ### Entry to HELD (R10) -/

/-- Entry to HELD: pending requests are answered DEFER, a granted access will be answered to no one, and every
block takes its reset values; only the guard (unless at power-on), the straps, the pins, the timebase reading and
the commands that wait are kept. -/
def enterHeld (powerOn : Bool) (s : State) : State :=
  { pins := s.pins
    ports :=
      { pAnswer := if s.player.read.isSome then some .defer else s.ports.pAnswer
        tAnswer := if s.tone.service.isSome then some .defer else s.ports.tAnswer }
    timebase := s.timebase
    player := { writes := [], read := none }
    arb := { Arbiter.reset with access := s.arb.access.map fun a => { a with drop := .held } }
    scan := Scan.reset
    bellows := Bellows.reset
    map := MapUnit.reset
    eng := Engine.reset
    voice := VoiceWriter.reset
    tone := Tone.reset
    ctrl := { Control.powerOn with
      dsel := s.ctrl.dsel, boot := s.ctrl.boot, guard := if powerOn then Guard.powerOn else s.ctrl.guard }
    stat := Status.reset
    pending := s.pending }

/-! ### REINIT (R176, R11, R18) -/

/-- Whether the T request in service has been granted the M-port (R35). -/
def toneGranted (a : Option Access) : Bool :=
  match a with
  | some x => decide ((x.owner = .tRead ∨ x.owner = .tWrite) ∧ x.drop = .live)
  | none => false

/-- The accesses that REINIT leaves live: P writes and T requests already granted (R12, R35). -/
def keepsAccess (o : Owner) : Bool :=
  match o with
  | .pWrite | .pRead | .tRead | .tWrite => true
  | .fill | .voice | .fetch _ | .snapshot => false

/-- What becomes of the access that holds the M-port when REINIT is taken (R11). -/
def reinitAccess (a : Access) : Access :=
  if keepsAccess a.owner then a else if a.drop = .live then { a with drop := .reinit } else a

/-- REINIT at the tone port (R35, R127, R130). A fill that has not been granted the M-port yet is withdrawn with the
slot (assumption 34). -/
def reinitTone (granted : Bool) (t : Tone) : Tone :=
  if granted then { Tone.reset with service := t.service, turns := [.request] } else Tone.reset

/-- REINIT is taken (R176): the operating state becomes INIT, in its drain phase, and every block takes its REINIT
values (R55, R68, R81, R114, R131, R150, R164, R185). -/
def takeReinit (s : State) : State :=
  let granted := toneGranted s.arb.access
  let ports : Ports :=
    if s.tone.service.isSome && !granted then { s.ports with tAnswer := some .defer } else s.ports
  let s₁ : State := { s with
    ports := ports
    arb := { s.arb with access := s.arb.access.map reinitAccess }
    scan := { s.scan with events := [], silence := 0 }
    bellows := s.bellows.dropNotices
    map := { MapUnit.reset with sects := clearMarks s.map.sects }
    eng := Engine.reset
    voice := VoiceWriter.reset
    tone := reinitTone granted s.tone
    ctrl := { s.ctrl with
      op := .init, phase := some .drain, command := none, argRead := .none, argAhead := 0, settleFrames := 0,
      settleTimer := none, settleCut := false, bank := .bankA, swap := none, sustainFlag := false, sustain := false,
      hushEffective := false }
    stat := { s.stat with stale := true, freshPass := false, changed := true, snapshot := none } }
  leavePending .reinit s₁

/-! ### The end of INIT and its snapshot phase (R16) -/

/-- The snapshot phase begins: the operating state field shows the state INIT enters, DONE is recorded for the
REINIT that caused the INIT, and a snapshot is requested. -/
def enterSnapshotPhase (s : State) : State :=
  let s₁ := report s (s.setCtrl { s.ctrl with phase := some .snapshot })
  beginSnapshot (finish .reinit .done s₁)

/-- INIT ends (R16, R55, R81, R171, R175). -/
def endInit (s : State) : State :=
  let c := s.ctrl
  let target := initTarget c
  let s₁ := report s (s.setCtrl { c with op := target, phase := none })
  let s₂ := s₁.setScan (s₁.scan.align c.valid c.copy)
  let s₃ := if c.valid then s₂ else s₂.setMap { s₂.map with sects := Tbl.fill 8 SectRecord.zero }
  if target = .performing then enterPerforming s₃ else enterTransparent s₃

end Sys2Proof.Machine
end

