-- ==== Sys2Proof/Machine/EngineOps.lean ====
section
/-! DEFINITION. The voicing engine's items: selection, steps, allocation, entry and program requests, and the run
of an item until it ends or has to wait (Chapters 6 and 8). -/

namespace Sys2Proof.Machine

/-! ### Work selection (R95) -/

/-- The items of R95, in rank order. -/
inductive Sel where
  | hush
  | releaseAll
  | takeReversal
  | reversalStep
  | expiry
  | press
  | release
  | sustainStep
  | restrikeStep
  | takeLevel
  | sweepStep
deriving DecidableEq, Repr

/-- The first available item, when the engine has no current item and the state lets items arise (R95, R111). Of items
that became available at one moment, which R95 lets be taken in either order, the higher rank is taken (assumption
32). -/
def nextItem (s : State) : Option Sel :=
  if s.eng.item.isSome || !s.ctrl.op.working then none
  else if s.eng.hushPending ≠ .clear then some .hush
  else if s.eng.releaseAll then some .releaseAll
  else if s.bellows.revNotice.isSome then some .takeReversal
  else if s.eng.revWalk.isSome then some .reversalStep
  else if s.eng.pendingFrames ≠ 0 then some .expiry
  else match s.scan.events with
    | ev :: _ => if ev.isPress then some .press else some .release
    | [] =>
      if s.eng.sustainWalk then some .sustainStep
      else if s.eng.restrikeWalk then some .restrikeStep
      else if s.bellows.levelNotice.isSome then some .takeLevel
      else if s.eng.sweep.isSome then some .sweepStep
      else none

/-! ### The held-button table -/

/-- The record of position `p`. -/
def findRec (e : Engine) (p : Pos) : Option HeldRec := e.held.find? fun r => decide (r.pos = p)

/-- The position whose record follows the record of `p` in the table. -/
def posAfter (p : Pos) (held : List HeldRec) : Option Pos := nextAfter p (held.map (·.pos))

/-- The record of `p` leaves the table; the reversal walk's place follows (R132). -/
def removeRec (p : Pos) (e : Engine) : Engine :=
  { e with
    held := e.held.filter fun r => decide (r.pos ≠ p)
    revWalk := if e.revWalk = some p then posAfter p e.held else e.revWalk }

/-- The record of `p` is changed in its place. -/
def updateRec (p : Pos) (f : HeldRec → HeldRec) (e : Engine) : Engine :=
  { e with held := e.held.map fun r => if r.pos = p then f r else r }

/-- The releases of a record's voices, in list order (R107). -/
def releaseJobs (r : HeldRec) : List Job := r.voices.map (Job.releaseSlot r.pos)

/-! ### The end of an item (R96, R118) -/

/-- What the end of an item moves: the place of the walk whose step it was (R136, R146), and SETTLING's end after
the hush of a settle cut (R174). -/
def afterItem (k : ItemKind) (s : State) : State :=
  match k with
  | .reversalStep p =>
    if s.eng.revWalk = some p then s.setEng { s.eng with revWalk := posAfter p s.eng.held } else s
  | .sweepStep i => s.setEng { s.eng with sweep := sweepPast i s.eng }
  | .hush => if s.ctrl.settleCut then endSettling s else s
  | .releaseAll | .expiry | .press _ | .release _ | .sustainStep _ | .restrikeStep _ | .rebuild => s

/-- The item has ended: its part in its group ends with it (R96, R117). -/
def itemEnd (k : ItemKind) (s : State) : State :=
  afterItem k (endFilling (s.setEng { s.eng with item := none }))

/-- The item waits. -/
def waitFor (k : ItemKind) (w : Wait) (js : List Job) (s : State) : State :=
  s.setEng { s.eng with item := some { kind := k, wait := w, jobs := js } }

/-! ### Allocation (R103) -/

/-- What an allocation gives. -/
inductive Alloc where
  | take (i : Slot) (steal : Bool)
  | drop (r : DropReason)
deriving DecidableEq, Repr

/-- The slots started by the current group (R103). -/
def startedByGroup (v : VoiceWriter) : List Slot :=
  match fillingGroup v with
  | some g => g.started
  | none => []

/-- The oldest RELEASING slot of the section in the sounding order. -/
def oldestReleasing (e : Engine) (sect : SectNo) : Option Slot :=
  e.order.find? fun i => decide ((e.mirror.get i).state = .releasing ∧ (e.mirror.get i).sect = sect)

/-- The oldest RELEASING slot of any section. -/
def oldestReleasingAny (e : Engine) : Option Slot :=
  e.order.find? fun i => decide ((e.mirror.get i).state = .releasing)

/-- The oldest SOUNDING slot of the section not started by the current group. -/
def oldestSounding (e : Engine) (started : List Slot) (sect : SectNo) : Option Slot :=
  e.order.find? fun i =>
    decide ((e.mirror.get i).state = .sounding ∧ (e.mirror.get i).sect = sect) && !started.contains i

/-- Allocating a slot for a layer of the section (R103): the first case that holds. A budget of 0 drops the layer before
any case is looked at, also while the section still has voices (R88, assumption 35). -/
def allocate (s : State) (sect : SectNo) : Alloc :=
  let e := s.eng
  let r := s.map.sects.get sect
  if r.budget = 0 then .drop .budget
  else if e.counts.get sect < r.budget then
    match e.free with
    | i :: _ => .take i false
    | [] =>
      match oldestReleasingAny e with
      | some i => .take i true
      | none => .drop .exhausted
  else
    match oldestReleasing e sect with
    | some i => .take i true
    | none =>
      if r.policy = .takeOldest then
        match oldestSounding e (startedByGroup s.voice) sect with
        | some i => .take i true
        | none => .drop .budget
      else .drop .budget

/-! ### Requests to the map unit (R70, R74, R76) -/

/-- An entry's word is judged and handed over; a bad entry is logged and handed on as invalid (R70). -/
def handEntry (b : Bank) (p : Pos) (w : Word) (s : State) : EntrySnap × State :=
  match judgeEntry w with
  | .valid e => (e, s)
  | .invalid => (EntrySnap.none, s)
  | .bad =>
    (EntrySnap.none,
      logFault .badEntry .bridge (s.ctrl.copy.mapBase b + BitVec.ofNat 24 (4 * p.val)) s)

/-- The item waits for a map entry fetch, or first for the answer awaited for discard (R74, R97); then it makes its
request in the bank that is active after that answer (R71, R151, assumption 23). -/
def missEntry (k : ItemKind) (b : Bank) (p : Pos) (s : State) : State :=
  if s.eng.awaitDiscard then waitFor k (.turnEntry p) [] s
  else waitFor k (.entry b p) [] (s.setMap { s.map with engReq := some (.entry b p) })

/-- Voicing a record (R102): the program of its direction is requested, or the item ends. -/
def voiceRecord (k : ItemKind) (p : Pos) (s : State) : State :=
  match findRec s.eng p with
  | none => itemEnd k s
  | some r =>
    match r.snap.program r.dir with
    | none => itemEnd k s
    | some n =>
      if s.ctrl.op ≠ .performing then itemEnd k s
      else if s.eng.awaitDiscard then waitFor k (.turnProgram p) [] s
      else waitFor k (.program p) [] (s.setMap { s.map with engReq := some (.program n) })

/-- The table can take a record of `p`: it has room and holds none (R92). -/
def canHold (p : Pos) (e : Engine) : Bool :=
  decide (e.held.length < Config.heldMax) && (findRec e p).isNone

/-- The entry of a press is handed over (R101 step 3): the record joins the tail of the table and is voiced. Only the
press itself changes the table between its test of step 2 and this moment, so the table can take the record; in a state
that no run reaches, where it cannot, the item ends. -/
def pressEntered (b : Bank) (p : Pos) (snap : EntrySnap) (s : State) : State :=
  let r : HeldRec :=
    { pos := p, bank := b, snap := snap, dir := s.eng.appliedDir, voices := [], sustained := false }
  if canHold p s.eng then
    voiceRecord (.press p) p (report s (s.setEng { s.eng with held := s.eng.held ++ [r] }))
  else itemEnd (.press p) s

/-- A hit in the map cache: the word is taken and the entry becomes the most recently used (R76). -/
def hitEntry (e : CacheEntry) (s : State) : EntrySnap × State :=
  handEntry e.bank e.pos e.word (s.setMap { s.map with cache := promote e s.map.cache })

/-- Steps 2 and 3 of a press (R101): HELD_FULL, or the entry request in the active bank. -/
def pressRequest (p : Pos) (s : State) : State :=
  if Config.heldMax ≤ s.eng.held.length then itemEnd (.press p) (dropFor .heldFull s)
  else
    let b := s.ctrl.bank
    match lookupEntry b p s.map.cache with
    | some e => let h := hitEntry e s; pressEntered b p h.1 h.2
    | none => missEntry (.press p) b p s

/-! ### Running an item -/

/-- The write that releases a slot: its kind by the release latch of its section at this moment (R107). -/
def releasePush (s : State) (p : Pos) (i : Slot) : Push :=
  let latch := (s.map.sects.get (s.eng.mirror.get i).sect).latch
  if latch = 0 then .freeing i true else .releasing p i latch

/-- The pitch of a layer is one the voice record can hold (R102). -/
def pitchOk (n : Int) : Bool := decide (0 ≤ n ∧ n ≤ (Config.pitchMax : Int))

/-- The item runs through its jobs until none is left or a push has to wait (R96). An item about to push a FULL write
outside PERFORMING ends there; a layer that has no FULL write to push is dropped in every state (R102). -/
def runJobs (k : ItemKind) : List Job → State → State
  | [], s => itemEnd k s
  | .releaseSlot p i :: js, s =>
    let pu := releasePush s p i
    if canPush s pu then runJobs k js (doPush pu s) else waitFor k (.push pu) js s
  | .free i g :: js, s =>
    if canPush s (.freeing i g) then runJobs k js (doPush (.freeing i g) s) else waitFor k (.push (.freeing i g)) js s
  | .blank i :: js, s =>
    if canPush s (.blank i) then runJobs k js (doPush (.blank i) s) else waitFor k (.push (.blank i)) js s
  | .removeRecord p :: js, s => runJobs k js (report s (s.setEng (removeRec p s.eng)))
  | .finishGroup :: js, s => runJobs k js (endFilling s)
  | .clearTable :: js, s => runJobs k js (report s (s.setEng { s.eng with held := [], revWalk := none }))
  | .pressEntry p :: _, s => pressRequest p s
  | .voice p :: _, s => voiceRecord k p s
  | .layer p idx l :: js, s =>
    match findRec s.eng p with
    | none => itemEnd k s
    | some r =>
      if !pitchOk (pitchOf l.note r.snap.transpose) then runJobs k js (dropFor .range s)
      else
        match allocate s l.sect with
        | .drop reason => runJobs k js (dropFor reason s)
        | .take i steal =>
          let pu : Push := .full p i steal l idx r.dir
          if s.ctrl.op ≠ .performing then itemEnd k s
          else if canPush s pu then runJobs k js (doPush pu s) else waitFor k (.push pu) js s

/-- A waiting push may go on: a FULL write only in PERFORMING, for a record that still stands (R102). -/
def stillDue (s : State) (pu : Push) : Bool :=
  match pu with
  | .full p _ _ _ _ _ => decide (s.ctrl.op = .performing) && (findRec s.eng p).isSome
  | .releasing _ _ _ | .freeing _ _ | .level _ _ | .blank _ => true

/-- A push that waited is made, and its item goes on (R119). -/
def resumePush (it : Item) (pu : Push) (s : State) : State :=
  if canPush s pu then
    if stillDue s pu then runJobs it.kind it.jobs (doPush pu s) else itemEnd it.kind s
  else s

/-- The entry of a restrike step is handed over (R141 steps 2 and 3). -/
def restrikeEntered (b : Bank) (p : Pos) (snap : EntrySnap) (s : State) : State :=
  let s₁ := s.setEng (updateRec p (fun r => { r with snap := snap, bank := b }) s.eng)
  match findRec s₁.eng p with
  | none => itemEnd (.restrikeStep p) s₁
  | some r => runJobs (.restrikeStep p) (releaseJobs r ++ [.voice p]) s₁

/-- An entry is handed over to the item that asked for it. -/
def entryGiven (k : ItemKind) (b : Bank) (p : Pos) (snap : EntrySnap) (s : State) : State :=
  match k with
  | .press _ => pressEntered b p snap s
  | .restrikeStep _ => restrikeEntered b p snap s
  | .hush | .releaseAll | .reversalStep _ | .expiry | .release _ | .sustainStep _ | .sweepStep _ | .rebuild =>
    itemEnd k s

/-- An entry request (R74, R76). A hit is served at once, also while an answer is awaited for discard (assumption
23). -/
def requestEntry (k : ItemKind) (b : Bank) (p : Pos) (s : State) : State :=
  match lookupEntry b p s.map.cache with
  | some e => let h := hitEntry e s; entryGiven k b p h.1 h.2
  | none => missEntry k b p s

/-- An entry fetch's result reaches the voicing engine: the item that waits for it takes it; an awaited discard
is over, and an item that waited for that makes its request (R97), an entry's look-up made again in the bank that is
active now (assumption 23). -/
def deliverEntry (b : Bank) (p : Pos) (snap : EntrySnap) (s : State) : State :=
  match s.eng.item with
  | some it =>
    match it.wait with
    | .entry _ _ => entryGiven it.kind b p snap s
    | .turnEntry p' => requestEntry it.kind s.ctrl.bank p' (s.setEng { s.eng with awaitDiscard := false })
    | .turnProgram p' => voiceRecord it.kind p' (s.setEng { s.eng with awaitDiscard := false })
    | .push _ | .program _ => s.setEng { s.eng with awaitDiscard := false }
  | none => s.setEng { s.eng with awaitDiscard := false }

/-- A program fetch's result reaches the voicing engine (R73, R102): its layers, none when it is absent. -/
def deliverProgram (layers : List (Fin 8 × Layer)) (s : State) : State :=
  match s.eng.item with
  | some it =>
    match it.wait with
    | .program p => runJobs it.kind (layers.map fun x => .layer p x.1 x.2) s
    | .turnEntry p' => requestEntry it.kind s.ctrl.bank p' (s.setEng { s.eng with awaitDiscard := false })
    | .turnProgram p' => voiceRecord it.kind p' (s.setEng { s.eng with awaitDiscard := false })
    | .push _ | .entry _ _ => s.setEng { s.eng with awaitDiscard := false }
  | none => s.setEng { s.eng with awaitDiscard := false }

end Sys2Proof.Machine
end

