-- ==== Sys2Proof/Machine/CommandOps.lean ====
section
/-! DEFINITION. Taking a command, judging its argument, and its action (Chapter 10). -/

namespace Sys2Proof.Machine

/-- The command being taken or acting ends with the result. -/
def answer (r : CmdResult) (s : State) : State := finish .command r s

/-- PERFORM (R170, R171). -/
def actPerform (s : State) : State :=
  match s.ctrl.op with
  | .transparent =>
    if s.eng.hushPending ≠ .clear ∨ itemIsHush s.eng = true then answer .busy s
    else answer .done (enterPerforming s)
  | .performing => answer .refused s
  | .settling => answer .busy s
  | .held | .init => s

/-- STANDBY SETTLE (R170, R172): PENDING until SETTLING ends. -/
def actSettle (s : State) : State :=
  match s.ctrl.op with
  | .performing => leavePending .settle (enterSettling s)
  | .transparent => answer .refused s
  | .settling => answer .busy s
  | .held | .init => s

/-- STANDBY CUT (R170, R175). -/
def actCut (s : State) : State :=
  match s.ctrl.op with
  | .performing => answer .done (enterTransparent (announceHush s))
  | .transparent => answer .refused s
  | .settling => answer .busy s
  | .held | .init => s

/-- SWAP (R152): BUSY while a swap is pending or a restrike walk runs. -/
def actSwap (m : SwapMode) (s : State) : State :=
  if s.ctrl.swap.isSome || s.eng.restrikeWalk then answer .busy s
  else
    let s₁ := report s (s.setCtrl { s.ctrl with
      swap := some { mode := m, incoming := s.ctrl.bank.other, taken := false } })
    let s₂ := leavePending .swap s₁
    if s.ctrl.op = .transparent then testSwap s₂ else s₂

/-- SUSTAIN (R156, R157). -/
def actSustain (on : Bool) (s : State) : State :=
  answer .done (workOutSustain (s.setCtrl { s.ctrl with sustainFlag := on }))

/-- GUARD with its argument in hand (R161): the lock is judged first. -/
def actGuard (arg : Word) (s : State) : State :=
  if s.ctrl.guard.lock then answer .refused s
  else
    match guardModeOf arg with
    | none => answer .bad s
    | some m =>
      if fieldAt arg 8 8 < fieldAt arg 0 8 then answer .bad s
      else
        answer .done (s.setCtrl { s.ctrl with guard :=
          { first := Fin.ofNat 256 (fieldAt arg 0 8), last := Fin.ofNat 256 (fieldAt arg 8 8), mode := m,
            lock := false } })

/-- GUARD_LOCK (R162). -/
def actGuardLock (s : State) : State :=
  answer .done (s.setCtrl { s.ctrl with guard := { s.ctrl.guard with lock := true } })

/-- A command that carries no argument acts (R170). -/
def actPlain (o : Opcode) (s : State) : State :=
  match o with
  | .perform => actPerform s
  | .panic => answer .done (announceHush s)
  | .guardLock => actGuardLock s
  | .flush => answer .done (flushCache s)
  | .reinit => takeReinit s
  | .standby | .swap | .sustain | .guard | .ack => s

/-- A command with its argument in hand is judged and acts (R169, R170). -/
def actWith (o : Opcode) (arg : Word) (s : State) : State :=
  match o with
  | .standby =>
    match fieldAt arg 0 2 with
    | 1 => actSettle s
    | 2 => actCut s
    | _ => answer .bad s
  | .swap =>
    match swapModeOf arg with
    | some m => actSwap m s
    | none => answer .bad s
  | .sustain =>
    match fieldAt arg 0 2 with
    | 0 => actSustain false s
    | 1 => actSustain true s
    | _ => answer .bad s
  | .guard => actGuard arg s
  | .ack => answer .done (ackFlags (bitsAt arg 0 7) s)
  | .perform | .panic | .guardLock | .reinit | .flush => actPlain o s

/-- The argument is to be read from RAM (R168): the read is requested once the `ahead` P writes accepted before the
command write have reached RAM. -/
def requestArgument (o : Opcode) (ahead : Nat) (s : State) : State :=
  s.setCtrl { s.ctrl with
    command := some o, argRead := if ahead = 0 then .requested else .none, argAhead := ahead }

/-- A command is taken (R165..R168), in the order of R167. `ahead` counts the P writes queued before its own. -/
def takeCommand (word0 : Word) (arg : Option Word) (ahead : Nat) (s : State) : State :=
  let opcode := byteAt word0 0
  let s₁ := takeOpcode opcode s
  match opcodeOf opcode with
  | none => answer .bad s₁
  | some o =>
    if s₁.ctrl.command.isSome ∧ o ≠ .panic ∧ o ≠ .reinit then answer .busy s₁
    else if s₁.ctrl.valid = false ∧ o.anyDescriptor = false then answer .refused s₁
    else if o.hasArg then
      match arg with
      | some a => actWith o a s₁
      | none => requestArgument o ahead s₁
    else actPlain o s₁

end Sys2Proof.Machine
end

