-- ==== Sys2Proof/Machine/BusOps.lean ====
section
/-! DEFINITION. The request decoder: parts, verdicts and answers, the announcement of snooped parts, and the
requests of both ports taken into service (Chapter 2). -/

namespace Sys2Proof.Machine

/-! ### Refusals (R26, R27, R160) -/

/-- A position is guarded (R160). -/
def guarded (g : Guard) (p : Pos) : Bool :=
  match g.mode with
  | .off => false
  | .inside => decide (g.first ≤ p ∧ p ≤ g.last)
  | .outside => decide (p < g.first ∨ g.last < p)

/-- The position whose entry word of the bank lies at the address. -/
def entryPos (d : Desc) (b : Bank) (a : Addr) : Pos := Fin.ofNat 256 (offsetFrom (d.mapBase b) a / 4)

/-- The word is the entry of a guarded position of the active bank (R160). -/
def guardsWord (c : Control) (b : Bank) (a : Addr) : Bool :=
  decide (b = c.bank) && guarded c.guard (entryPos c.copy b a)

/-- The kind with which a P write of the word is refused, if it is (R26). -/
def refusesPWrite (c : Control) (a : Addr) : Option FaultKind :=
  match areaOf c a with
  | .status => some .controlWrite
  | .voices => some .voiceWrite
  | .beyond => some .beyondTop
  | .mapA => if guardsWord c .bankA a then some .guard else none
  | .mapB => if guardsWord c .bankB a then some .guard else none
  | .descriptor | .command | .spareLow | .spareHigh | .scan | .programs | .sections | .ram | .other => none

/-- The kind with which a T write of the word is refused, if it is (R26). -/
def refusesTWrite (c : Control) (a : Addr) : Option FaultKind :=
  match areaOf c a with
  | .descriptor | .command | .status | .scan | .mapA | .mapB | .programs | .sections => some .controlWrite
  | .voices => some .voiceWrite
  | .beyond => some .beyondTop
  | .spareLow | .spareHigh | .ram | .other => none

/-- The kind with which a read of the word is refused, if it is (R26). -/
def refusesRead (c : Control) (a : Addr) : Option FaultKind :=
  match areaOf c a with
  | .beyond => some .beyondTop
  | .descriptor | .command | .spareLow | .status | .spareHigh | .scan | .mapA | .mapB | .programs | .sections
  | .voices | .ram | .other => none

/-- The first refused word of a request in its order, with its kind (R25). -/
def firstRefused (refuses : Addr → Option FaultKind) (as : List Addr) : Option (FaultKind × Addr) :=
  as.findSome? fun a => (refuses a).map fun k => (k, a)

/-! ### Parts (R24) -/

/-- The areas of the named words, each once, in the order of their first word. -/
def areasInOrder (c : Control) (as : List Addr) : List Area :=
  (as.map (areaOf c)).foldl (fun acc x => if acc.contains x then acc else acc ++ [x]) []

/-- The part of a write in an area, in the request's order. -/
def partOf (c : Control) (x : Area) (ws : List NamedWord) : List NamedWord :=
  ws.filter fun w => decide (areaOf c w.addr = x)

/-! ### Announcements (R28) -/

/-- A SCAN part at the scan monitor (R43). -/
def announceScan (ws : List NamedWord) (s : State) : State :=
  let d := s.ctrl.copy
  let s₁ := s.setScan { s.scan with silence := 0 }
  let s₂ := (buttonChanges d ws).foldl
    (fun t x => report t (t.setScan (t.scan.apply t.ctrl.op (hushPinActive t.ctrl) x))) s₁
  match pressureOf d ws with
  | none => s₂
  | some p => report s₂ (s₂.setBellows (s₂.bellows.sample d s₂.ctrl.op p))

/-- A MAP part at the map unit (R78, R79); ignored in INIT. -/
def announceMap (b : Bank) (ws : List NamedWord) (s : State) : State :=
  if s.ctrl.op = .init then s
  else ws.foldl (fun t w => writesEntry b (entryPos t.ctrl.copy b w.addr) t) s

/-- The section records with at least one word named by the part (R86). -/
def namedRecords (d : Desc) (ws : List NamedWord) : List SectNo :=
  (List.finRange 8).filter fun i => ws.any fun w => decide (Fin.ofNat 8 (offsetFrom d.sections w.addr / 16) = i)

/-- A SECTIONS part at the map unit (R86): each record it names a word of is marked, once; ignored in INIT. -/
def announceSections (ws : List NamedWord) (s : State) : State :=
  if s.ctrl.op = .init then s
  else (namedRecords s.ctrl.copy ws).foldl (fun t i => t.setMap (markSection i t.map)) s

/-- A command slot part at the control unit (R165): a command is taken when all four bytes of word 0 are written. -/
def announceCommand (ws : List NamedWord) (s : State) : State :=
  let a₀ := controlAddr s.ctrl Config.commandOffset
  let a₁ := controlAddr s.ctrl (Config.commandOffset + 4)
  match ws.find? (fun w => decide (w.addr = a₀ ∧ w.mask = 0xF)) with
  | none => s
  | some w =>
    takeCommand w.data ((ws.find? fun v => decide (v.addr = a₁)).map (·.data)) (s.player.writes.length - 1) s

/-- A part is announced to the block that watches its area (R26, R28). -/
def announce (x : Area) (ws : List NamedWord) (s : State) : State :=
  match x with
  | .scan => announceScan ws s
  | .mapA => announceMap .bankA ws s
  | .mapB => announceMap .bankB ws s
  | .sections => announceSections ws s
  | .command => announceCommand ws s
  | .descriptor | .spareLow | .status | .spareHigh | .programs | .voices | .ram | .beyond | .other => s

/-! ### Answers (R21) -/

def answerP (a : Answer) (s : State) : State := s.setPorts { s.ports with pAnswer := some a }

def answerT (a : Answer) (s : State) : State := s.setPorts { s.ports with tAnswer := some a }

/-! ### P writes (R22, R29) -/

/-- The events the SCAN part of the write would create exceed the free space (R46). -/
def scanDefers (s : State) (ws : List NamedWord) : Bool :=
  let c := s.ctrl
  decide (s.scan.freeSpace <
    eventCount c.op (hushPinActive c) s.scan (buttonChanges c.copy (partOf c .scan ws)))

/-- A P write is accepted (R22 step 7): posted, answered, and its parts announced in order. -/
def acceptPWrite (w : WriteReq) (s : State) : State :=
  let ws := namedWords w
  let c := s.ctrl
  let s₁ := answerP (.accept []) (s.setPlayer { s.player with writes := s.player.writes ++ [w] })
  let s₂ := (areasInOrder c (ws.map (·.addr))).foldl (fun t x => announce x (partOf c x ws) t) s₁
  chooseFetch s₂

/-- A P write arrives (R22): the first step that gives an answer decides. -/
def pWrite (w : WriteReq) (s : State) : State :=
  if s.player.read.isSome then s
  else if !s.ctrl.op.working then answerP .defer s
  else if badForm w then answerP .refuse (logFault .misaligned .portP w.start s)
  else
    match firstRefused (refusesPWrite s.ctrl) (namedAddrs w.toReadReq) with
    | some (k, a) => answerP .refuse (logFault k .portP a s)
    | none =>
      if Config.pQueueMax ≤ s.player.writes.length then
        answerP .defer (setCounters (fun c => { c with pQueueDefers := bump c.pQueueDefers }) s)
      else if scanDefers s (namedWords w) then
        answerP .defer (setCounters (fun c => { c with scanDefers := bump c.scanDefers }) s)
      else acceptPWrite w s

/-! ### P reads (R22, R31, R179) -/

/-- The request names a word of the area. -/
def namesArea (c : Control) (x : Area) (r : ReadReq) : Bool :=
  (namedAddrs r).any fun a => decide (areaOf c a = x)

/-- A P read of the status record is deferred: stale and not owed a pass (R179). -/
def statusDefers (s : State) : Bool := s.stat.stale && !s.stat.freshPass

/-- A snapshot is requested, if none is in flight (R179). -/
def requestSnapshot (s : State) : State := if s.stat.snapshot.isSome then s else beginSnapshot s

/-- A P read is accepted: it waits in the player port queue, and a status read uses up the fresh pass (R31, R179). -/
def acceptPRead (r : ReadReq) (s : State) : State :=
  let s₁ := if namesArea s.ctrl .status r then s.setStat { s.stat with freshPass := false } else s
  (s₁.setPlayer { s₁.player with read := some r }).setPorts { s₁.ports with pAnswer := none }

/-- A P read arrives (R22). -/
def pRead (r : ReadReq) (s : State) : State :=
  if s.player.read.isSome then s
  else if !s.ctrl.op.working then answerP .defer s
  else if badStart r.start then answerP .refuse (logFault .misaligned .portP r.start s)
  else
    match firstRefused (refusesRead s.ctrl) (namedAddrs r) with
    | some (k, a) => answerP .refuse (logFault k .portP a s)
    | none =>
      if namesArea s.ctrl .status r && statusDefers s then answerP .defer (requestSnapshot s)
      else acceptPRead r s

/-! ### T requests (R22, R33, R34, R122) -/

/-- The latched request of the held-read slot. -/
def latched : HeldRead → Option ReadReq
  | .vacant => none
  | .waiting r => some r
  | .filling r => some r
  | .ready r _ _ => some r

/-- The verdict of a T read's VOICES part (R122). -/
inductive Gate where
  /-- answered from the READY slot -/
  | fromSlot (data : Tbl 8 Word)
  /-- deferred; `latch` when the request is latched -/
  | defer (latch : Bool)
  /-- passes to RAM -/
  | pass
deriving DecidableEq, Repr

/-- The table of R122; its rows are tested in order. -/
def gate (s : State) (r : ReadReq) : Gate :=
  if latched s.tone.slot = some r then
    match s.tone.slot with
    | .ready _ data _ => .fromSlot data
    | .vacant | .waiting _ | .filling _ => .defer false
  else if touchesOpen s r then .defer (decide (s.tone.slot = .vacant))
  else .pass

/-- The gate is consulted for a read with a VOICES part (R122); every other read passes. -/
def gateOf (s : State) (r : ReadReq) : Gate := if namesArea s.ctrl .voices r then gate s r else .pass

/-- A T request is taken into service (R33, R34). -/
def serveT (q : ToneReq) (s : State) : State :=
  (s.setTone { s.tone with service := some q, turns := s.tone.turns ++ [.request] }).setPorts
    { s.ports with tAnswer := none }

/-- A T read is answered with data: it may be a frame start (R128). -/
def answerTRead (r : ReadReq) (data : Tbl 8 Word) (s : State) : State :=
  let s₁ := answerT (.accept (answerWords r data)) s
  if isFrameStart s.ctrl r then frameStart s₁ else s₁

/-- A T read arrives (R22, R122). -/
def tRead (r : ReadReq) (s : State) : State :=
  if s.tone.service.isSome then s
  else if !s.ctrl.op.working then answerT .defer s
  else if badStart r.start then answerT .refuse (logFault .misaligned .portT r.start s)
  else
    match firstRefused (refusesRead s.ctrl) (namedAddrs r) with
    | some (k, a) => answerT .refuse (logFault k .portT a s)
    | none =>
      match gateOf s r with
      | .fromSlot data => answerTRead r data (s.setTone { s.tone with slot := .vacant })
      | .defer true => answerT .defer (s.setTone { s.tone with slot := .waiting r })
      | .defer false => answerT .defer s
      | .pass => serveT (.read r) s

/-- A T write arrives (R22, R34). -/
def tWrite (w : WriteReq) (s : State) : State :=
  if s.tone.service.isSome then s
  else if !s.ctrl.op.working then answerT .defer s
  else if badForm w then answerT .refuse (logFault .misaligned .portT w.start s)
  else
    match firstRefused (refusesTWrite s.ctrl) (namedAddrs w.toReadReq) with
    | some (k, a) => answerT .refuse (logFault k .portT a s)
    | none => serveT (.write w) s

end Sys2Proof.Machine
end

