-- ==== Sys2Proof/Machine/MemoryOps.lean ====
section
/-! DEFINITION. The memory port: the accesses the requesters ask for, the arbiter's choice, and what RAM's answers
do (Chapters 2, 5, 7, 10 and 11). -/

namespace Sys2Proof

/-- RAM's answer to a read is an error (R39, R40). -/
def RamAnswer.failed : RamAnswer → Bool
  | .done _ => false
  | .error => true

/-- RAM's answer to a write is an error (R39, R40). -/
def RamAck.failed : RamAck → Bool
  | .done => false
  | .error => true

end Sys2Proof

namespace Sys2Proof.Machine

/-! ### The arbiter (R36..R38) -/

/-- A live read access. -/
def readAccess (o : Owner) (r : ReadReq) : Access :=
  { owner := o, isWrite := false, req := { toReadReq := r, mask := 0, data := Tbl.fill 8 0 }, drop := .live }

/-- A live write access. -/
def writeAccess (o : Owner) (w : WriteReq) : Access := { owner := o, isWrite := true, req := w, drop := .live }

/-- Up to eight words as the data of a write. -/
def dataOf (l : List Word) : Tbl 8 Word := Tbl.ofFn fun i => l.getD i.val 0

/-- The M-port write of a voice write (R116). The order line of a write of length 1 is LINEAR too (assumption 33). -/
def voiceAccess (d : Desc) (v : VoiceWrite) : WriteReq :=
  { start := voiceAddr d v.slot + BitVec.ofNat 24 (4 * v.body.firstWord)
    more := Fin.ofNat 8 (v.body.words.length - 1)
    order := .linear
    mask := 0xF
    data := dataOf v.body.words }

/-- The M-port write of a snapshot's next access (R180). -/
def snapshotAccess (c : Control) (n : Snapshot) : WriteReq :=
  { start := controlAddr c (Config.statusOffset + 32 * n.next.val)
    more := 7
    order := .linear
    mask := 0xF
    data := snapshotWords n.image n.next }

/-- The access of the tone port's next turn (R34). -/
def toneAccess (t : Tone) : Option Access :=
  match t.turns with
  | [] => none
  | .request :: _ =>
    match t.service with
    | some (.read r) => some (readAccess .tRead r)
    | some (.write w) => some (writeAccess .tWrite w)
    | none => none
  | .fill :: _ => (latched t.slot).map (readAccess .fill)

/-- The access the player port queue asks for: its head write, or the P read it holds (R30, R31). -/
def playerAccess (q : PlayerQueue) : Option Access :=
  match q.writes with
  | w :: _ => some (writeAccess .pWrite w)
  | [] => q.read.map (readAccess .pRead)

/-- The access a requester waits to make, when it has one and is eligible (R36, R38). -/
def accessOf (s : State) : Requester → Option Access
  | .tone => toneAccess s.tone
  | .voice => s.voice.queue.head?.map fun v => writeAccess .voice (voiceAccess s.ctrl.copy v)
  | .fetcher =>
    match s.map.fetch with
    | some f => if eligible s f then some (readAccess (.fetch f.kind) (fetchAccess s.ctrl f)) else none
    | none => none
  | .player => playerAccess s.player
  | .snapshot => s.stat.snapshot.map fun n => writeAccess .snapshot (snapshotAccess s.ctrl n)

/-- The pass-over count of a requester (R37). -/
def Arbiter.count (a : Arbiter) : Requester → Nat
  | .tone => a.tone
  | .voice => a.voice
  | .fetcher => a.fetcher
  | .player => a.player
  | .snapshot => a.snapshot

/-- The fixed order (R36). -/
def fixedOrder : List Requester := [.tone, .voice, .fetcher, .player, .snapshot]

/-- A requester waits (R36). -/
def waits (s : State) (r : Requester) : Bool := (accessOf s r).isSome

/-- The arbiter's choice (R37): the first waiting requester owed a grant, or else the first waiting one. -/
def chosen (s : State) : Option Requester :=
  match fixedOrder.find? (fun r => waits s r && decide (s.arb.count r = Config.passMax)) with
  | some r => some r
  | none => fixedOrder.find? (waits s)

/-- A requester's count after a grant to `g` (R37). -/
def countAfter (s : State) (g r : Requester) : Nat :=
  if r = g then 0
  else if waits s r then min (s.arb.count r + 1) Config.passMax
  else 0

/-- The grant of the free M-port (R37). -/
def grant (s : State) : State :=
  match s.arb.access with
  | some _ => s
  | none =>
    match chosen s with
    | none => s
    | some g =>
      s.setArb
        { tone := countAfter s g .tone
          voice := countAfter s g .voice
          fetcher := countAfter s g .fetcher
          player := countAfter s g .player
          snapshot := countAfter s g .snapshot
          access := accessOf s g }

/-! ### Answers of RAM -/

/-- The access has been answered: the M-port is free (R36). -/
def freePort (s : State) : State := s.setArb { s.arb with access := none }

/-- The port an error of the bridge's own accesses is logged with (R40). -/
def ownPort : Owner → PortId
  | .fill => .portT
  | .tRead | .tWrite => .portT
  | .pWrite | .pRead => .portP
  | .voice | .fetch _ | .snapshot => .bridge

/-- An error answer is logged as MEMORY_ERROR with the access's first word (R39, R40). -/
def logError (a : Access) (isError : Bool) (s : State) : State :=
  if isError then logFault .memoryError (ownPort a.owner) a.req.start s else s

/-- RAM answers the access in progress if it is one of `isMine`: an abandoned one only frees the M-port, with its
error logged after REINIT (R10, R11, R81); a live one has its effect. -/
def landing (isMine : Owner → Bool) (isError : Bool) (effect : Access → State → State) (s : State) : State :=
  match s.arb.access with
  | none => s
  | some a =>
    if isMine a.owner then
      match a.drop with
      | .live => effect a (logError a isError (freePort s))
      | .reinit => logError a isError (freePort s)
      | .held => freePort s
    else s

/-- The P write named a word of the incoming bank's map region (R153). -/
def namedBank (c : Control) (b : Bank) (w : WriteReq) : Bool :=
  (namedAddrs w.toReadReq).any fun a => within (c.copy.mapBase b).toNat 1024 a.toNat

/-- In TRANSPARENT a pending swap is tested at each landing of a P write into the incoming bank (R153). -/
def testSwapLanding (w : WriteReq) (s : State) : State :=
  match s.ctrl.swap with
  | some x => if s.ctrl.op = .transparent ∧ namedBank s.ctrl x.incoming w = true then testSwap s else s
  | none => s

/-- One write fewer stands before the command write; the argument read is requested when none does (R168). -/
def argumentNearer (s : State) : State :=
  if s.ctrl.command.isSome ∧ s.ctrl.argRead = .none then
    s.setCtrl { s.ctrl with
      argAhead := s.ctrl.argAhead - 1
      argRead := if s.ctrl.argAhead ≤ 1 then .requested else .none }
  else s

/-- The head entry of the P write queue has reached RAM (R30). -/
def pWriteLanded (a : Access) (s : State) : State :=
  let s₁ := s.setPlayer { s.player with writes := s.player.writes.tail }
  chooseFetch (testSwapLanding a.req (argumentNearer s₁))

/-- A P read has been answered (R31, R39). -/
def pReadDone (ans : RamAnswer) (a : Access) (s : State) : State :=
  let s₁ := s.setPlayer { s.player with read := none }
  match ans with
  | .done t => answerP (.accept (answerWords a.req.toReadReq t)) s₁
  | .error => answerP .refuse s₁

/-- The T request in service has been answered. -/
def endService (s : State) : State := s.setTone { s.tone with service := none, turns := s.tone.turns.tail }

/-- A T read has been answered (R33, R39, R128). -/
def tReadDone (ans : RamAnswer) (a : Access) (s : State) : State :=
  match ans with
  | .done t => answerTRead a.req.toReadReq t (endService s)
  | .error => answerT .refuse (endService s)

/-- A T write has been answered (R34, R39). -/
def tWriteDone (k : RamAck) (s : State) : State :=
  match k with
  | .done => answerT (.accept []) (endService s)
  | .error => answerT .refuse (endService s)

/-- The head write of the voice write queue has landed (R116). -/
def voiceLanded (s : State) : State :=
  match s.voice.queue with
  | [] => s
  | v :: vs => closeGroups (s.setVoice (landTag v.tag { s.voice with queue := vs }))

/-- A held-read fill has been answered (R124, R125). -/
def fillLanded (ans : RamAnswer) (s : State) : State :=
  let t : Tone := { s.tone with turns := s.tone.turns.tail, fill := .none }
  match s.tone.slot with
  | .filling r =>
    match ans with
    | .done words => s.setTone { t with slot := .ready r words s.timebase }
    | .error => s.setTone { t with slot := .vacant }
  | .vacant | .waiting _ | .ready _ _ _ => tryFill (s.setTone t)

/-- A map entry fetch has landed (R77, R79, R84). -/
def entryLanded (ans : RamAnswer) (b : Bank) (p : Pos) (s : State) : State :=
  let overtaken := match s.map.fetch with
    | some f => f.overtaken
    | none => false
  let s₁ := endFetch s
  match ans with
  | .error => chooseFetch (deliverEntry b p EntrySnap.none s₁)
  | .done t =>
    let w := t.get 0
    let s₂ :=
      if overtaken then s₁
      else s₁.setMap { s₁.map with cache := install { bank := b, pos := p, word := w } s₁.map.cache }
    let h := handEntry b p w s₂
    chooseFetch (deliverEntry b p h.1 h.2)

/-- A program with its words read is handed on (R73). -/
def programHanded (words : List Word) (s : State) : State :=
  chooseFetch (deliverProgram (layersOf words (layerCount (words.getD 0 0))) (endFetch s))

/-- An access of a program fetch has landed (R73, R84). -/
def programLanded (ans : RamAnswer) (n : ProgNo) (s : State) : State :=
  match s.map.fetch with
  | none => s
  | some f =>
    match ans with
    | .error => chooseFetch (deliverProgram [] (endFetch s))
    | .done t =>
      match f.first with
      | some first => programHanded (first.cells ++ [t.get 0]) s
      | none =>
        let count := layerCount (t.get 0)
        if count ≤ 7 then programHanded t.cells s
        else if count = 8 then s.setMap { s.map with fetch := some { f with first := some t } }
        else
          let a := s.ctrl.copy.programs + BitVec.ofNat 24 (64 * n.val)
          chooseFetch (deliverProgram [] (logFault .badProgram .bridge a (endFetch s)))

/-- A section reload has landed (R87): the whole record is installed, or the old values stay after an error. -/
def reloadLanded (ans : RamAnswer) (i : SectNo) (s : State) : State :=
  let r := s.map.sects.get i
  let r' : SectRecord :=
    match ans with
    | .done t => { sectOf (t.get 0) (t.get 1) (t.get 2) (t.get 3) with mark := r.mark.landed }
    | .error => { r with mark := .clear }
  let s₁ := endFetch s
  chooseFetch (s₁.setMap { s₁.map with sects := s₁.map.sects.set i r' })

/-- The argument read has landed (R168, R169). -/
def argumentLanded (ans : RamAnswer) (s : State) : State :=
  let s₁ := endFetch s
  let s₂ := s₁.setCtrl { s₁.ctrl with command := none, argRead := .none, argAhead := 0 }
  match s.ctrl.command with
  | none => chooseFetch s₂
  | some o =>
    match ans with
    | .done t => chooseFetch (actWith o (t.get 0) s₂)
    | .error => chooseFetch (answer .bad s₂)

/-- A snapshot access has landed (R180). -/
def snapshotLanded (s : State) : State :=
  match s.stat.snapshot with
  | none => s
  | some n =>
    if n.next = 3 then
      s.setStat { s.stat with
        stale := if s.stat.changed then s.stat.stale else false, freshPass := true, snapshot := none }
    else s.setStat { s.stat with snapshot := some { n with next := n.next + 1 } }

/-! ### INIT's reads (R13, R14) -/

/-- The descriptor has been read: checked, or marked invalid after a failed read (R8, R13). -/
def descriptorRead (words : List Word) (failed : Bool) (s : State) : State :=
  let cb := controlBase s.ctrl.dsel
  if failed then
    enterSnapshotPhase
      (logFault .descBad .bridge (controlAddr s.ctrl 0) (s.setCtrl { s.ctrl with valid := false }))
  else
    let d := Desc.ofWords words
    match d.check cb with
    | none => s.setCtrl { s.ctrl with desc := some d, valid := true, phase := some (.sections 0) }
    | some w =>
      enterSnapshotPhase
        (logFault .descBad .bridge (controlAddr s.ctrl (4 * w))
          (s.setCtrl { s.ctrl with desc := some d, valid := false }))

/-- A descriptor read of INIT has landed (R13). -/
def descriptorLanded (ans : RamAnswer) (s : State) : State :=
  match s.ctrl.phase with
  | some (.descriptor k words failed) =>
    let words' := match ans with
      | .done t => words ++ t.cells
      | .error => words
    let failed' := failed || ans.failed
    let s₁ := endFetch s
    if k = 3 then chooseFetch (descriptorRead words' failed' s₁)
    else chooseFetch (s₁.setCtrl { s₁.ctrl with phase := some (.descriptor (k + 1) words' failed') })
  | some .drain | some (.sections _) | some .voiceTable | some .snapshot | none => endFetch s

/-- The two records that a read of the sections phase covers (R14). -/
def installPair (k : Fin 4) (ans : RamAnswer) (t : Tbl 8 SectRecord) : Tbl 8 SectRecord :=
  let i : SectNo := Fin.ofNat 8 (2 * k.val)
  let j : SectNo := Fin.ofNat 8 (2 * k.val + 1)
  match ans with
  | .done w =>
    (t.set i (sectOf (w.get 0) (w.get 1) (w.get 2) (w.get 3))).set j
      (sectOf (w.get 4) (w.get 5) (w.get 6) (w.get 7))
  | .error => (t.set i SectRecord.zero).set j SectRecord.zero

/-- The voice table phase begins (R15): the voicing engine rebuilds the values of R113 and pushes 64 FREE writes. -/
def beginVoiceTable (s : State) : State :=
  let s₁ := s.setCtrl { s.ctrl with phase := some .voiceTable }
  let s₂ := report s₁ (s₁.setEng Engine.reset)
  runJobs .rebuild ((List.finRange 64).map Job.blank) s₂

/-- A section table read of INIT has landed (R14). -/
def sectionsLanded (ans : RamAnswer) (s : State) : State :=
  match s.ctrl.phase with
  | some (.sections k) =>
    let s₁ := endFetch s
    let s₂ := s₁.setMap { s₁.map with sects := installPair k ans s₁.map.sects }
    if k = 3 then beginVoiceTable s₂
    else chooseFetch (s₂.setCtrl { s₂.ctrl with phase := some (.sections (k + 1)) })
  | some .drain | some (.descriptor _ _ _) | some .voiceTable | some .snapshot | none => endFetch s

/-! ### The owners of the landings -/

def isEntryFetch : Owner → Bool
  | .fetch (.entry _ _) => true
  | _ => false

def isProgramFetch : Owner → Bool
  | .fetch (.program _) => true
  | _ => false

def isReloadFetch : Owner → Bool
  | .fetch (.reload _) => true
  | _ => false

def isDescriptorFetch : Owner → Bool
  | .fetch (.descriptor _) => true
  | _ => false

def isSectionsFetch : Owner → Bool
  | .fetch (.sections _) => true
  | _ => false

/-- RAM answers a T read's access. -/
def tReadCompletes (ans : RamAnswer) (s : State) : State :=
  landing (fun o => decide (o = .tRead)) ans.failed (tReadDone ans) s

end Sys2Proof.Machine
end

