-- ==== Sys2Proof/Machine/FrameEvents.lean ====
section
/-! DEFINITION. The frame starts that trip the watchdog, end the reversal hold or begin a settle cut, and the ends of
the three timers (Chapters 3, 4, 7 and 10). -/

namespace Sys2Proof.Machine

/-! ### The answer that is the frame start (assumption 4) -/

/-- RAM's data would answer a T read that is a frame start (R128). -/
def completesFrame (s : State) : Bool :=
  match s.arb.access with
  | some a => decide (a.owner = .tRead ∧ a.drop = .live) && isFrameStart s.ctrl a.req.toReadReq
  | none => false

/-- The T read would be answered from the held-read slot and be a frame start (R126, R128). -/
def heldReadFrame (s : State) (r : ReadReq) : Bool :=
  s.tone.service.isNone && s.ctrl.op.working && !badStart r.start &&
    (firstRefused (refusesRead s.ctrl) (namedAddrs r)).isNone && isFrameStart s.ctrl r &&
    (match gateOf s r with
      | .fromSlot _ => true
      | .defer _ => false
      | .pass => false)

/-- The answer would be a frame start (R128). -/
def wouldFrame (s : State) : FrameCause → Bool
  | .completes _ => completesFrame s
  | .heldRead r => heldReadFrame s r

/-- The answer itself, with its frame start (R33, R126, R128). -/
def frameAnswer (f : FrameCause) (s : State) : State :=
  match f with
  | .completes words => tReadCompletes (.done words) s
  | .heldRead r => tRead r s

/-! ### What the frame start would bring about -/

/-- The next frame start trips the scan-silence watchdog (R52, R53). -/
def wouldTrip (s : State) : Bool := s.scan.trips s.ctrl.copy s.ctrl.op

/-- The next frame start brings the reversal hold count to 0 (R60). -/
def wouldEndHold (s : State) : Bool := decide (s.bellows.hold = 1)

/-- The next frame start begins a settle cut (R173, R174). -/
def wouldCut (s : State) : Bool :=
  decide (s.ctrl.op = .settling ∧ s.eng.order ≠ [] ∧
    s.ctrl.copy.settleFrames.toNat ≤ nextSettleFrame s.ctrl.settleFrames) && !s.ctrl.settleCut

/-- SCAN_SILENCE_TRIP (R53). -/
def execScanSilenceTrip (f : FrameCause) (s : State) : Host.Outcome State Fault Refusal :=
  if wouldFrame s f && wouldTrip s then .next (frameAnswer f s) else .next s

/-- REVERSAL_HOLD_END (R60). -/
def execReversalHoldEnd (f : FrameCause) (s : State) : Host.Outcome State Fault Refusal :=
  if wouldFrame s f && wouldEndHold s then .next (frameAnswer f s) else .next s

/-- SETTLE_CUT (R173, R174). -/
def execSettleCut (f : FrameCause) (s : State) : Host.Outcome State Fault Refusal :=
  if wouldFrame s f && wouldCut s then .next (frameAnswer f s) else .next s

/-! ### Timers (assumption 7) -/

/-- The timebase has reached at least the reading `t`. -/
def reachTime (t : Nat) (s : State) : State := s.setTimebase (max s.timebase t)

/-- SETTLE_TIMER_END (R174): 100 ms after the entry to SETTLING. -/
def execSettleTimerEnd (s : State) : Host.Outcome State Fault Refusal :=
  match s.ctrl.settleTimer with
  | some t₀ =>
    if s.ctrl.op = .settling then .next (beginSettleCut (reachTime (t₀ + Config.settleMicros) s)) else .next s
  | none => .next s

/-- The first group of the table that is still OPEN turns LATE (R120). -/
def markLate : List Group → List Group
  | [] => []
  | g :: gs => if g.late then g :: markLate gs else { g with late := true } :: gs

/-- The oldest OPEN group. -/
def oldestOpen (v : VoiceWriter) : Option Group := v.groups.find? fun g => !g.late

/-- A group has been open for HOLD_LIMIT (R120). -/
def groupLate (g : Group) (s : State) : State :=
  let s₁ := reachTime (g.openedAt + s.ctrl.copy.holdLimit.toNat) s
  let s₂ := s₁.setVoice { s₁.voice with groups := markLate s₁.voice.groups }
  let s₃ := setCounters (fun c => { c with lateGroups := bump c.lateGroups }) s₂
  tryFill (raiseFlag flagGroupLate s₃)

/-- GROUP_LATE (R120): the group that has been open longest. -/
def execGroupLate (s : State) : Host.Outcome State Fault Refusal :=
  match oldestOpen s.voice with
  | some g => .next (groupLate g s)
  | none => .next s

/-- HELD_READ_DISCARD (R126): 200 microseconds after the slot became READY. -/
def execHeldReadDiscard (s : State) : Host.Outcome State Fault Refusal :=
  match s.tone.slot with
  | .ready _ _ t₀ =>
    let s₁ := reachTime (t₀ + Config.discardMicros) s
    .next (setCounters (fun c => { c with discards := bump c.discards })
      (s₁.setTone { s₁.tone with slot := .vacant }))
  | .vacant | .waiting _ | .filling _ => .next s

end Sys2Proof.Machine
end

