-- ==== Sys2Proof/Machine/Items.lean ====
section
/-! DEFINITION. The voicing engine's items: each is taken when work selection chooses it (R95), and runs until it ends
or has to wait (Chapters 6 and 8, assumptions 5 and 25). -/

namespace Sys2Proof.Machine

/-- PUSH_WAIT_END (R119): a push that waited is made, and its item goes on. -/
def execPushWaitEnd (s : State) : Host.Outcome State Fault Refusal :=
  match s.eng.item with
  | some it =>
    match it.wait with
    | .push pu => .next (chooseFetch (resumePush it pu s))
    | .entry _ _ | .program _ | .turnEntry _ | .turnProgram _ => .next s
  | none => .next s

/-! ### Hush and release-all -/

/-- A hush item (R109, R133): HUSHED is not raised for a settle cut alone (R174). -/
def hushItem (s : State) : State :=
  let s₁ := if s.eng.hushPending = .source then raiseFlag flagHushed s else s
  let s₂ := s₁.setEng { s₁.eng with
    hushPending := .clear, releaseAll := false, pendingFrames := 0, revWalk := none, sustainWalk := false,
    sweep := none }
  let s₃ := endRestrike s₂
  runJobs .hush (s₃.eng.order.map (fun i => Job.free i true) ++ [.clearTable]) s₃

/-- HUSH_ITEM (R109). -/
def execHushItem (s : State) : Host.Outcome State Fault Refusal :=
  if nextItem s = some .hush then .next (hushItem s) else .next s

/-- The releases of one record in a group of its own, and its removal (R110). -/
def releaseAllJobs (r : HeldRec) : List Job := releaseJobs r ++ [.finishGroup, .removeRecord r.pos]

/-- RELEASE_ALL (R110): every record, oldest first. -/
def execReleaseAll (s : State) : Host.Outcome State Fault Refusal :=
  if nextItem s = some .releaseAll then
    let s₁ := s.setEng { s.eng with releaseAll := false }
    .next (runJobs .releaseAll (s₁.eng.held.flatMap releaseAllJobs) s₁)
  else .next s

/-! ### The reversal walk -/

/-- The reversal notice is taken (R63, R135): the walk starts at the oldest record. -/
def takeReversalNotice (d : Dir) (s : State) : State :=
  (s.setBellows { s.bellows with revNotice := none }).setEng
    { s.eng with appliedDir := d, revWalk := (s.eng.held.head?).map (·.pos) }

/-- TAKE_REVERSAL_NOTICE (R135). -/
def execTakeReversalNotice (s : State) : Host.Outcome State Fault Refusal :=
  if nextItem s = some .takeReversal then
    match s.bellows.revNotice with
    | some d => .next (takeReversalNotice d s)
    | none => .next s
  else .next s

/-- The record of `p` takes the applied direction. -/
def turnRecord (p : Pos) (s : State) : State :=
  s.setEng (updateRec p (fun r => { r with dir := s.eng.appliedDir }) s.eng)

/-- One visit of the reversal walk (R136). -/
def reversalVisit (r : HeldRec) (s : State) : State :=
  let k : ItemKind := .reversalStep r.pos
  if r.sustained ∨ r.dir = s.eng.appliedDir then itemEnd k s
  else
    let s₁ := turnRecord r.pos s
    match r.snap.policy with
    | .hold => itemEnd k s₁
    | .repitch => runJobs k (releaseJobs r ++ [.voice r.pos]) s₁
    | .cut => runJobs k (releaseJobs r) s₁

/-- The reversal walk's step at the place `p` (R136). -/
def reversalStep (p : Pos) (s : State) : State :=
  match findRec s.eng p with
  | some r => chooseFetch (reversalVisit r s)
  | none => s.setEng { s.eng with revWalk := none }

/-- REVERSAL_WALK_STEP (R136..R139). -/
def execReversalWalkStep (s : State) : Host.Outcome State Fault Refusal :=
  if nextItem s = some .reversalStep then
    match s.eng.revWalk with
    | some p => .next (reversalStep p s)
    | none => .next s
  else .next s

/-! ### Frame expiry -/

/-- A countdown lowered by `n` frames, stopping at 0 (R108). -/
def lowerCountdown (n : Nat) (r : SlotRec) : SlotRec :=
  match r.state with
  | .releasing => { r with countdown := r.countdown.map (· - n) }
  | .free => r
  | .sounding => r

/-- The slot's countdown has reached 0. -/
def expired (mirror : Tbl 64 SlotRec) (i : Slot) : Bool :=
  decide ((mirror.get i).state = .releasing ∧ (mirror.get i).countdown = some 0)

/-- The pending frames are taken (R108). -/
def frameExpiry (s : State) : State :=
  let mirror := s.eng.mirror.map (lowerCountdown s.eng.pendingFrames)
  let s₁ := s.setEng { s.eng with mirror := mirror, pendingFrames := 0 }
  runJobs .expiry ((s₁.eng.order.filter (expired mirror)).map fun i => Job.free i false) s₁

/-- FRAME_EXPIRY (R108). -/
def execFrameExpiry (s : State) : Host.Outcome State Fault Refusal :=
  if nextItem s = some .expiry then .next (frameExpiry s) else .next s

/-! ### Button events -/

/-- The event at the head of the queue is removed (R47). -/
def takeEvent (s : State) : State := report s (s.setScan { s.scan with events := s.scan.events.tail })

/-- A press (R101). -/
def pressItem (p : Pos) (s : State) : State :=
  let s₁ := takeEvent s
  match findRec s₁.eng p with
  | some r => runJobs (.press p) (releaseJobs r ++ [.removeRecord p, .pressEntry p]) s₁
  | none => pressRequest p s₁

/-- PRESS (R101). -/
def execPress (s : State) : Host.Outcome State Fault Refusal :=
  if nextItem s = some .press then
    match s.scan.events with
    | ev :: _ => .next (chooseFetch (pressItem ev.pos s))
    | [] => .next s
  else .next s

/-- A release (R106). -/
def releaseItem (p : Pos) (s : State) : State :=
  let s₁ := takeEvent s
  match findRec s₁.eng p with
  | none => itemEnd (.release p) s₁
  | some r =>
    if s₁.ctrl.sustain then
      itemEnd (.release p) (s₁.setEng (updateRec p (fun r => { r with sustained := true }) s₁.eng))
    else runJobs (.release p) (releaseJobs r ++ [.removeRecord p]) s₁

/-- RELEASE (R106). -/
def execRelease (s : State) : Host.Outcome State Fault Refusal :=
  if nextItem s = some .release then
    match s.scan.events with
    | ev :: _ => .next (releaseItem ev.pos s)
    | [] => .next s
  else .next s

/-! ### The sustain-off and restrike walks -/

/-- The oldest sustained record (R144). -/
def oldestSustained (e : Engine) : Option HeldRec := e.held.find? fun r => r.sustained

/-- A sustain-off walk step (R144). -/
def sustainStep (s : State) : State :=
  if s.ctrl.sustain then s.setEng { s.eng with sustainWalk := false }
  else
    match oldestSustained s.eng with
    | none => s.setEng { s.eng with sustainWalk := false }
    | some r => runJobs (.sustainStep r.pos) (releaseJobs r ++ [.removeRecord r.pos]) s

/-- SUSTAIN_OFF_WALK_STEP (R144). -/
def execSustainOffWalkStep (s : State) : Host.Outcome State Fault Refusal :=
  if nextItem s = some .sustainStep then .next (sustainStep s) else .next s

/-- The oldest record without a sustained mark that is not on the active bank (R141). -/
def oldestOffBank (s : State) : Option HeldRec :=
  s.eng.held.find? fun r => !r.sustained && decide (r.bank ≠ s.ctrl.bank)

/-- A restrike walk step (R141): the entry is asked for first, or the walk ends (R140). -/
def restrikeStep (s : State) : State :=
  match oldestOffBank s with
  | none => endRestrike s
  | some r => chooseFetch (requestEntry (.restrikeStep r.pos) s.ctrl.bank r.pos s)

/-- RESTRIKE_WALK_STEP (R141). -/
def execRestrikeWalkStep (s : State) : Host.Outcome State Fault Refusal :=
  if nextItem s = some .restrikeStep then .next (restrikeStep s) else .next s

/-! ### Levels -/

/-- The level notice is taken (R63, R145): the sweep starts at the head of the sounding order. -/
def takeLevelNotice (m : Nat) (s : State) : State :=
  (s.setBellows { s.bellows with levelNotice := none }).setEng
    { s.eng with appliedMag := m, sweep := s.eng.order.head? }

/-- TAKE_LEVEL_NOTICE (R145). -/
def execTakeLevelNotice (s : State) : Host.Outcome State Fault Refusal :=
  if nextItem s = some .takeLevel then
    match s.bellows.levelNotice with
    | some m => .next (takeLevelNotice m s)
    | none => .next s
  else .next s

/-- One visit of the level sweep (R146). -/
def sweepStep (i : Slot) (s : State) : State :=
  let r := s.eng.mirror.get i
  let lvl := levelFor s r.sect r.trim
  let k : ItemKind := .sweepStep i
  if lvl = r.level then itemEnd k s
  else if canPush s (.level i lvl) then itemEnd k (doPush (.level i lvl) s)
  else waitFor k (.push (.level i lvl)) [] s

/-- LEVEL_SWEEP_STEP (R146). -/
def execLevelSweepStep (s : State) : Host.Outcome State Fault Refusal :=
  if nextItem s = some .sweepStep then
    match s.eng.sweep with
    | some i => .next (sweepStep i s)
    | none => .next s
  else .next s

end Sys2Proof.Machine
end

