-- ==== Sys2Proof/Machine/MemoryPort.lean ====
section
/-! DEFINITION. The commands of the memory port: the grant and the answers of RAM (Chapters 2, 5, 7, 10, 11). -/

namespace Sys2Proof.Machine

/-- MPORT_GRANT (R36, R37). -/
def execMportGrant (s : State) : Host.Outcome State Fault Refusal := .next (grant s)

/-- P_WRITE_LANDS (R30, R39). -/
def execPWriteLands (k : RamAck) (s : State) : Host.Outcome State Fault Refusal :=
  .next (landing (fun o => decide (o = .pWrite)) k.failed pWriteLanded s)

/-- P_READ_COMPLETES (R31, R39). -/
def execPReadCompletes (a : RamAnswer) (s : State) : Host.Outcome State Fault Refusal :=
  .next (landing (fun o => decide (o = .pRead)) a.failed (pReadDone a) s)

/-- T_READ_COMPLETES (R33, R39, R128). -/
def execTReadCompletes (a : RamAnswer) (s : State) : Host.Outcome State Fault Refusal := .next (tReadCompletes a s)

/-- T_WRITE_COMPLETES (R34, R39). -/
def execTWriteCompletes (k : RamAck) (s : State) : Host.Outcome State Fault Refusal :=
  .next (landing (fun o => decide (o = .tWrite)) k.failed (fun _ => tWriteDone k) s)

/-- VOICE_WRITE_LANDS (R116, R118). -/
def execVoiceWriteLands (k : RamAck) (s : State) : Host.Outcome State Fault Refusal :=
  .next (landing (fun o => decide (o = .voice)) k.failed (fun _ => voiceLanded) s)

/-- HELD_READ_FILL_LANDS (R124, R125). -/
def execHeldReadFillLands (a : RamAnswer) (s : State) : Host.Outcome State Fault Refusal :=
  .next (landing (fun o => decide (o = .fill)) a.failed (fun _ => fillLanded a) s)

/-- MAP_ENTRY_FETCH_LANDS (R77, R79, R84). -/
def execMapEntryFetchLands (a : RamAnswer) (s : State) : Host.Outcome State Fault Refusal :=
  .next (landing isEntryFetch a.failed (fun acc t =>
    match acc.owner with
    | .fetch (.entry b p) => entryLanded a b p t
    | _ => t) s)

/-- PROGRAM_FETCH_LANDS (R73, R84). -/
def execProgramFetchLands (a : RamAnswer) (s : State) : Host.Outcome State Fault Refusal :=
  .next (landing isProgramFetch a.failed (fun acc t =>
    match acc.owner with
    | .fetch (.program n) => programLanded a n t
    | _ => t) s)

/-- SECTION_RELOAD_LANDS (R87, R84). -/
def execSectionReloadLands (a : RamAnswer) (s : State) : Host.Outcome State Fault Refusal :=
  .next (landing isReloadFetch a.failed (fun acc t =>
    match acc.owner with
    | .fetch (.reload i) => reloadLanded a i t
    | _ => t) s)

/-- ARGUMENT_READ_LANDS (R168, R169). -/
def execArgumentReadLands (a : RamAnswer) (s : State) : Host.Outcome State Fault Refusal :=
  .next (landing (fun o => decide (o = .fetch .argument)) a.failed (fun _ => argumentLanded a) s)

/-- SNAPSHOT_ACCESS_LANDS (R180). -/
def execSnapshotAccessLands (k : RamAck) (s : State) : Host.Outcome State Fault Refusal :=
  .next (landing (fun o => decide (o = .snapshot)) k.failed (fun _ => snapshotLanded) s)

end Sys2Proof.Machine
end

