-- ==== Sys2Proof/Machine/PinChanges.lean ====
section
/-! DEFINITION. The commands of the HUSH and SUST pins (Chapter 9). -/

namespace Sys2Proof.Machine

/-- The HUSH reading becomes `high` (R158): HUSH effective is worked out afresh, and an assertion announces a hush. -/
def readHush (high : Bool) (s : State) : State :=
  let s₁ := workOut (s.setCtrl { s.ctrl with hushReading := high })
  if high && !s.ctrl.hushReading && hushEnable s.ctrl && s.ctrl.op.working then announceHush s₁ else s₁

/-- HUSH_PIN_CHANGE (R158, R159): in HELD the pin is ignored (R10). -/
def execHushPinChange (high : Bool) (s : State) : Host.Outcome State Fault Refusal :=
  let s₁ := s.setPins { s.pins with hush := high }
  .next (if s.ctrl.op = .held then s₁ else readHush high s₁)

/-- SUST_PIN_CHANGE (R156, R157): in HELD the pin is ignored (R10). -/
def execSustPinChange (high : Bool) (s : State) : Host.Outcome State Fault Refusal :=
  let s₁ := s.setPins { s.pins with sust := high }
  .next (if s.ctrl.op = .held then s₁ else workOutSustain (s₁.setCtrl { s₁.ctrl with sustReading := high }))

end Sys2Proof.Machine
end

