-- ==== Sys2Proof/Machine/PlayerCommands.lean ====
section
/-! DEFINITION. The player firmware's commands: each is the P write into the command slot that carries it
(R165, assumption 3), judged and announced like any P write. -/

namespace Sys2Proof.Machine

/-- The P write that carries the opcode, and the argument where the write names word 1. -/
def commandWrite (opcode : Byte) (c : CmdWrite) (s : State) : State := pWrite (commandRequest s.ctrl opcode c) s

/-- UNKNOWN_OPCODE (R167 step 1). -/
def execUnknownOpcode (opcode : Byte) (c : CmdWrite) (s : State) : Host.Outcome State Fault Refusal :=
  .next (commandWrite opcode c s)

/-- PERFORM (R170, R171). -/
def execPerform (c : CmdWrite) (s : State) : Host.Outcome State Fault Refusal := .next (commandWrite 1 c s)

/-- STANDBY with the mode SETTLE in bits 1..0 of word 1 (R170, R172). -/
def execStandbySettle (high : BitVec 24) (argHigh : BitVec 30) (s : State) : Host.Outcome State Fault Refusal :=
  .next (commandWrite 2 { high := high, arg := some (argHigh ++ (1 : BitVec 2)) } s)

/-- STANDBY with the mode CUT in bits 1..0 of word 1 (R170, R175). -/
def execStandbyCut (high : BitVec 24) (argHigh : BitVec 30) (s : State) : Host.Outcome State Fault Refusal :=
  .next (commandWrite 2 { high := high, arg := some (argHigh ++ (2 : BitVec 2)) } s)

/-- SWAP (R152). -/
def execSwap (c : CmdWrite) (s : State) : Host.Outcome State Fault Refusal := .next (commandWrite 3 c s)

/-- PANIC (R170, R159). -/
def execPanic (c : CmdWrite) (s : State) : Host.Outcome State Fault Refusal := .next (commandWrite 4 c s)

/-- SUSTAIN (R156, R157). -/
def execSustain (c : CmdWrite) (s : State) : Host.Outcome State Fault Refusal := .next (commandWrite 5 c s)

/-- GUARD (R161). -/
def execGuard (c : CmdWrite) (s : State) : Host.Outcome State Fault Refusal := .next (commandWrite 6 c s)

/-- GUARD_LOCK (R162). -/
def execGuardLock (c : CmdWrite) (s : State) : Host.Outcome State Fault Refusal := .next (commandWrite 7 c s)

/-- ACK (R183). -/
def execAck (c : CmdWrite) (s : State) : Host.Outcome State Fault Refusal := .next (commandWrite 8 c s)

/-- REINIT (R176). -/
def execReinit (c : CmdWrite) (s : State) : Host.Outcome State Fault Refusal := .next (commandWrite 9 c s)

/-- FLUSH (R80). -/
def execFlush (c : CmdWrite) (s : State) : Host.Outcome State Fault Refusal := .next (commandWrite 10 c s)

end Sys2Proof.Machine
end

