-- ==== Sys2Proof/Machine/Requests.lean ====
section
/-! DEFINITION. The requests of the two upstream ports (Chapters 2 and 7). -/

namespace Sys2Proof.Machine

/-- P_WRITE (R22, R28, R29). -/
def execPWrite (w : WriteReq) (s : State) : Host.Outcome State Fault Refusal := .next (pWrite w s)

/-- P_READ (R22, R31, R179). -/
def execPRead (r : ReadReq) (s : State) : Host.Outcome State Fault Refusal := .next (pRead r s)

/-- T_READ (R22, R33, R122, R126). -/
def execTRead (r : ReadReq) (s : State) : Host.Outcome State Fault Refusal := .next (tRead r s)

/-- T_WRITE (R22, R34). -/
def execTWrite (w : WriteReq) (s : State) : Host.Outcome State Fault Refusal := .next (tWrite w s)

end Sys2Proof.Machine
end

