-- ==== Sys2Proof/Machine/Reset.lean ====
section
/-! DEFINITION. The commands of power-on, RESET and INIT (Chapter 1). -/

namespace Sys2Proof.Machine

/-- POWER_ON_DETECT (R10, R18): HELD with every value at its power-on value, the guard and its lock among them, also
when the bridge is in HELD already. -/
def execPowerOnDetect (s : State) : Host.Outcome State Fault Refusal :=
  .next (enterHeld true (s.setPins { s.pins with detectorActive := true }))

/-- RESET_LOW (R10, R18): HELD with the guard kept; in HELD already the bridge stays there. -/
def execResetLow (s : State) : Host.Outcome State Fault Refusal :=
  let s₁ := s.setPins { s.pins with resetLow := true }
  .next (if s.ctrl.op = .held then s₁ else enterHeld false s₁)

/-- The release of HELD (R2, R11): the straps are sampled, the pins are followed from now on, and INIT begins with its
drain phase. -/
def releaseHeld (dsel : BitVec 2) (boot : Bool) (s : State) : State :=
  setOp .init (s.setCtrl { s.ctrl with
    dsel := dsel, boot := boot, phase := some .drain, sustReading := s.pins.sust, hushReading := s.pins.hush })

/-- HELD_RELEASE (R2): RESET and the detector reach the levels given; HELD is released when both allow it
(assumption 9). A detector that becomes active here clears as at power-on (R10, R163). -/
def execHeldRelease (resetHigh detectorQuiet : Bool) (dsel : BitVec 2) (boot : Bool) (s : State) :
    Host.Outcome State Fault Refusal :=
  if s.ctrl.op = .held then
    let s₁ := s.setPins { s.pins with resetLow := !resetHigh, detectorActive := !detectorQuiet }
    .next
      (if resetHigh && detectorQuiet then releaseHeld dsel boot s₁
      else if !detectorQuiet && !s.pins.detectorActive then enterHeld true s₁
      else s₁)
  else .next s

/-- DRAIN_PHASE_END (R12, R13): the P write queue is empty, and the descriptor phase asks for its first read. -/
def execDrainPhaseEnd (s : State) : Host.Outcome State Fault Refusal :=
  if s.ctrl.phase = some .drain ∧ s.player.writes = [] then
    .next (chooseFetch (s.setCtrl { s.ctrl with phase := some (.descriptor 0 [] false) }))
  else .next s

/-- DESCRIPTOR_READ_LANDS (R13, R8). -/
def execDescriptorReadLands (a : RamAnswer) (s : State) : Host.Outcome State Fault Refusal :=
  .next (landing isDescriptorFetch a.failed (fun _ => descriptorLanded a) s)

/-- SECTIONS_PHASE_READ_LANDS (R14, R15). -/
def execSectionsPhaseReadLands (a : RamAnswer) (s : State) : Host.Outcome State Fault Refusal :=
  .next (landing isSectionsFetch a.failed (fun _ => sectionsLanded a) s)

/-- VOICE_TABLE_PHASE_END (R15, R16): every push has been made and every write has landed. -/
def execVoiceTablePhaseEnd (s : State) : Host.Outcome State Fault Refusal :=
  if s.ctrl.phase = some .voiceTable ∧ s.eng.item = none ∧ s.voice.queue = [] then .next (enterSnapshotPhase s)
  else .next s

/-- INIT_END (R16): the snapshot of INIT has landed. -/
def execInitEnd (s : State) : Host.Outcome State Fault Refusal :=
  if s.ctrl.phase = some .snapshot ∧ s.stat.snapshot = none then .next (endInit s) else .next s

end Sys2Proof.Machine
end

