-- ==== Sys2Proof/Machine/Dispatch.lean ====
section
/-! DEFINITION. The meaning of each command: one arm for each constructor of Instr, one direct call of its meaning. -/

namespace Sys2Proof.Machine

/-- The effect of a command on everything but the queue of commands that wait. -/
def exec (i : Instr) (s : State) : Host.Outcome State Fault Refusal :=
  match i with
  | .powerOnDetect => Sys2Proof.Machine.execPowerOnDetect s
  | .resetLow => Sys2Proof.Machine.execResetLow s
  | .heldRelease resetHigh detectorQuiet dsel boot => Sys2Proof.Machine.execHeldRelease resetHigh detectorQuiet dsel boot s
  | .drainPhaseEnd => Sys2Proof.Machine.execDrainPhaseEnd s
  | .descriptorReadLands a => Sys2Proof.Machine.execDescriptorReadLands a s
  | .sectionsPhaseReadLands a => Sys2Proof.Machine.execSectionsPhaseReadLands a s
  | .voiceTablePhaseEnd => Sys2Proof.Machine.execVoiceTablePhaseEnd s
  | .initEnd => Sys2Proof.Machine.execInitEnd s
  | .hushPinChange high => Sys2Proof.Machine.execHushPinChange high s
  | .sustPinChange high => Sys2Proof.Machine.execSustPinChange high s
  | .pWrite w => Sys2Proof.Machine.execPWrite w s
  | .unknownOpcode opcode c => Sys2Proof.Machine.execUnknownOpcode opcode c s
  | .perform c => Sys2Proof.Machine.execPerform c s
  | .standbySettle high argHigh => Sys2Proof.Machine.execStandbySettle high argHigh s
  | .standbyCut high argHigh => Sys2Proof.Machine.execStandbyCut high argHigh s
  | .swap c => Sys2Proof.Machine.execSwap c s
  | .panic c => Sys2Proof.Machine.execPanic c s
  | .sustain c => Sys2Proof.Machine.execSustain c s
  | .guard c => Sys2Proof.Machine.execGuard c s
  | .guardLock c => Sys2Proof.Machine.execGuardLock c s
  | .ack c => Sys2Proof.Machine.execAck c s
  | .reinit c => Sys2Proof.Machine.execReinit c s
  | .flush c => Sys2Proof.Machine.execFlush c s
  | .pRead r => Sys2Proof.Machine.execPRead r s
  | .tRead r => Sys2Proof.Machine.execTRead r s
  | .tWrite w => Sys2Proof.Machine.execTWrite w s
  | .mportGrant => Sys2Proof.Machine.execMportGrant s
  | .pWriteLands k => Sys2Proof.Machine.execPWriteLands k s
  | .pReadCompletes a => Sys2Proof.Machine.execPReadCompletes a s
  | .tReadCompletes a => Sys2Proof.Machine.execTReadCompletes a s
  | .tWriteCompletes k => Sys2Proof.Machine.execTWriteCompletes k s
  | .scanSilenceTrip f => Sys2Proof.Machine.execScanSilenceTrip f s
  | .reversalHoldEnd f => Sys2Proof.Machine.execReversalHoldEnd f s
  | .settleCut f => Sys2Proof.Machine.execSettleCut f s
  | .settleTimerEnd => Sys2Proof.Machine.execSettleTimerEnd s
  | .groupLate => Sys2Proof.Machine.execGroupLate s
  | .heldReadDiscard => Sys2Proof.Machine.execHeldReadDiscard s
  | .voiceWriteLands k => Sys2Proof.Machine.execVoiceWriteLands k s
  | .heldReadFillLands a => Sys2Proof.Machine.execHeldReadFillLands a s
  | .mapEntryFetchLands a => Sys2Proof.Machine.execMapEntryFetchLands a s
  | .programFetchLands a => Sys2Proof.Machine.execProgramFetchLands a s
  | .sectionReloadLands a => Sys2Proof.Machine.execSectionReloadLands a s
  | .argumentReadLands a => Sys2Proof.Machine.execArgumentReadLands a s
  | .snapshotAccessLands k => Sys2Proof.Machine.execSnapshotAccessLands k s
  | .pushWaitEnd => Sys2Proof.Machine.execPushWaitEnd s
  | .hushItem => Sys2Proof.Machine.execHushItem s
  | .releaseAll => Sys2Proof.Machine.execReleaseAll s
  | .takeReversalNotice => Sys2Proof.Machine.execTakeReversalNotice s
  | .reversalWalkStep => Sys2Proof.Machine.execReversalWalkStep s
  | .frameExpiry => Sys2Proof.Machine.execFrameExpiry s
  | .press => Sys2Proof.Machine.execPress s
  | .release => Sys2Proof.Machine.execRelease s
  | .sustainOffWalkStep => Sys2Proof.Machine.execSustainOffWalkStep s
  | .restrikeWalkStep => Sys2Proof.Machine.execRestrikeWalkStep s
  | .takeLevelNotice => Sys2Proof.Machine.execTakeLevelNotice s
  | .levelSweepStep => Sys2Proof.Machine.execLevelSweepStep s

end Sys2Proof.Machine
end

