-- ==== Sys2Proof/Safety.lean ====
section
/-! DEFINITION. What the statements speak of: the machine keeps running, the laws that every step keeps, the values of
reset, and what a request, a command and a fault leave behind. -/

namespace Sys2Proof.Machine

/-! ### Running -/

/-- The machine answers a next state: it neither faults nor refuses. -/
def Runs (s : State) : Prop := ∃ t, step s = .next t

/-- A step of the machine keeps `P`. -/
def StepKeeps (P : State → Prop) : Prop := ∀ s t, P s → step s = .next t → P t

/-! ### Laws of the state -/

/-- Every slot is held in the free list or in the sounding order, and in neither twice; a slot of the free list is FREE
in the mirror, a slot of the sounding order is not (R90). -/
def SlotsPartitioned (e : Engine) : Prop :=
  (e.free ++ e.order).Perm (List.finRange 64) ∧
  (∀ i ∈ e.free, (e.mirror.get i).state = .free) ∧ (∀ i ∈ e.order, (e.mirror.get i).state ≠ .free)

/-- The eight section counts are the numbers of sounding-order slots with each section (R91). -/
def CountsAgree (e : Engine) : Prop :=
  ∀ k, e.counts.get k = (e.order.filter fun i => decide ((e.mirror.get i).sect = k)).length

/-- The law of the voice slots (R90, R91). -/
def SlotLaw (s : State) : Prop := SlotsPartitioned s.eng ∧ CountsAgree s.eng

/-- The held-button table (R92): at most 32 records, one for each position; a slot is listed once, by one record, and a
listed slot is SOUNDING with that record's position as its owner. -/
def HeldLaw (s : State) : Prop :=
  s.eng.held.length ≤ 32 ∧ (s.eng.held.map (·.pos)).Nodup ∧ (s.eng.held.flatMap (·.voices)).Nodup ∧
  ∀ r ∈ s.eng.held, ∀ i ∈ r.voices,
    (s.eng.mirror.get i).state = .sounding ∧ (s.eng.mirror.get i).owner = some r.pos

/-- The other half of R92: every SOUNDING slot stands in the voice list of a record whose position is its owner, and no
voice list holds more than 8 slots. -/
def ListedLaw (s : State) : Prop :=
  (∀ i, (s.eng.mirror.get i).state = .sounding →
    ∃ r ∈ s.eng.held, (s.eng.mirror.get i).owner = some r.pos ∧ i ∈ r.voices) ∧
  ∀ r ∈ s.eng.held, r.voices.length ≤ 8

/-- The job that a waiting push stands for; a LEVEL write changes no list. -/
def Push.job : Push → Option Job
  | .full p _ _ l x _ => some (.layer p x l)
  | .releasing p i _ => some (.releaseSlot p i)
  | .freeing i g => some (.free i g)
  | .level _ _ => none
  | .blank i => some (.blank i)

/-- What a waiting item has still to do, its waiting push first. -/
def Item.todo (it : Item) : List Job :=
  match it.wait with
  | .push pu => pu.job.toList ++ it.jobs
  | .entry _ _ | .program _ | .turnEntry _ | .turnProgram _ => []

/-- The slot that leaves its voice list with the job. -/
def Job.letsGo : Job → Option Slot
  | .releaseSlot _ i => some i
  | .free i _ => some i
  | .removeRecord _ | .finishGroup | .pressEntry _ | .voice _ | .layer _ _ _ | .clearTable | .blank _ => none

/-- The record that the job starts a voice for. -/
def Job.startsFor : Job → Option Pos
  | .layer p _ _ => some p
  | .releaseSlot _ _ | .free _ _ | .removeRecord _ | .finishGroup | .pressEntry _ | .voice _ | .clearTable
  | .blank _ => none

/-- What the current item has still to do agrees with the held-button table: a record leaves the table, or is voiced,
after its last voice has been let go (R106, R107, R110, R138, R141); an item that starts voices does nothing else, and
starts no more than fit a voice list (R102); a record that waits for its program has no voice; a hush lets every voice
go (R109). -/
def ItemLaw (s : State) : Prop :=
  ∀ it, s.eng.item = some it →
    (∀ before j after, it.todo = before ++ j :: after → ∀ r ∈ s.eng.held,
      j = .removeRecord r.pos ∨ j = .voice r.pos ∨ j = .clearTable →
      ∀ i ∈ r.voices, i ∈ before.filterMap Job.letsGo) ∧
    (∀ r ∈ s.eng.held,
      r.voices.length + (it.todo.filter fun j => decide (j.startsFor = some r.pos)).length ≤ 8) ∧
    ((∃ j ∈ it.todo, j.startsFor ≠ none) → ∀ j ∈ it.todo, j.startsFor ≠ none) ∧
    (∀ r ∈ s.eng.held, it.wait = .program r.pos ∨ it.wait = .turnProgram r.pos → r.voices = []) ∧
    (it.kind = .hush → (∃ pu, it.wait = .push pu) ∧ (∀ j ∈ it.todo, j = .clearTable ∨ j.letsGo ≠ none) ∧
      ∀ r ∈ s.eng.held, ∀ i ∈ r.voices, i ∈ it.todo.filterMap Job.letsGo)

/-- INIT has a phase and no other state has one; PERFORMING and SETTLING have a valid descriptor (R9); a descriptor
marked valid passes the checks of R8, and in HELD none is (R10); effective sustain
and HUSH effective are what R156 and R158 make of their inputs; the guard span is in order (R150); the settle timer and
the settle cut belong to SETTLING (R164); a command in progress is one whose argument is being read, in a working state
(R168), and without a valid descriptor one that needs none (R167). -/
def ControlLaw (s : State) : Prop :=
  (s.ctrl.phase.isSome = true ↔ s.ctrl.op = .init) ∧
  (s.ctrl.op = .performing ∨ s.ctrl.op = .settling → s.ctrl.valid = true) ∧
  (s.ctrl.valid = true → s.ctrl.op ≠ .held ∧ s.ctrl.copy.check (controlBase s.ctrl.dsel) = none) ∧
  s.ctrl.sustain = sustainValue s.ctrl ∧ s.ctrl.hushEffective = hushValue s.ctrl ∧
  s.ctrl.guard.first ≤ s.ctrl.guard.last ∧
  (s.ctrl.settleTimer.isSome = true ∨ s.ctrl.settleCut = true → s.ctrl.op = .settling) ∧
  ∀ o, s.ctrl.command = some o →
    s.ctrl.op.working = true ∧ o.hasArg = true ∧ (s.ctrl.valid = true ∨ o.anyDescriptor = true)

/-- The collections keep within their sizes: P write queue (R29), pass-over counts (R37), voice write queue (R115),
group table (R117), pending frames (R94), settle frames (R164). -/
def CapacityLaw (s : State) : Prop :=
  s.player.writes.length ≤ 8 ∧
  s.arb.tone ≤ 8 ∧ s.arb.voice ≤ 8 ∧ s.arb.fetcher ≤ 8 ∧ s.arb.player ≤ 8 ∧ s.arb.snapshot ≤ 8 ∧
  s.voice.queue.length ≤ 32 ∧ s.voice.groups.length ≤ 4 ∧
  s.eng.pendingFrames ≤ 255 ∧ s.ctrl.settleFrames ≤ 255

/-- The map cache holds at most 32 entries, no two with one tag (R76). -/
def CacheLaw (s : State) : Prop :=
  s.map.cache.length ≤ 32 ∧ (s.map.cache.map fun e => (e.bank, e.pos)).Nodup

/-- The kinds of the queued events of position `p`, oldest first. -/
def eventKinds (s : State) (p : Pos) : List Bool :=
  (s.scan.events.filter fun e => decide (e.pos = p)).map (·.isPress)

/-- The button event queue holds at most 32 events, and none outside PERFORMING; those of one position alternate, and
the last one agrees with the down image (R47). -/
def EventLaw (s : State) : Prop :=
  s.scan.events.length ≤ 32 ∧ (s.ctrl.op ≠ .performing → s.scan.events = []) ∧
  ∀ p, (eventKinds s p).IsChain (· ≠ ·) ∧
    (∀ k, (eventKinds s p).getLast? = some k → (k = true ↔ s.scan.down.get p = .down))

/-- The held-read slot and its fill agree, and data in hand or on its way touches no OPEN group (R122..R125); outside the
working states the slot is EMPTY (R127). -/
def HeldReadLaw (s : State) : Prop :=
  (s.ctrl.op.working = false → s.tone.slot = .vacant) ∧
  (s.ctrl.phase.isSome = true → s.ctrl.op = .init) ∧
  match s.tone.slot with
  | .vacant => s.tone.fill = .none
  | .waiting r => s.tone.fill = .discarded ∨ (s.tone.fill = .none ∧ touchesOpen s r = true)
  | .filling r => s.tone.fill = .live ∧ touchesOpen s r = false
  | .ready r _ _ => s.tone.fill = .none ∧ touchesOpen s r = false

/-- At most one group is filling, and none while the engine has no current item (R96, R117). -/
def FillLaw (s : State) : Prop :=
  (s.voice.groups.filter (·.filling)).length ≤ 1 ∧ (s.eng.item = none → ∀ g ∈ s.voice.groups, g.filling = false)

/-- The tracker's values lie in their ranges (R56). -/
def TrackerLaw (s : State) : Prop :=
  s.bellows.magnitude ≤ 2047 ∧ s.bellows.notified ≤ 2047 ∧ s.bellows.hold ≤ 15 ∧
  (∀ m, s.bellows.levelNotice = some m → m ≤ 2047) ∧ s.eng.appliedMag ≤ 2047

/-! ### The values of reset -/

/-- The values that every block takes at entry to HELD (R10), the guard and the kept straps apart: R29, R35, R37, R54,
R56, R76, R81, R85, R113, R127, R130, R131, R150, R164, R185. -/
def ResetValues (t : State) : Prop :=
  t.ctrl.op = .held ∧ t.ctrl.phase = none ∧ t.ctrl.desc = none ∧ t.ctrl.valid = false ∧
  t.player.writes = [] ∧ t.player.read = none ∧
  (t.arb.tone = 0 ∧ t.arb.voice = 0 ∧ t.arb.fetcher = 0 ∧ t.arb.player = 0 ∧ t.arb.snapshot = 0) ∧
  (∀ p, t.scan.down.get p = .up) ∧ t.scan.events = [] ∧ t.scan.silence = 0 ∧
  (t.bellows.magnitude = 0 ∧ t.bellows.motion = .rest ∧ t.bellows.dir = .push ∧ t.bellows.hold = 0 ∧
    t.bellows.reversals = 0 ∧ t.bellows.notified = 0 ∧ t.bellows.revNotice = none ∧ t.bellows.levelNotice = none) ∧
  t.map.cache = [] ∧ t.map.engReq = none ∧ t.map.fetch = none ∧
  (∀ k, (t.map.sects.get k).budget = 0 ∧ (t.map.sects.get k).policy = .keep ∧ (t.map.sects.get k).latch = 0 ∧
    (∀ j, (t.map.sects.get k).curve.get j = 0) ∧ (t.map.sects.get k).mark = .clear) ∧
  (∀ i, (t.eng.mirror.get i).state = .free ∧ (t.eng.mirror.get i).sect = 0 ∧ (t.eng.mirror.get i).layer = 0 ∧
    (t.eng.mirror.get i).trim = 0 ∧ (t.eng.mirror.get i).stolen = false ∧ (t.eng.mirror.get i).level = 0 ∧
    (t.eng.mirror.get i).gen = 0 ∧ (t.eng.mirror.get i).owner = none ∧ (t.eng.mirror.get i).countdown = none) ∧
  t.eng.free = List.finRange 64 ∧ t.eng.order = [] ∧ (∀ k, t.eng.counts.get k = 0) ∧ t.eng.held = [] ∧
  t.eng.appliedDir = .push ∧ t.eng.appliedMag = 0 ∧ t.eng.pendingFrames = 0 ∧
  t.eng.hushPending = .clear ∧ t.eng.releaseAll = false ∧
  (t.eng.revWalk = none ∧ t.eng.sustainWalk = false ∧ t.eng.restrikeWalk = false ∧ t.eng.sweep = none) ∧
  t.eng.item = none ∧ t.eng.awaitDiscard = false ∧
  t.voice.queue = [] ∧ t.voice.groups = [] ∧ t.voice.nextTag = 1 ∧
  t.tone.slot = .vacant ∧ t.tone.service = none ∧ t.tone.frame = 0 ∧
  t.ctrl.command = none ∧ t.ctrl.argRead = .none ∧ t.ctrl.settleFrames = 0 ∧ t.ctrl.settleTimer = none ∧
  t.ctrl.settleCut = false ∧ t.ctrl.bank = .bankA ∧ t.ctrl.swap = none ∧ t.ctrl.sustainFlag = false ∧
  t.ctrl.sustain = false ∧ t.ctrl.hushEffective = false ∧
  t.stat.flags = 0 ∧ t.stat.faultLog = none ∧ t.stat.moreFaults = false ∧ t.stat.faultCount = 0 ∧
  t.stat.counters = Counters.zero ∧ t.stat.lastOpcode = 0 ∧ t.stat.result = .nothing ∧ t.stat.cmdCount = 0 ∧
  t.stat.stale = true ∧ t.stat.freshPass = false ∧ t.stat.snapshot = none ∧ irq t = false

/-! ### What is left behind -/

/-- One fault has been logged (R181). -/
def FaultLogged (kind : FaultKind) (port : PortId) (addr : Addr) (s t : State) : Prop :=
  t.stat.faultCount = (if s.stat.faultCount < 65535 then s.stat.faultCount + 1 else s.stat.faultCount) ∧
  t.stat.faultLog = some (s.stat.faultLog.getD { kind := kind, port := port, addr := addr }) ∧
  t.stat.moreFaults = s.stat.faultLog.isSome ∧ t.stat.flags = s.stat.flags ||| 1

/-- Nothing has been logged, counted or raised. -/
def StatusKept (s t : State) : Prop :=
  t.stat.faultCount = s.stat.faultCount ∧ t.stat.faultLog = s.stat.faultLog ∧
  t.stat.moreFaults = s.stat.moreFaults ∧ t.stat.flags = s.stat.flags ∧ t.stat.counters = s.stat.counters

/-- Everything but the status unit and the answers of the ports is as it was. -/
def OnlyAnswered (s t : State) : Prop :=
  t.pins = s.pins ∧ t.timebase = s.timebase ∧ t.player = s.player ∧ t.arb = s.arb ∧ t.scan = s.scan ∧
  t.bellows = s.bellows ∧ t.map = s.map ∧ t.eng = s.eng ∧ t.voice = s.voice ∧ t.tone = s.tone ∧ t.ctrl = s.ctrl ∧
  t.pending = s.pending

/-- A request on the P-port has been refused whole with one fault; nothing else has changed (R21, R25). -/
def RefusedOnP (kind : FaultKind) (addr : Addr) (s t : State) : Prop :=
  t.ports = { s.ports with pAnswer := some .refuse } ∧ FaultLogged kind .portP addr s t ∧ OnlyAnswered s t ∧
  t.stat.counters = s.stat.counters ∧ t.stat.result = s.stat.result ∧ t.stat.cmdCount = s.stat.cmdCount

/-- A request on the T-port has been refused whole with one fault; nothing else has changed (R21, R25). -/
def RefusedOnT (kind : FaultKind) (addr : Addr) (s t : State) : Prop :=
  t.ports = { s.ports with tAnswer := some .refuse } ∧ FaultLogged kind .portT addr s t ∧ OnlyAnswered s t ∧
  t.stat.counters = s.stat.counters ∧ t.stat.result = s.stat.result ∧ t.stat.cmdCount = s.stat.cmdCount

/-- The P-port can take a request that is judged (R22). -/
def POpen (s : State) : Prop := s.ctrl.op.working = true ∧ s.player.read = none

/-- The T-port can take a request that is judged (R22). -/
def TOpen (s : State) : Prop := s.ctrl.op.working = true ∧ s.tone.service = none

/-- A P write passes the form and the refusals, and there is room for it and for its events (R22 steps 2 to 6). -/
def PAccepts (s : State) (w : WriteReq) : Prop :=
  POpen s ∧ badForm w = false ∧ firstRefused (refusesPWrite s.ctrl) (namedAddrs w.toReadReq) = none ∧
  s.player.writes.length < 8 ∧ scanDefers s (namedWords w) = false

/-- The write writes fewer than all four bytes of word 0 of the command slot, or none (R165). -/
def TakesNoCommand (s : State) (w : WriteReq) : Prop :=
  ∀ x ∈ namedWords w, x.addr = BitVec.ofNat 24 (controlBase s.ctrl.dsel + 0x80) → x.mask ≠ 0xF

/-- The byte that the write carries for the button at `p`, where it writes it below USED_POSITIONS (R41, R43). -/
def buttonByte (s : State) (w : WriteReq) (p : Pos) : Option Byte :=
  if p.val < s.ctrl.copy.used.toNat then
    (namedWords w).findSome? fun x => (List.range 4).findSome? fun i =>
      if areaOf s.ctrl x.addr = .scan ∧ x.addr.toNat + i = s.ctrl.copy.scan.toNat + p.val ∧ x.mask.getLsbD i = true
      then some (byteAt x.data i) else none
  else none

/-- The area of a bank's map region. -/
def mapArea : Bank → Area
  | .bankA => .mapA
  | .bankB => .mapB

/-- The write names the entry of `p` in bank `b` (R78). -/
def namesEntry (s : State) (w : WriteReq) (b : Bank) (p : Pos) : Bool :=
  (namedWords w).any fun x => decide (areaOf s.ctrl x.addr = mapArea b ∧ entryPos s.ctrl.copy b x.addr = p)

/-- The write names a word of section record `k` (R86). -/
def namesSection (s : State) (w : WriteReq) (k : SectNo) : Bool :=
  (namedWords w).any fun x => decide (areaOf s.ctrl x.addr = .sections ∧
    s.ctrl.copy.sections.toNat + 16 * k.val ≤ x.addr.toNat ∧
    x.addr.toNat < s.ctrl.copy.sections.toNat + 16 * k.val + 16)

/-- The P write has been posted and answered ACCEPT (R21, R29). -/
def Posted (w : WriteReq) (s t : State) : Prop :=
  t.player = { s.player with writes := s.player.writes ++ [w] } ∧
  t.ports = { s.ports with pAnswer := some (.accept []) }

/-- The engine, the voice writer, the tone port and the arbiter are as they were. -/
def VoicingKept (s t : State) : Prop :=
  t.eng = s.eng ∧ t.voice = s.voice ∧ t.tone = s.tone ∧ t.arb = s.arb

/-- A P write into the command slot can be accepted (R22, R29). -/
def CommandAccepted (s : State) : Prop :=
  s.ctrl.op.working = true ∧ s.player.read = none ∧ s.player.writes.length < 8

/-- A command is accepted and not answered BUSY for a command in progress (R22, R167). -/
def CommandReady (s : State) : Prop := CommandAccepted s ∧ s.ctrl.command = none

/-- The opcode and the command write that a command of the player firmware stands for (12.3). -/
def commandOf : Instr → Option (Byte × CmdWrite)
  | .unknownOpcode opcode c => some (opcode, c)
  | .perform c => some (1, c)
  | .standbySettle high argHigh => some (2, { high := high, arg := some (argHigh ++ (1 : BitVec 2)) })
  | .standbyCut high argHigh => some (2, { high := high, arg := some (argHigh ++ (2 : BitVec 2)) })
  | .swap c => some (3, c)
  | .panic c => some (4, c)
  | .sustain c => some (5, c)
  | .guard c => some (6, c)
  | .guardLock c => some (7, c)
  | .ack c => some (8, c)
  | .reinit c => some (9, c)
  | .flush c => some (10, c)
  | _ => none

/-- The command write has been posted and answered, and the status record names the command with the result (R29,
R165, R166). -/
def CommandTaken (opcode : Byte) (c : CmdWrite) (r : CmdResult) (s t : State) : Prop :=
  t.player = { s.player with writes := s.player.writes ++ [commandRequest s.ctrl opcode c] } ∧
  t.ports = { s.ports with pAnswer := some (.accept []) } ∧
  t.stat.lastOpcode = opcode ∧ t.stat.result = r ∧ t.stat.cmdCount = s.stat.cmdCount + 1 ∧
  t.stat.stale = true

/-- The flags of the mask have been cleared, and with the FAULT bit the fault log emptied (R183). -/
def FlagsAcked (mask : Word) (s t : State) : Prop :=
  (∀ i : Fin 7, t.stat.flags.getLsbD i.val = (s.stat.flags.getLsbD i.val && !mask.getLsbD i.val)) ∧
  (mask.getLsbD 0 = true → t.stat.faultLog = none ∧ t.stat.moreFaults = false) ∧
  (mask.getLsbD 0 = false → t.stat.faultLog = s.stat.faultLog ∧ t.stat.moreFaults = s.stat.moreFaults) ∧
  t.stat.faultCount = s.stat.faultCount ∧ t.stat.counters = s.stat.counters

/-- The pins, the sense of time, the arbiter, the tone port and the voice writer are as they were. -/
def PortsKept (s t : State) : Prop :=
  t.pins = s.pins ∧ t.timebase = s.timebase ∧ t.arb = s.arb ∧ t.tone = s.tone ∧ t.voice = s.voice

/-- The map cache and the section cache are as they were; the fetcher may have chosen a fetch. -/
def CachesKept (s t : State) : Prop := t.map.cache = s.map.cache ∧ t.map.sects = s.map.sects

/-- The control unit is as it was; the fetcher may have chosen its argument read. -/
def ControlKept (s t : State) : Prop := t.ctrl = { s.ctrl with argRead := t.ctrl.argRead }

/-- The command has been taken and has changed nothing but the status fields of R166 (R167). -/
def TurnedAway (opcode : Byte) (c : CmdWrite) (r : CmdResult) (s t : State) : Prop :=
  CommandTaken opcode c r s t ∧ ControlKept s t ∧ PortsKept s t ∧ CachesKept s t ∧ StatusKept s t ∧
  t.eng = s.eng ∧ t.scan = s.scan ∧ t.bellows = s.bellows

/-- A hush has been announced (R159): to the scan monitor (R50), to the tracker, whose notices the engine takes as applied
values (R66), and to the engine, where a hush is pending and the current item, unless itself a hush, is ended (R95,
R97). -/
def Hushed (s t : State) : Prop :=
  t.scan.events = [] ∧ (∀ p, t.scan.down.get p = if s.scan.down.get p = .up then .up else .hushed) ∧
  t.scan.silence = s.scan.silence ∧ t.bellows = { s.bellows with revNotice := none, levelNotice := none } ∧
  t.eng = { s.eng with
    appliedDir := s.bellows.revNotice.getD s.eng.appliedDir
    appliedMag := s.bellows.levelNotice.getD s.eng.appliedMag
    hushPending := .source
    item := if itemIsHush s.eng then s.eng.item else none
    awaitDiscard := t.eng.awaitDiscard } ∧
  t.voice.queue = s.voice.queue ∧ t.voice.nextTag = s.voice.nextTag ∧ t.tone.frame = s.tone.frame ∧
  t.tone.service = s.tone.service ∧ t.pins = s.pins ∧ t.timebase = s.timebase ∧ t.arb = s.arb

/-- The command by which RAM answers an access of `o`: with an error, or with the words `w` where it is a read. -/
def Owner.answered (o : Owner) (isError : Bool) (w : Tbl 8 Word) : Instr :=
  let read : RamAnswer := if isError then .error else .done w
  let write : RamAck := if isError then .error else .done
  match o with
  | .tRead => .tReadCompletes read
  | .tWrite => .tWriteCompletes write
  | .fill => .heldReadFillLands read
  | .voice => .voiceWriteLands write
  | .fetch (.entry _ _) => .mapEntryFetchLands read
  | .fetch (.program _) => .programFetchLands read
  | .fetch (.reload _) => .sectionReloadLands read
  | .fetch .argument => .argumentReadLands read
  | .fetch (.descriptor _) => .descriptorReadLands read
  | .fetch (.sections _) => .sectionsPhaseReadLands read
  | .pWrite => .pWriteLands write
  | .pRead => .pReadCompletes read
  | .snapshot => .snapshotAccessLands write

/-- The M-port carries a live access of `o`. -/
def Carries (s : State) (o : Owner) (a : Access) : Prop :=
  s.arb.access = some a ∧ a.owner = o ∧ a.drop = .live

/-- The held read after groups have closed or turned LATE: a waiting one that no OPEN group touches any more begins to
fill, once its last fill has been answered; nothing else of the tone port changes (R124). -/
def FillsWhenFree (s t : State) : Prop :=
  t.tone = (match s.tone.slot with
    | .waiting r =>
      if s.tone.fill = .none ∧ touchesOpen t r = false then
        { s.tone with slot := .filling r, fill := .live, turns := s.tone.turns ++ [.fill] }
      else s.tone
    | .vacant => s.tone
    | .filling _ => s.tone
    | .ready _ _ _ => s.tone)

/-- The engine is idle and would take the item (R95). -/
def Takes (s : State) (x : Sel) : Prop := nextItem s = some x

/-- The place of an item in the table of R95: the next event is a press or a release, and the level notice goes before a
sweep step. -/
def Sel.rank : Sel → Nat
  | .hush => 1
  | .releaseAll => 2
  | .takeReversal => 3
  | .reversalStep => 4
  | .expiry => 5
  | .press => 6
  | .release => 6
  | .sustainStep => 7
  | .restrikeStep => 8
  | .takeLevel => 9
  | .sweepStep => 10

/-- When an item is available (R95). -/
def Available (s : State) : Sel → Prop
  | .hush => s.eng.hushPending ≠ .clear
  | .releaseAll => s.eng.releaseAll = true
  | .takeReversal => s.bellows.revNotice ≠ none
  | .reversalStep => s.eng.revWalk ≠ none
  | .expiry => 0 < s.eng.pendingFrames
  | .press => ∃ p evs, s.scan.events = { isPress := true, pos := p } :: evs
  | .release => ∃ p evs, s.scan.events = { isPress := false, pos := p } :: evs
  | .sustainStep => s.eng.sustainWalk = true
  | .restrikeStep => s.eng.restrikeWalk = true
  | .takeLevel => s.bellows.levelNotice ≠ none
  | .sweepStep => s.eng.sweep ≠ none

/-- The command that takes the item. -/
def Sel.command : Sel → Instr
  | .hush => .hushItem
  | .releaseAll => .releaseAll
  | .takeReversal => .takeReversalNotice
  | .reversalStep => .reversalWalkStep
  | .expiry => .frameExpiry
  | .press => .press
  | .release => .release
  | .sustainStep => .sustainOffWalkStep
  | .restrikeStep => .restrikeWalkStep
  | .takeLevel => .takeLevelNotice
  | .sweepStep => .levelSweepStep

/-- Where the next access of a fetch reads, and how many words: those before it have read `first` (R73). -/
def Reads (s : State) (k : FetchKind) (first : Option (Tbl 8 Word)) (start : Addr) (words : Nat) : Prop :=
  ∀ o, ∃ r, fetchAccess s.ctrl { kind := k, overtaken := o, first := first } = r ∧
    r.start = start ∧ r.more.val + 1 = words ∧ r.order = .linear

/-- The fetcher has chosen the fetch, where nothing else was requested and no P write waits (R82, R83). -/
def Chosen (s t : State) (k : FetchKind) : Prop :=
  requested s = [] → s.player.writes = [] → t.map.fetch = some { kind := k, overtaken := false, first := none }

/-- How an item waits for the entry of `p`: for its fetch, or first for an answer awaited for discard (R74, R97). -/
def entryWait (s : State) (p : Pos) : Wait := if s.eng.awaitDiscard then .turnEntry p else .entry s.ctrl.bank p

/-- How an item waits for the program of the record of `p`: for its fetch, or first for an answer awaited for discard
(R74, R97). -/
def programWait (s : State) (p : Pos) : Wait := if s.eng.awaitDiscard then .turnProgram p else .program p

/-- The items that voice the record of `p`: a press, a REPITCH and a restrike step (R102, R138, R141). -/
def Voices (k : ItemKind) (p : Pos) : Prop := k = .press p ∨ k = .reversalStep p ∨ k = .restrikeStep p

/-- The reversal walk's place when the record of `p` leaves the table, and when its step there ends: the record that
followed it, or the end (R132, R136). -/
def placeLeaving (p : Pos) (e : Engine) : Option Pos :=
  if e.revWalk = some p then nextAfter p (e.held.map (·.pos)) else e.revWalk

/-- The reversal walk's place after an item has ended: its own step moves it to the record that follows (R136). -/
def placeAfter (k : ItemKind) (e : Engine) : Option Pos :=
  match k with
  | .reversalStep p => placeLeaving p e
  | _ => e.revWalk

/-- The level sweep's place when slot `i` leaves its place in the sounding order: the slot that followed it, or the end
(R132). -/
def sweepLeaving (i : Slot) (e : Engine) : Option Slot := if e.sweep = some i then nextAfter i e.order else e.sweep

/-- The level sweep's place when the slots of `gone` have left the sounding order one after another: the first slot
after it that stays, or the end (R132). -/
def sweepPassing (gone : List Slot) (e : Engine) : Option Slot :=
  match e.sweep with
  | none => none
  | some i =>
    if gone.contains i then (e.order.dropWhile fun j => decide (j ≠ i)).find? fun j => !gone.contains j else some i

/-- No group is being filled and `n` more writes of one more group can be pushed without waiting (R119). -/
def RoomFor (s : State) (n : Nat) : Prop :=
  s.voice.queue.length + n ≤ 32 ∧ s.voice.groups.length < 4 ∧ ∀ g ∈ s.voice.groups, g.filling = false

/-- The slots are sounding-order slots, each named once. -/
def Ordered (s : State) (l : List Slot) : Prop := l.Nodup ∧ ∀ i ∈ l, i ∈ s.eng.order

/-- The write that releases slot `i` of the record of `p`: FREE when the release latch of its section is 0, RELEASING
otherwise (R99, R107). -/
def releaseWrite (s : State) (p : Pos) (tag : Nat) (i : Slot) : VoiceWrite :=
  let r := s.eng.mirror.get i
  { slot := i
    tag := some tag
    body := .state (if (s.map.sects.get r.sect).latch = 0 then voiceWord0 .free false 0 0 r.gen 0
      else voiceWord0 .releasing r.stolen r.sect r.layer r.gen p.val) }

/-- The mirror record of slot `i` after its release (R99, R107). -/
def releasedRec (s : State) (i : Slot) : SlotRec :=
  let r := s.eng.mirror.get i
  let latch := (s.map.sects.get r.sect).latch
  if latch = 0 then { r with state := .free, owner := none, countdown := none }
  else { r with state := .releasing, owner := none, countdown := some latch }

/-- The slots have been released in list order, in one group of their own, which is `filling` still or no longer: the
writes, the mirror, the lists, and the place of a level sweep, which passes over those freed (R107, R117, R132). -/
def ReleasedAs (filling : Bool) (s t : State) (p : Pos) (l : List Slot) : Prop :=
  t.voice.queue = s.voice.queue ++ l.map (releaseWrite s p s.voice.nextTag) ∧
  (∀ i, t.eng.mirror.get i = if i ∈ l then releasedRec s i else s.eng.mirror.get i) ∧
  t.eng.order = s.eng.order.filter (fun i => !(l.contains i &&
    decide ((s.map.sects.get (s.eng.mirror.get i).sect).latch = 0))) ∧
  t.eng.free = s.eng.free ++ l.filter (fun i => decide ((s.map.sects.get (s.eng.mirror.get i).sect).latch = 0)) ∧
  (s.eng.order.Nodup → t.eng.sweep = sweepPassing
    (l.filter fun i => decide ((s.map.sects.get (s.eng.mirror.get i).sect).latch = 0)) s.eng) ∧
  (l ≠ [] → ∃ g ∈ t.voice.groups, g.tag = s.voice.nextTag ∧ g.slots = l ∧ g.notLanded = l.length ∧
    g.filling = filling ∧ g.late = false ∧ g.openedAt = s.timebase)

/-- The slots have been released, and their group is no longer filling. -/
def Released (s t : State) (p : Pos) (l : List Slot) : Prop := ReleasedAs false s t p l

/-- The slots have been released, and the item goes on with their group. -/
def Releasing (s t : State) (p : Pos) (l : List Slot) : Prop := ReleasedAs true s t p l

/-- The records without the slots of `l` in their voice lists (R92). -/
def withoutSlots (l : List Slot) (held : List HeldRec) : List HeldRec :=
  held.map fun r => { r with voices := r.voices.filter fun i => !l.contains i }

/-- What an entry word hands over (R70): the snapshot of a valid entry, and no program from an invalid or a bad one. -/
def Judged (w : Word) (e : EntrySnap) : Prop :=
  judgeEntry w = .valid e ∨ ((judgeEntry w = .invalid ∨ judgeEntry w = .bad) ∧ e = EntrySnap.none)

/-- A bad entry of the active bank has been logged; any other leaves nothing logged (R70). -/
def EntryLogged (p : Pos) (w : Word) (s t : State) : Prop :=
  (judgeEntry w = .bad →
    FaultLogged .badEntry .bridge (s.ctrl.copy.mapBase s.ctrl.bank + BitVec.ofNat 24 (4 * p.val)) s t ∧
    t.stat.counters = s.stat.counters) ∧
  (judgeEntry w ≠ .bad → StatusKept s t)

/-- The record that a press creates from an entry of the active bank (R101). -/
def newRecord (s : State) (p : Pos) (e : EntrySnap) : HeldRec :=
  { pos := p, bank := s.ctrl.bank, snap := e, dir := s.eng.appliedDir, voices := [], sustained := false }

/-- A press of `p` has made its record from the entry of bank `b`, and the item waits as `w` for the program of the
applied direction; without one, and outside PERFORMING, it has ended (R101, R102). -/
def PressEntered (s t : State) (w : Wait) (b : Bank) (p : Pos) (e : EntrySnap) : Prop :=
  t.eng.held = s.eng.held ++ [
    { pos := p, bank := b, snap := e, dir := s.eng.appliedDir, voices := [], sustained := false }] ∧
  (e.program s.eng.appliedDir = none ∨ s.ctrl.op ≠ .performing → t.eng.item = none) ∧
  (e.program s.eng.appliedDir ≠ none → s.ctrl.op = .performing →
    t.eng.item = some { kind := .press p, wait := w, jobs := [] }) ∧
  t.eng.mirror = s.eng.mirror ∧ t.eng.order = s.eng.order ∧ t.eng.free = s.eng.free ∧ t.voice.queue = s.voice.queue

/-- A restrike step has replaced snapshot and bank of the record `r` of `p` and released its voices in one group; it goes
on with that group and waits as `w` for the program of the record's direction; without one, and outside PERFORMING, it
has ended (R141). -/
def RestrikeEntered (s t : State) (w : Wait) (b : Bank) (p : Pos) (r : HeldRec) (e : EntrySnap) : Prop :=
  t.eng.held = withoutSlots r.voices (s.eng.held.map fun x =>
    if x.pos = p then { x with snap := e, bank := b } else x) ∧
  t.eng.restrikeWalk = s.eng.restrikeWalk ∧
  (e.program r.dir = none ∨ s.ctrl.op ≠ .performing → Released s t p r.voices ∧ t.eng.item = none) ∧
  (e.program r.dir ≠ none → s.ctrl.op = .performing →
    Releasing s t p r.voices ∧ t.eng.item = some { kind := .restrikeStep p, wait := w, jobs := [] })

/-- What the landing of an entry fetch logs (R40, R70, R84), and what it leaves alone. -/
def EntryLanded (s t : State) (x : RamAnswer) (a : Access) (b : Bank) (p : Pos) : Prop :=
  (x = .error → FaultLogged .memoryError .bridge a.req.start s t) ∧
  (∀ w, x = .done w → judgeEntry (w.get 0) = .bad →
    FaultLogged .badEntry .bridge (s.ctrl.copy.mapBase b + BitVec.ofNat 24 (4 * p.val)) s t) ∧
  (∀ w, x = .done w → judgeEntry (w.get 0) ≠ .bad → StatusKept s t) ∧
  t.map.sects = s.map.sects ∧ t.scan = s.scan ∧ t.bellows = s.bellows ∧ t.player = s.player ∧ t.ports = s.ports

/-- A fetch that the engine awaits for discard has landed, and `cache` is the map cache after it: the answer is neither
voiced nor kept, the engine no longer awaits it, and an item that waited for that makes its own request now (R97). By
assumption 23 one that waits for an entry looks it up again then, in the bank that is active, and is served from the
cache or fetches it. -/
def Discarded (s t : State) (cache : List CacheEntry) : Prop :=
  (s.eng.item = none ∨ (∃ it pu, s.eng.item = some it ∧ it.wait = .push pu) →
    t.eng = { s.eng with awaitDiscard := false } ∧ t.voice = s.voice ∧ t.map.cache = cache) ∧
  (∀ k q js, s.eng.item = some { kind := k, wait := .turnEntry q, jobs := js } →
    (lookupEntry s.ctrl.bank q cache = none →
      t.eng = { s.eng with
        awaitDiscard := false, item := some { kind := k, wait := .entry s.ctrl.bank q, jobs := [] } } ∧
      t.voice = s.voice ∧ t.map.cache = cache ∧ Chosen s t (.entry s.ctrl.bank q)) ∧
    (∀ c e, lookupEntry s.ctrl.bank q cache = some c → Judged c.word e →
      t.map.cache = c :: cache.filter (fun x => !decide (x.bank = c.bank ∧ x.pos = c.pos)) ∧
      t.eng.awaitDiscard = false ∧
      (k = .press q → findRec s.eng q = none → s.eng.held.length < 32 →
        PressEntered s t (.program q) s.ctrl.bank q e ∧
        ∀ n, e.program s.eng.appliedDir = some n → s.ctrl.op = .performing → Chosen s t (.program n)) ∧
      (∀ r, k = .restrikeStep q → findRec s.eng q = some r → Ordered s r.voices → RoomFor s r.voices.length →
        RestrikeEntered s t (.program q) s.ctrl.bank q r e ∧
        ∀ n, e.program r.dir = some n → s.ctrl.op = .performing → Chosen s t (.program n)))) ∧
  (∀ k q js r, s.eng.item = some { kind := k, wait := .turnProgram q, jobs := js } → Voices k q →
    findRec s.eng q = some r →
    (r.snap.program r.dir = none ∨ s.ctrl.op ≠ .performing →
      t.eng.item = none ∧ t.eng.awaitDiscard = false ∧ t.voice.queue = s.voice.queue) ∧
    (∀ n, r.snap.program r.dir = some n → s.ctrl.op = .performing →
      t.eng = { s.eng with awaitDiscard := false, item := some { kind := k, wait := .program q, jobs := [] } } ∧
      t.voice = s.voice ∧ t.map.cache = cache ∧ Chosen s t (.program n)))

/-- The pitch of the layer under the record's transpose lies in 0..127 (R102). -/
def inRange (r : HeldRec) (x : Fin 8 × Layer) : Bool :=
  decide (0 ≤ (x.2.note : Int) + r.snap.transpose ∧ (x.2.note : Int) + r.snap.transpose ≤ 127)

/-- The layers can all start: every section stays within its budget, and there are free slots, room in the voice write
queue and a group for them (R103 case 1, R119). -/
def LayersFit (s : State) (ls : List (Fin 8 × Layer)) : Prop :=
  (∀ k, s.eng.counts.get k + (ls.filter fun x => decide (x.2.sect = k)).length ≤ (s.map.sects.get k).budget) ∧
  ls.length ≤ s.eng.free.length ∧ s.voice.queue.length + ls.length ≤ 32 ∧
  (s.voice.groups.length < 4 ∨ (fillingGroup s.voice).isSome = true)

/-- The layers have started in their order, each in the next slot of the free list, with writes of one group (R98, R102,
R103). -/
def LayersStarted (s t : State) (p : Pos) (r : HeldRec) (ls : List (Fin 8 × Layer)) : Prop :=
  let slots := s.eng.free.take ls.length
  let level := fun (l : Layer) => levelOf s.eng.appliedMag (s.map.sects.get l.sect).curve l.trim
  t.eng.free = s.eng.free.drop ls.length ∧ t.eng.order = s.eng.order ++ slots ∧ t.eng.sweep = s.eng.sweep ∧
  (∀ k, t.eng.counts.get k = s.eng.counts.get k + (ls.filter fun x => decide (x.2.sect = k)).length) ∧
  t.eng.held = (withoutSlots slots s.eng.held).map (fun x =>
    if x.pos = p then { x with voices := x.voices ++ slots } else x) ∧
  (∀ i, i ∉ slots → t.eng.mirror.get i = s.eng.mirror.get i) ∧
  (∀ x ∈ ls.zip slots, t.eng.mirror.get x.2 = {
    state := .sounding, sect := x.1.2.sect, owner := some p, layer := x.1.1, trim := x.1.2.trim, stolen := false
    level := level x.1.2, countdown := none, gen := (s.eng.mirror.get x.2).gen + 1 }) ∧
  t.voice.queue = s.voice.queue ++ (ls.zip slots).map fun x =>
    { slot := x.2
      tag := some (pushTag s.voice)
      body := .full (voiceWord0 .sounding false x.1.2.sect x.1.1 ((s.eng.mirror.get x.2).gen + 1) p.val)
        (voiceWord1 x.1.2.patch ((x.1.2.note : Int) + r.snap.transpose).toNat x.1.2.pan)
        (voiceWord2 (level x.1.2)) (voiceWord3 s.tone.frame r.dir) }

/-- A counter after `n` events: it stops at 65535 (R178). -/
def raisedBy (n c : Nat) : Nat := max c (min 65535 (c + n))

/-- Layers have been dropped for the reasons given: their counters and the flag DROP (R105). -/
def Dropped (budget exhausted range : Nat) (s t : State) : Prop :=
  t.stat.counters.dropBudget = raisedBy budget s.stat.counters.dropBudget ∧
  t.stat.counters.dropExhausted = raisedBy exhausted s.stat.counters.dropExhausted ∧
  t.stat.counters.dropRange = raisedBy range s.stat.counters.dropRange ∧
  t.stat.counters.dropHeldFull = s.stat.counters.dropHeldFull ∧ t.stat.counters.steals = s.stat.counters.steals ∧
  t.stat.flags = (if budget + exhausted + range = 0 then s.stat.flags else s.stat.flags ||| 16) ∧
  t.stat.faultCount = s.stat.faultCount ∧ t.stat.faultLog = s.stat.faultLog

/-- A grouped push of a FULL write for slot `i` is counted into the group of its item, which the first one opens
(R117). -/
def GroupJoined (i : Slot) (s u : State) : Prop :=
  (fillingGroup s.voice = none →
    u.voice.groups = s.voice.groups ++ [{
      tag := s.voice.nextTag, slots := [i], started := [i], notLanded := 1, filling := true, openedAt := s.timebase
      late := false }] ∧
    u.voice.nextTag = (if s.voice.nextTag < 15 then s.voice.nextTag + 1 else 1)) ∧
  (fillingGroup s.voice ≠ none →
    u.voice.groups = (s.voice.groups.map fun g => if g.filling then { g with
      slots := if i ∈ g.slots then g.slots else g.slots ++ [i]
      started := if i ∈ g.started then g.started else g.started ++ [i]
      notLanded := g.notLanded + 1 } else g) ∧
    u.voice.nextTag = s.voice.nextTag)

/-- A layer of the record `r` of `p` has started a voice in slot `i`, from the free list or by a steal: mirror, lists,
counts, the sweep's place, the write, its group, and the steals counter (R90, R91, R92, R98, R104, R117, R132). -/
def VoiceStarted (s u : State) (p : Pos) (r : HeldRec) (x : Fin 8 × Layer) (i : Slot) (steal : Bool) : Prop :=
  let old := s.eng.mirror.get i
  let lvl := levelOf s.eng.appliedMag (s.map.sects.get x.2.sect).curve x.2.trim
  u.eng = { s.eng with
    mirror := s.eng.mirror.set i {
      state := .sounding, sect := x.2.sect, owner := some p, layer := x.1, trim := x.2.trim, stolen := steal
      level := lvl, countdown := none, gen := old.gen + 1 }
    free := if steal then s.eng.free else s.eng.free.filter fun j => decide (j ≠ i)
    order := (if steal then s.eng.order.filter fun j => decide (j ≠ i) else s.eng.order) ++ [i]
    sweep := if steal then sweepLeaving i s.eng else s.eng.sweep
    counts := u.eng.counts
    held := (withoutSlots [i] s.eng.held).map fun y =>
      if y.pos = p then { y with voices := y.voices ++ [i] } else y } ∧
  (∀ k, u.eng.counts.get k = s.eng.counts.get k - (if steal ∧ k = old.sect then 1 else 0) +
    (if k = x.2.sect then 1 else 0)) ∧
  u.voice.queue = s.voice.queue ++ [{
    slot := i
    tag := some (pushTag s.voice)
    body := .full (voiceWord0 .sounding steal x.2.sect x.1 (old.gen + 1) p.val)
      (voiceWord1 x.2.patch ((x.2.note : Int) + r.snap.transpose).toNat x.2.pan) (voiceWord2 lvl)
      (voiceWord3 s.tone.frame r.dir) }] ∧
  GroupJoined i s u ∧
  u.stat.counters = { s.stat.counters with
    steals := if steal ∧ s.stat.counters.steals < 65535 then s.stat.counters.steals + 1 else s.stat.counters.steals } ∧
  u.stat.flags = s.stat.flags ∧ u.stat.faultCount = s.stat.faultCount ∧ u.stat.faultLog = s.stat.faultLog

/-- A grouped write need not wait (R119). -/
def GroupRoom (s : State) : Prop :=
  s.voice.queue.length < 32 ∧ (s.voice.groups.length < 4 ∨ (fillingGroup s.voice).isSome = true)

/-- One layer has been taken (R102, R103): dropped for its pitch, dropped for the reason that the allocation gives, or
started in the slot that it gives, with room to push. -/
def LayerTaken (p : Pos) (r : HeldRec) (x : Fin 8 × Layer) (s u : State) : Prop :=
  u.map.sects = s.map.sects ∧ u.tone.frame = s.tone.frame ∧ u.timebase = s.timebase ∧
  (inRange r x = false → u.eng = s.eng ∧ u.voice = s.voice ∧ Dropped 0 0 1 s u) ∧
  (inRange r x = true →
    (allocate s x.2.sect = .drop .budget → u.eng = s.eng ∧ u.voice = s.voice ∧ Dropped 1 0 0 s u) ∧
    (allocate s x.2.sect = .drop .exhausted → u.eng = s.eng ∧ u.voice = s.voice ∧ Dropped 0 1 0 s u) ∧
    ∀ i steal, allocate s x.2.sect = .take i steal → GroupRoom s ∧ VoiceStarted s u p r x i steal)

/-- The layers have been taken in their order, each in the state that those before it have left (R102). -/
def LayersTaken (p : Pos) (r : HeldRec) : List (Fin 8 × Layer) → State → State → Prop
  | [], s, u => u = s
  | x :: xs, s, u => ∃ v, LayerTaken p r x s v ∧ LayersTaken p r xs v u

/-- The layers among `ls` that the allocation drops for the reason. -/
def droppedFor (s : State) (r : HeldRec) (ls : List (Fin 8 × Layer)) (reason : DropReason) : Nat :=
  (ls.filter fun x => inRange r x && decide (allocate s x.2.sect = .drop reason)).length

/-- What the command, a program that lands, does with the layers `ls` for the record `r` of `p`, which the item of kind
`k` voices (R102, R103, R105). In PERFORMING the layers in range start, each from the free list, when they fit, and the
others are dropped; in general the layers are taken one after another, by steals and drops among them, until all are
taken and the item ends, or one that would start finds no room and the item waits to push it (R119). In every state
layers that are all dropped end the item with no write. Outside PERFORMING the item ends at the first layer that would
start, after the drops before it. -/
def LayersPlayed (i : Instr) (s : State) (k : ItemKind) (p : Pos) (r : HeldRec) (ls : List (Fin 8 × Layer)) : Prop :=
  (SlotLaw s → s.ctrl.op = .performing → LayersFit s (ls.filter (inRange r)) →
    ∃ t, exec i s = .next t ∧ t.eng.item = none ∧ t.eng.revWalk = placeAfter k s.eng ∧
      LayersStarted s t p r (ls.filter (inRange r)) ∧ Dropped 0 0 (ls.filter fun x => !inRange r x).length s t) ∧
  (s.ctrl.op = .performing →
    ∃ t u taken left, exec i s = .next t ∧ ls = taken ++ left ∧ LayersTaken p r taken s u ∧
      t.voice.queue = u.voice.queue ∧ t.stat.counters = u.stat.counters ∧ t.stat.flags = u.stat.flags ∧
      t.stat.faultCount = s.stat.faultCount ∧ t.stat.faultLog = s.stat.faultLog ∧ t.map.sects = s.map.sects ∧
      ((left = [] ∧ t.eng = { u.eng with item := none, revWalk := placeAfter k s.eng } ∧
          t.voice.nextTag = u.voice.nextTag ∧ ∀ g ∈ t.voice.groups, g.filling = false) ∨
        ∃ x after slot steal, left = x :: after ∧ inRange r x = true ∧ allocate u x.2.sect = .take slot steal ∧
          ¬GroupRoom u ∧ t.voice = u.voice ∧ t.eng = { u.eng with item := some {
            kind := k, wait := .push (.full p slot steal x.2 x.1 r.dir)
            jobs := after.map fun y => .layer p y.1 y.2 } })) ∧
  ((∀ x ∈ ls, inRange r x = false ∨ allocate s x.2.sect = .drop .budget ∨ allocate s x.2.sect = .drop .exhausted) →
    ∃ t, exec i s = .next t ∧ t.eng = { s.eng with item := none, revWalk := placeAfter k s.eng } ∧
      t.voice.queue = s.voice.queue ∧
      Dropped (droppedFor s r ls .budget) (droppedFor s r ls .exhausted) (ls.filter fun x => !inRange r x).length s t) ∧
  (∀ out x rest slot steal, s.ctrl.op ≠ .performing → ls = out ++ x :: rest →
    (∀ y ∈ out, inRange r y = false ∨ allocate s y.2.sect = .drop .budget ∨ allocate s y.2.sect = .drop .exhausted) →
    inRange r x = true → allocate s x.2.sect = .take slot steal →
    ∃ t, exec i s = .next t ∧ t.eng = { s.eng with item := none, revWalk := placeAfter k s.eng } ∧
      t.voice.queue = s.voice.queue ∧
      Dropped (droppedFor s r out .budget) (droppedFor s r out .exhausted) (out.filter fun x => !inRange r x).length s t)

/-- What an engine item leaves alone: the pins, the port answers, the player port queue, the arbiter, the tracker and the
frame counter. -/
def OutsideKept (s t : State) : Prop :=
  t.pins = s.pins ∧ t.ports = s.ports ∧ t.player = s.player ∧ t.arb = s.arb ∧ t.timebase = s.timebase ∧
  t.tone.frame = s.tone.frame ∧ t.tone.service = s.tone.service

/-- The current item is about to push `pu`, with `js` left to do after it. -/
def Pushing (s : State) (k : ItemKind) (pu : Push) (js : List Job) : Prop :=
  s.eng.item = some { kind := k, wait := .push pu, jobs := js }

/-- The write is the next of the voice write queue; others of its item may follow it. -/
def PushedFirst (s t : State) (v : VoiceWrite) : Prop := (s.voice.queue ++ [v]) <+: t.voice.queue

/-- The write is the last of its item, whose group counts its slot and is no longer filling (R117). -/
def PushedLast (s t : State) (v : VoiceWrite) : Prop :=
  t.voice.queue = s.voice.queue ++ [v] ∧ t.eng.item = none ∧
  (∀ n, v.tag = some n → ∃ g ∈ t.voice.groups, g.tag = n ∧ v.slot ∈ g.slots ∧ g.filling = false)

end Sys2Proof.Machine
end

