-- ==== Sys2Proof/WellFormed.lean ====
section
/-! DEFINITION. The checks a command must pass to be one the outside world can send. The types already bound
lengths (1..8 words), addresses, masks and straps; what is left is below. -/

namespace Sys2Proof

/-- A write carries one data word for each of its words (R19): nothing stands beyond its length. -/
def WriteReq.wf (w : WriteReq) : Bool :=
  (w.data.cells.drop (w.more.val + 1)).all (· == 0)

/-- UNKNOWN_OPCODE's opcode names none of the ten commands (12.3): they are 1..10. -/
def namesNoCommand (opcode : Byte) : Bool :=
  opcode.toNat == 0 || 10 < opcode.toNat

/-- A command the outside world can send. -/
def Instr.wf : Instr → Bool
  | .pWrite w => w.wf
  | .tWrite w => w.wf
  | .unknownOpcode opcode _ => namesNoCommand opcode
  | .powerOnDetect | .resetLow | .heldRelease _ _ _ _ | .drainPhaseEnd | .descriptorReadLands _
  | .sectionsPhaseReadLands _ | .voiceTablePhaseEnd | .initEnd | .hushPinChange _ | .sustPinChange _
  | .perform _ | .standbySettle _ _ | .standbyCut _ _ | .swap _ | .panic _ | .sustain _ | .guard _
  | .guardLock _ | .ack _ | .reinit _ | .flush _ | .pRead _ | .tRead _ | .mportGrant | .pWriteLands _
  | .pReadCompletes _ | .tReadCompletes _ | .tWriteCompletes _ | .scanSilenceTrip _ | .reversalHoldEnd _
  | .settleCut _ | .settleTimerEnd | .groupLate | .heldReadDiscard | .voiceWriteLands _
  | .heldReadFillLands _ | .mapEntryFetchLands _ | .programFetchLands _ | .sectionReloadLands _
  | .argumentReadLands _ | .snapshotAccessLands _ | .pushWaitEnd | .hushItem | .releaseAll
  | .takeReversalNotice | .reversalWalkStep | .frameExpiry | .press | .release | .sustainOffWalkStep
  | .restrikeWalkStep | .takeLevelNotice | .levelSweepStep => true

end Sys2Proof
end

