-- ==== Sys2Proof/Certificates/Slice0/Obligations.lean ====
section
/-! DEFINITION. The statements for the provers. -/

open Sys2Proof Sys2Proof.Machine

/-! ### The machine as a whole -/

/-- A step takes the command at the front of the queue and runs it on the rest; on an empty queue the bridge idles
(model's choice, assumption 19). -/
def Obligations.StepRunsTheFrontCommand : Prop :=
  (∀ (c : Instr) (rest : List Instr) (s : State),
    step { s with pending := c :: rest } = exec c { s with pending := rest }) ∧
  ∀ s : State, s.pending = [] → step s = .next s

/-- Every command is answered by a next state, with the rest of the queue and the sense of time kept. The model's own
conventions: the queue, and the timebase as a count that events carry forward (assumptions 2, 7 and 20). -/
def Obligations.EveryCommandRunsAndKeepsTheQueue : Prop :=
  ∀ (c : Instr) (s : State), ∃ t, exec c s = .next t ∧ t.pending = s.pending ∧ s.timebase ≤ t.timebase

/-- The machine starts in HELD, at the values of reset, with the guard at its power-on values (R163), and the laws
that every step keeps hold there. The model's own conventions: that State.reset stands in HELD with the detector
active, and its empty queue (assumptions 8 and 19). -/
def Obligations.ResetHoldsTheSpecsValues : Prop :=
  ResetValues State.reset ∧ State.reset.ctrl.guard = { first := 0, last := 255, mode := .off, lock := false } ∧
  State.reset.pins.detectorActive = true ∧ State.reset.pending = [] ∧
  SlotLaw State.reset ∧ HeldLaw State.reset ∧ ListedLaw State.reset ∧ ItemLaw State.reset ∧ EventLaw State.reset ∧
  HeldReadLaw State.reset ∧ FillLaw State.reset ∧ ControlLaw State.reset ∧ CapacityLaw State.reset ∧
  CacheLaw State.reset ∧ TrackerLaw State.reset

/-! ### Reset and INIT -/

/-- Entry to HELD (R10, R163). POWER_ON_DETECT, from any state, HELD among them: the power-on values, the guard and its
lock among them. RESET_LOW: the RESET values with the guard kept; in HELD already, nothing but the pin changes. Pending
requests are answered DEFER, and a granted access will be answered to no one: its answer, an error or not, frees the
M-port and does nothing else. The model's own conventions: the waiting answer is marked to be dropped, and an error in
it is not logged (assumption 21), and the answer stands in State (assumption 17). -/
def Obligations.HeldIsEnteredAtTheResetValues : Prop :=
  (∀ s : State, ∃ t, exec .powerOnDetect s = .next t ∧ ResetValues t ∧
    t.ctrl.guard = { first := 0, last := 255, mode := .off, lock := false } ∧
    t.pins = { s.pins with detectorActive := true } ∧
    (s.player.read.isSome = true → t.ports.pAnswer = some .defer) ∧
    (s.tone.service.isSome = true → t.ports.tAnswer = some .defer) ∧
    t.arb.access = s.arb.access.map (fun a => { a with drop := .held }) ∧
    t.ctrl.dsel = s.ctrl.dsel ∧ t.ctrl.boot = s.ctrl.boot) ∧
  (∀ s : State,
    (s.ctrl.op ≠ .held → ∃ t, exec .resetLow s = .next t ∧ ResetValues t ∧ t.ctrl.guard = s.ctrl.guard ∧
      t.pins = { s.pins with resetLow := true } ∧
      (s.player.read.isSome = true → t.ports.pAnswer = some .defer) ∧
      (s.tone.service.isSome = true → t.ports.tAnswer = some .defer) ∧
      t.arb.access = s.arb.access.map (fun a => { a with drop := .held })) ∧
    (s.ctrl.op = .held → exec .resetLow s = .next { s with pins := { s.pins with resetLow := true } })) ∧
  (∀ (s : State) (a : Access) (isError : Bool) (w : Tbl 8 Word), s.arb.access = some a → a.drop = .held →
    exec (a.owner.answered isError w) s = .next { s with arb := { s.arb with access := none } })

/-- HELD_RELEASE: with RESET high and the detector quiet the straps are sampled, the pins are followed and INIT begins
with its drain phase; with only one of the two, HELD goes on (R2, R11), and a detector that becomes active there sets
the power-on values, the guard and its lock among them (R10, R163). The model's own conventions: the levels of RESET
and the detector are operands (assumption 9). -/
def Obligations.HeldReleaseSamplesTheStraps : Prop :=
  ∀ (s : State) (d : BitVec 2) (b : Bool), s.ctrl.op = .held →
    (∃ t, exec (.heldRelease true true d b) s = .next t ∧
      t.pins = { s.pins with resetLow := false, detectorActive := false } ∧
      t.ctrl = { s.ctrl with
        op := .init, phase := some .drain, dsel := d, boot := b, hushReading := s.pins.hush,
        sustReading := s.pins.sust } ∧
      t.ports = s.ports ∧ t.timebase = s.timebase ∧ t.player = s.player ∧ t.scan = s.scan ∧ t.bellows = s.bellows ∧
      t.map = s.map ∧ VoicingKept s t ∧ StatusKept s t) ∧
    (∀ x y : Bool, (x && y) = false → y = true ∨ s.pins.detectorActive = true →
      exec (.heldRelease x y d b) s =
        .next { s with pins := { s.pins with resetLow := !x, detectorActive := !y } }) ∧
    ∀ x : Bool, s.pins.detectorActive = false →
      ∃ t, exec (.heldRelease x false d b) s = .next t ∧ ResetValues t ∧
        t.ctrl.guard = { first := 0, last := 255, mode := .off, lock := false } ∧
        t.pins = { s.pins with resetLow := !x, detectorActive := true } ∧ t.ctrl.dsel = s.ctrl.dsel ∧
        t.ctrl.boot = s.ctrl.boot

/-- DRAIN_PHASE_END: with the P write queue empty the first descriptor read is asked for and chosen; with a write
still queued the phase goes on (R12, R13). VOICE_TABLE_PHASE_END: when every FREE write has been pushed and has
landed, the snapshot phase shows the state that INIT is about to enter, records DONE for a REINIT, and asks for a
snapshot of that; it waits otherwise (R15, R16). The model's own conventions: which command the result belongs to
(assumption 24). -/
def Obligations.InitPhasesEndWhenTheirWorkIsDone : Prop :=
  (∀ s : State, s.ctrl.phase = some .drain → s.map.fetch = none →
    (s.player.writes = [] → exec .drainPhaseEnd s = .next { s with
      ctrl := { s.ctrl with phase := some (.descriptor 0 [] false) }
      map := { s.map with fetch := some { kind := .descriptor 0, overtaken := false, first := none } } }) ∧
    (s.player.writes ≠ [] → exec .drainPhaseEnd s = .next s)) ∧
  (∀ s : State, s.ctrl.phase = some .voiceTable →
    (s.eng.item = none → s.voice.queue = [] →
      ∃ t, exec .voiceTablePhaseEnd s = .next t ∧ t.ctrl = { s.ctrl with phase := some .snapshot } ∧
        t.stat.result = (if s.stat.awaited = .reinit then .done else s.stat.result) ∧
        (∃ v, t.stat.snapshot = some { image := v, next := 0 } ∧ v.result = t.stat.result ∧
          v.op = (if s.ctrl.valid && s.ctrl.boot then .performing else .transparent)) ∧
        t.eng = s.eng ∧ t.voice = s.voice ∧ t.map = s.map ∧ StatusKept s t) ∧
    (s.eng.item ≠ none ∨ s.voice.queue ≠ [] → exec .voiceTablePhaseEnd s = .next s))

/-- DESCRIPTOR_READ_LANDS. The first three reads: the words are kept, an error is logged, and the next read is chosen.
The fourth after a failed one, or failing itself: the copy is not checked, the mark is invalid and DESC_BAD names the
first word of the descriptor (R13, R40). The model's own conventions: a failed read does not stop the others
(assumption 11). -/
def Obligations.DescriptorReadsFollowInOrder : Prop :=
  (∀ (s : State) (x : RamAnswer) (a : Access) (k : Fin 4) (ws : List Word) (f : Bool),
    Carries s (.fetch (.descriptor k)) a → s.ctrl.phase = some (.descriptor k ws f) → k ≠ 3 → s.player.writes = [] →
    ∃ t, exec (.descriptorReadLands x) s = .next t ∧
      t.ctrl = { s.ctrl with phase := some (.descriptor (k + 1)
        (match x with
          | .done w => ws ++ w.cells
          | .error => ws) (f || x.failed)) } ∧
      t.map = { s.map with fetch := some { kind := .descriptor (k + 1), overtaken := false, first := none } } ∧
      t.arb = { s.arb with access := none } ∧
      (x = .error → FaultLogged .memoryError .bridge a.req.start s t) ∧ (x ≠ .error → t.stat = s.stat) ∧
      t.eng = s.eng ∧ t.voice = s.voice ∧ t.tone = s.tone ∧ t.scan = s.scan ∧ t.bellows = s.bellows ∧
      t.player = s.player) ∧
  (∀ (s : State) (x : RamAnswer) (a : Access) (ws : List Word) (f : Bool),
    Carries s (.fetch (.descriptor 3)) a → s.ctrl.phase = some (.descriptor 3 ws f) → (f || x.failed) = true →
    ∃ t, exec (.descriptorReadLands x) s = .next t ∧ t.ctrl.valid = false ∧ t.ctrl.desc = s.ctrl.desc ∧
      t.ctrl.phase = some .snapshot ∧ t.stat.snapshot.isSome = true ∧ t.stat.flags = s.stat.flags ||| 1 ∧
      (x ≠ .error → FaultLogged .descBad .bridge (BitVec.ofNat 24 (controlBase s.ctrl.dsel)) s t) ∧
      (x = .error → t.stat.faultLog = some (s.stat.faultLog.getD
        { kind := .memoryError, port := .bridge, addr := a.req.start }) ∧ t.stat.moreFaults = true))

/-- DESCRIPTOR_READ_LANDS, the fourth read with every word in hand: the copy is replaced and checked; the sections
phase begins, or DESC_BAD is logged with the word of the first failing test and INIT goes on to its snapshot (R8,
R13). -/
def Obligations.DescriptorIsCheckedAfterTheFourthRead : Prop :=
  ∀ (s : State) (w : Tbl 8 Word) (a : Access) (ws : List Word),
    Carries s (.fetch (.descriptor 3)) a → s.ctrl.phase = some (.descriptor 3 ws false) → s.player.writes = [] →
    ((Desc.ofWords (ws ++ w.cells)).check (controlBase s.ctrl.dsel) = none →
      ∃ t, exec (.descriptorReadLands (.done w)) s = .next t ∧
        t.ctrl = { s.ctrl with
          desc := some (Desc.ofWords (ws ++ w.cells)), valid := true, phase := some (.sections 0) } ∧
        t.map = { s.map with fetch := some { kind := .sections 0, overtaken := false, first := none } } ∧
        t.stat = s.stat ∧ t.eng = s.eng ∧ t.scan = s.scan ∧ t.bellows = s.bellows) ∧
    (∀ n, (Desc.ofWords (ws ++ w.cells)).check (controlBase s.ctrl.dsel) = some n →
      ∃ t, exec (.descriptorReadLands (.done w)) s = .next t ∧ t.ctrl.valid = false ∧
        t.ctrl.desc = some (Desc.ofWords (ws ++ w.cells)) ∧ t.ctrl.phase = some .snapshot ∧
        t.stat.snapshot.isSome = true ∧
        FaultLogged .descBad .bridge (BitVec.ofNat 24 (controlBase s.ctrl.dsel + 4 * n)) s t ∧
        t.eng = s.eng ∧ t.scan = s.scan ∧ t.bellows = s.bellows)

/-- SECTIONS_PHASE_READ_LANDS: the two records of the read are installed with clear marks, as budget 0, KEEP, latch 0
and points 0 after an error, and the next read is chosen; the fourth begins the voice table phase with the collections
rebuilt and the first 32 of the 64 FREE writes queued (R14, R15). The model's own conventions: an item runs in one
step until it has to wait (assumption 5), so the first 32 of the FREE writes stand in the queue after the landing. -/
def Obligations.SectionsPhaseInstallsTwoRecordsARead : Prop :=
  ∀ (s : State) (x : RamAnswer) (a : Access) (k : Fin 4),
    Carries s (.fetch (.sections k)) a → s.ctrl.phase = some (.sections k) → s.player.writes = [] →
    ∃ t, exec (.sectionsPhaseReadLands x) s = .next t ∧
      (∀ i : SectNo, t.map.sects.get i =
        if i.val / 2 = k.val then
          (match x with
            | .done w =>
              let o := 4 * (i.val % 2)
              sectOf (w.cells.getD o 0) (w.cells.getD (o + 1) 0) (w.cells.getD (o + 2) 0) (w.cells.getD (o + 3) 0)
            | .error => SectRecord.zero)
        else s.map.sects.get i) ∧
      (x = .error → FaultLogged .memoryError .bridge a.req.start s t) ∧
      (k ≠ 3 → t.ctrl = { s.ctrl with phase := some (.sections (k + 1)) } ∧
        t.map.fetch = some { kind := .sections (k + 1), overtaken := false, first := none } ∧ t.eng = s.eng ∧
        t.voice = s.voice) ∧
      (k = 3 → t.ctrl = { s.ctrl with phase := some .voiceTable } ∧ t.map.fetch = none ∧
        t.eng.free = List.finRange 64 ∧ t.eng.order = [] ∧ t.eng.held = [] ∧ (∀ j, t.eng.counts.get j = 0) ∧
        (s.voice.queue = [] → t.voice.queue = ((List.finRange 64).take 32).map fun i =>
          { slot := i, body := .full 0 0 0 0, tag := none }))

/-- INIT_END: once the snapshot has landed, INIT ends in PERFORMING with a valid descriptor and BOOT 1, and in
TRANSPARENT otherwise; the down image is brought into line, effective sustain and HUSH effective are worked out
afresh, and the entry to PERFORMING hushes every down position and makes both notices; IRQ is driven by the flags and
the mask in use (R16, R55, R64, R157, R184). -/
def Obligations.InitEndsByTheMarkAndBoot : Prop :=
  ∀ s : State, s.ctrl.op = .init → s.ctrl.phase = some .snapshot → s.stat.snapshot = none →
    ∃ t, exec .initEnd s = .next t ∧ t.ctrl.phase = none ∧
      (s.ctrl.valid = true ∧ s.ctrl.boot = true → t.ctrl.op = .performing ∧
        (∀ p : Pos, t.scan.down.get p =
          if p.val < s.ctrl.copy.used.toNat ∧ s.scan.down.get p ≠ .up then .hushed else .up) ∧ t.scan.silence = 0 ∧
        t.bellows = { s.bellows with
          revNotice := some s.bellows.dir, levelNotice := some s.bellows.magnitude,
          notified := s.bellows.magnitude }) ∧
      (¬(s.ctrl.valid = true ∧ s.ctrl.boot = true) → t.ctrl.op = .transparent ∧
        t.bellows = { s.bellows with levelNotice := none } ∧
        (s.ctrl.valid = true → ∀ p : Pos,
          t.scan.down.get p = if p.val < s.ctrl.copy.used.toNat then s.scan.down.get p else .up)) ∧
      (s.ctrl.valid = false → (∀ p, t.scan.down.get p = .up) ∧ ∀ k, t.map.sects.get k = SectRecord.zero) ∧
      t.ctrl.hushEffective = (s.ctrl.valid && s.ctrl.copy.hushEnable && s.ctrl.hushReading) ∧
      t.ctrl.sustain = ((s.ctrl.valid && s.ctrl.copy.sustEnable && s.ctrl.sustReading) || s.ctrl.sustainFlag) ∧
      irq t = decide (t.stat.flags &&& (if s.ctrl.valid then s.ctrl.copy.irqMask else 0x7F) ≠ 0) ∧
      t.ctrl.guard = s.ctrl.guard ∧ t.tone = s.tone ∧ t.voice = s.voice ∧ t.player = s.player ∧
      t.stat.counters = s.stat.counters ∧ t.stat.faultLog = s.stat.faultLog

/-! ### The player firmware's commands (Chapters 9 and 10) -/

/-- R167 steps 1 to 3: an opcode that names no command is answered BAD; while a command is in progress every command
but PANIC and REINIT is answered BUSY; without a valid descriptor every command but REINIT, ACK, GUARD, GUARD_LOCK and
FLUSH is answered REFUSED. None of them acts. The model's own conventions: the player commands' rows carry the command
write itself (assumption 3). -/
def Obligations.CommandsAreJudgedInOrder : Prop :=
  (∀ (s : State) (opcode : Byte) (c : CmdWrite), CommandAccepted s → namesNoCommand opcode = true →
    ∃ t, exec (.unknownOpcode opcode c) s = .next t ∧ TurnedAway opcode c .bad s t) ∧
  (∀ (s : State) (i : Instr) (op : Byte) (c : CmdWrite) (o : Opcode), CommandAccepted s → commandOf i = some (op, c) →
    opcodeOf op = some o →
    (s.ctrl.command ≠ none → o ≠ .panic → o ≠ .reinit →
      ∃ t, exec i s = .next t ∧ TurnedAway op c .busy s t) ∧
    (s.ctrl.command = none → s.ctrl.valid = false → o ≠ .reinit → o ≠ .ack → o ≠ .guard → o ≠ .guardLock →
      o ≠ .flush → ∃ t, exec i s = .next t ∧ TurnedAway op c .refused s t))

/-- The rows REFUSED and BUSY of the table of R170 for PERFORM and STANDBY, BUSY for a second SWAP (R152), BAD for the
illegal arguments of R169, and REFUSED for a GUARD under the lock (R161). The model's own conventions: the player
commands' rows carry the command write itself (assumption 3). -/
def Obligations.CommandsOutOfPlaceDoNotAct : Prop :=
  (∀ (s : State) (c : CmdWrite) (h : BitVec 24) (a : BitVec 30) (i : Instr) (w : CmdWrite), CommandReady s →
    s.ctrl.valid = true →
    (s.ctrl.op = .performing → ∃ t, exec (.perform c) s = .next t ∧ TurnedAway 1 c .refused s t) ∧
    (s.ctrl.op = .settling → ∃ t, exec (.perform c) s = .next t ∧ TurnedAway 1 c .busy s t) ∧
    (s.ctrl.op = .transparent → s.eng.hushPending ≠ .clear ∨ itemIsHush s.eng = true →
      ∃ t, exec (.perform c) s = .next t ∧ TurnedAway 1 c .busy s t) ∧
    (i = .standbySettle h a ∨ i = .standbyCut h a → commandOf i = some (2, w) →
      (s.ctrl.op = .transparent → ∃ t, exec i s = .next t ∧ TurnedAway 2 w .refused s t) ∧
      (s.ctrl.op = .settling → ∃ t, exec i s = .next t ∧ TurnedAway 2 w .busy s t)) ∧
    (∀ x m, c.arg = some x → swapModeOf x = some m → s.ctrl.swap ≠ none ∨ s.eng.restrikeWalk = true →
      ∃ t, exec (.swap c) s = .next t ∧ TurnedAway 3 c .busy s t)) ∧
  (∀ (s : State) (c : CmdWrite) (x : Word), CommandReady s → c.arg = some x →
    (s.ctrl.valid = true → fieldAt x 0 2 = 0 ∨ fieldAt x 0 2 = 3 →
      ∃ t, exec (.swap c) s = .next t ∧ TurnedAway 3 c .bad s t) ∧
    (s.ctrl.valid = true → 2 ≤ fieldAt x 0 2 → ∃ t, exec (.sustain c) s = .next t ∧ TurnedAway 5 c .bad s t) ∧
    (s.ctrl.guard.lock = false → fieldAt x 16 2 = 3 ∨ fieldAt x 8 8 < fieldAt x 0 8 →
      ∃ t, exec (.guard c) s = .next t ∧ TurnedAway 6 c .bad s t) ∧
    (s.ctrl.guard.lock = true → ∃ t, exec (.guard c) s = .next t ∧ TurnedAway 6 c .refused s t))

/-- PERFORM in TRANSPARENT with no hush pending or running enters PERFORMING: every down position is hushed, both
notices are made, and sustain and HUSH are worked out afresh (R170, R171). The model's own conventions: the player
commands' rows carry the command write itself (assumption 3). -/
def Obligations.PerformEntersPerforming : Prop :=
  ∀ (s : State) (c : CmdWrite), CommandReady s → s.ctrl.valid = true → s.ctrl.op = .transparent →
    s.eng.hushPending = .clear → itemIsHush s.eng = false →
    ∃ t, exec (.perform c) s = .next t ∧ CommandTaken 1 c .done s t ∧
      t.ctrl = { s.ctrl with
        op := .performing, argRead := t.ctrl.argRead
        sustain := (s.ctrl.copy.sustEnable && s.ctrl.sustReading) || s.ctrl.sustainFlag
        hushEffective := s.ctrl.copy.hushEnable && s.ctrl.hushReading } ∧
      (∀ p, t.scan.down.get p = if s.scan.down.get p = .up then .up else .hushed) ∧ t.scan.silence = 0 ∧
      t.scan.events = s.scan.events ∧
      t.bellows = { s.bellows with
        revNotice := some s.bellows.dir, levelNotice := some s.bellows.magnitude, notified := s.bellows.magnitude } ∧
      t.eng = s.eng ∧ PortsKept s t ∧ CachesKept s t ∧ StatusKept s t

/-- STANDBY SETTLE in PERFORMING enters SETTLING, PENDING: the events are flushed, the reversal notice dropped, the
walks stopped, a release-all set pending, sustain off; a restrike walk that is stopped completes its swap (R172). The
model's own conventions: the player commands' rows carry the command write itself (assumption 3); the settle timer is
the timebase at the entry (assumption 7). -/
def Obligations.StandbySettleEntersSettling : Prop :=
  ∀ (s : State) (h : BitVec 24) (a : BitVec 30) (w : CmdWrite), CommandReady s → s.ctrl.valid = true →
    s.ctrl.op = .performing → commandOf (.standbySettle h a) = some (2, w) →
    ∃ t, exec (.standbySettle h a) s = .next t ∧ CommandTaken 2 w .pending s t ∧
      t.ctrl = { s.ctrl with
        op := .settling, argRead := t.ctrl.argRead, settleFrames := 0, settleTimer := some s.timebase
        settleCut := false, sustain := false, hushEffective := s.ctrl.copy.hushEnable && s.ctrl.hushReading
        swap := if s.eng.restrikeWalk then none else s.ctrl.swap } ∧
      t.scan = { s.scan with events := [] } ∧ t.bellows = { s.bellows with revNotice := none } ∧
      t.eng = { s.eng with revWalk := none, sustainWalk := false, restrikeWalk := false, releaseAll := true } ∧
      t.stat.flags = (if s.eng.restrikeWalk then s.stat.flags ||| 2 else s.stat.flags) ∧
      t.stat.counters = s.stat.counters ∧ t.stat.faultLog = s.stat.faultLog ∧ t.stat.faultCount = s.stat.faultCount ∧
      PortsKept s t ∧ CachesKept s t

/-- STANDBY CUT in PERFORMING announces a hush and enters TRANSPARENT, DONE; a pending swap is tested there (R175,
R159, R153). The model's own conventions: the player commands' rows carry the command write itself (assumption 3); an
announced hush ends a waiting item at that moment (assumption 6). -/
def Obligations.StandbyCutHushesAndEntersTransparent : Prop :=
  ∀ (s : State) (h : BitVec 24) (a : BitVec 30) (w : CmdWrite), CommandReady s → s.ctrl.valid = true →
    s.ctrl.op = .performing → commandOf (.standbyCut h a) = some (2, w) →
    ∃ t, exec (.standbyCut h a) s = .next t ∧ CommandTaken 2 w .done s t ∧ t.ctrl.op = .transparent ∧
      t.ctrl.sustain = ((s.ctrl.copy.sustEnable && s.ctrl.sustReading) || s.ctrl.sustainFlag) ∧
      t.ctrl.hushEffective = (s.ctrl.copy.hushEnable && s.ctrl.hushReading) ∧
      Hushed s t ∧
      (s.ctrl.swap = none → t.ctrl.bank = s.ctrl.bank ∧ t.ctrl.swap = none ∧ t.stat.flags = s.stat.flags) ∧
      (∀ x, s.ctrl.swap = some x → x.taken = false → holdsBank t x.incoming = false →
        t.ctrl.bank = x.incoming ∧ t.ctrl.swap = none ∧ t.stat.flags = s.stat.flags ||| 2) ∧
      (∀ x, s.ctrl.swap = some x → x.taken = true ∨ holdsBank t x.incoming = true →
        t.ctrl.bank = s.ctrl.bank ∧ t.ctrl.swap = s.ctrl.swap ∧ t.stat.flags = s.stat.flags) ∧
      t.ctrl.guard = s.ctrl.guard ∧ t.ctrl.sustainFlag = s.ctrl.sustainFlag ∧ t.stat.counters = s.stat.counters ∧
      t.stat.faultLog = s.stat.faultLog ∧ CachesKept s t

/-- SWAP names the other bank incoming: PENDING in PERFORMING and SETTLING, and in TRANSPARENT while the P write queue
holds a write into the incoming bank; otherwise it takes effect at once, DONE, with SWAP_DONE (R152, R153, R154). The
model's own conventions: the player commands' rows carry the command write itself (assumption 3). -/
def Obligations.SwapWaitsOrTakesEffect : Prop :=
  ∀ (s : State) (c : CmdWrite) (x : Word) (m : SwapMode), CommandReady s → s.ctrl.valid = true → c.arg = some x →
    swapModeOf x = some m → s.ctrl.swap = none → s.eng.restrikeWalk = false →
    ∃ t, exec (.swap c) s = .next t ∧ t.eng = s.eng ∧ t.scan = s.scan ∧ t.bellows = s.bellows ∧ PortsKept s t ∧
      CachesKept s t ∧ t.stat.counters = s.stat.counters ∧ t.stat.faultLog = s.stat.faultLog ∧
      (s.ctrl.op ≠ .transparent ∨ holdsBank t s.ctrl.bank.other = true → CommandTaken 3 c .pending s t ∧
        t.ctrl = { s.ctrl with
          argRead := t.ctrl.argRead, swap := some { mode := m, incoming := s.ctrl.bank.other, taken := false } } ∧
        t.stat.flags = s.stat.flags) ∧
      (s.ctrl.op = .transparent → holdsBank t s.ctrl.bank.other = false → CommandTaken 3 c .done s t ∧
        t.ctrl = { s.ctrl with argRead := t.ctrl.argRead, bank := s.ctrl.bank.other } ∧
        t.stat.flags = s.stat.flags ||| 2)

/-- PANIC announces a hush in every working state, also while another command is in progress (R159, R167). The model's
own conventions: the player commands' rows carry the command write itself (assumption 3); an announced hush ends a
waiting item at that moment (assumption 6). -/
def Obligations.PanicAnnouncesAHush : Prop :=
  ∀ (s : State) (c : CmdWrite), CommandAccepted s → s.ctrl.valid = true →
    ∃ t, exec (.panic c) s = .next t ∧ CommandTaken 4 c .done s t ∧ Hushed s t ∧ ControlKept s t ∧ CachesKept s t ∧
      StatusKept s t

/-- SUSTAIN sets the sustain command flag; effective sustain follows outside SETTLING, and its change from on to off
in PERFORMING starts the sustain-off walk (R156, R157, R143). The model's own conventions: the player commands' rows
carry the command write itself (assumption 3). -/
def Obligations.SustainSetsItsFlag : Prop :=
  ∀ (s : State) (c : CmdWrite) (x : Word), CommandReady s → s.ctrl.valid = true → c.arg = some x →
    fieldAt x 0 2 ≤ 1 →
    ∃ t, exec (.sustain c) s = .next t ∧ CommandTaken 5 c .done s t ∧
      t.ctrl = { s.ctrl with
        argRead := t.ctrl.argRead, sustainFlag := decide (fieldAt x 0 2 = 1)
        sustain := decide (s.ctrl.op ≠ .settling) &&
          ((s.ctrl.copy.sustEnable && s.ctrl.sustReading) || decide (fieldAt x 0 2 = 1))
        hushEffective := s.ctrl.copy.hushEnable && s.ctrl.hushReading } ∧
      t.eng = { s.eng with sustainWalk := s.eng.sustainWalk ||
        (s.ctrl.sustain && !t.ctrl.sustain && decide (s.ctrl.op = .performing)) } ∧
      t.scan = s.scan ∧ t.bellows = s.bellows ∧ PortsKept s t ∧ CachesKept s t ∧ StatusKept s t

/-- GUARD with an unlocked guard and a legal argument sets span and mode; GUARD_LOCK sets the lock, set or not; both
with either descriptor (R161, R162). The model's own conventions: the player commands' rows carry the command write
itself (assumption 3). -/
def Obligations.GuardAndGuardLockSetTheGuard : Prop :=
  ∀ (s : State) (c : CmdWrite), CommandReady s →
    (∀ x m, c.arg = some x → s.ctrl.guard.lock = false → guardModeOf x = some m → fieldAt x 0 8 ≤ fieldAt x 8 8 →
      ∃ t, exec (.guard c) s = .next t ∧ CommandTaken 6 c .done s t ∧
        t.ctrl = { s.ctrl with
          argRead := t.ctrl.argRead
          guard := { first := t.ctrl.guard.first, last := t.ctrl.guard.last, mode := m, lock := false } } ∧
        t.ctrl.guard.first.val = fieldAt x 0 8 ∧ t.ctrl.guard.last.val = fieldAt x 8 8 ∧
        t.eng = s.eng ∧ t.scan = s.scan ∧ t.bellows = s.bellows ∧ PortsKept s t ∧ CachesKept s t ∧ StatusKept s t) ∧
    (∃ t, exec (.guardLock c) s = .next t ∧ CommandTaken 7 c .done s t ∧
      t.ctrl = { s.ctrl with argRead := t.ctrl.argRead, guard := { s.ctrl.guard with lock := true } } ∧
      t.eng = s.eng ∧ t.scan = s.scan ∧ t.bellows = s.bellows ∧ PortsKept s t ∧ CachesKept s t ∧ StatusKept s t)

/-- ACK(mask), at the moment it acts, at its taking or when its argument has been read, clears each flag whose mask
bit is 1, leaves the others and ignores bits that name no flag; with the FAULT bit it empties the fault log; its
result is DONE in every state and with either descriptor; a flag it cleared is raised again by the next event that
raises it (R183). The model's own conventions: the player commands' rows carry the command write itself (assumption
3); which command the result belongs to (assumption 24). -/
def Obligations.AckClearsTheFlagsOfItsMask : Prop :=
  (∀ (s : State) (c : CmdWrite) (x : Word), CommandReady s → c.arg = some x →
    ∃ t, exec (.ack c) s = .next t ∧ CommandTaken 8 c .done s t ∧ FlagsAcked x s t ∧ ControlKept s t ∧
      t.eng = s.eng ∧ t.scan = s.scan ∧ t.bellows = s.bellows ∧ PortsKept s t ∧ CachesKept s t) ∧
  (∀ (s : State) (a : Access) (w : Tbl 8 Word), Carries s (.fetch .argument) a → s.ctrl.command = some .ack →
    ∃ t, exec (.argumentReadLands (.done w)) s = .next t ∧ FlagsAcked (w.get 0) s t ∧
      t.ctrl = { s.ctrl with command := none, argRead := .none, argAhead := 0 } ∧
      t.stat.result = (if s.stat.awaited = .command then .done else s.stat.result) ∧ t.eng = s.eng ∧ t.scan = s.scan ∧
      t.bellows = s.bellows) ∧
  (∀ (f : BitVec 7) (s : State), (raiseFlag f s).stat.flags = s.stat.flags ||| f)

/-- REINIT, taken in any working state with either descriptor and also while a command is in progress, begins INIT's
drain phase: the operating values are lost, the guard, the flags, the fault log and the counters are kept, and an
upstream T request not yet granted is answered DEFER. P writes and T requests that have been granted the M-port go on;
any other access there is marked, and its answer frees the M-port and does nothing else, but that an error in it is
logged (R11, R35, R55, R68, R81, R114, R131, R150, R176, R180, R185). The model's own conventions: the player commands'
rows carry the command write itself (assumption 3); a held-read fill asked for but not yet granted is withdrawn, so the
clause that no fill stands after REINIT is the model's choice (assumption 34); the answer stands in State (assumption
17); an error answered to an access that REINIT has dropped is logged, for a voice write and a snapshot too (assumptions
21 and 28). -/
def Obligations.ReinitBeginsInitAndKeepsTheLogs : Prop :=
  (∀ (s : State) (c : CmdWrite), CommandAccepted s →
    ∃ t, exec (.reinit c) s = .next t ∧ t.stat.lastOpcode = 9 ∧ t.stat.result = .pending ∧
      t.stat.cmdCount = s.stat.cmdCount + 1 ∧ t.ports.pAnswer = some (.accept []) ∧
      t.player.writes = s.player.writes ++ [commandRequest s.ctrl 9 c] ∧
      t.ctrl = { s.ctrl with
        op := .init, phase := some .drain, command := none, argRead := .none, argAhead := 0, settleFrames := 0
        settleTimer := none, settleCut := false, bank := .bankA, swap := none, sustainFlag := false, sustain := false
        hushEffective := false } ∧
      t.eng = Engine.reset ∧ t.voice = VoiceWriter.reset ∧ t.map.cache = [] ∧ t.map.fetch = none ∧
      (∀ k, t.map.sects.get k = { s.map.sects.get k with mark := .clear }) ∧
      t.scan = { s.scan with events := [], silence := 0 } ∧
      t.bellows = { s.bellows with revNotice := none, levelNotice := none } ∧
      t.tone.slot = .vacant ∧ t.tone.fill = .none ∧ t.tone.frame = 0 ∧
      (s.tone.service ≠ none → toneGranted s.arb.access = false →
        t.tone.service = none ∧ t.ports.tAnswer = some .defer) ∧
      (toneGranted s.arb.access = true → t.tone.service = s.tone.service ∧ t.ports.tAnswer = s.ports.tAnswer) ∧
      t.arb = { s.arb with access := s.arb.access.map fun a =>
        if a.owner = .pWrite ∨ a.owner = .pRead ∨ a.owner = .tRead ∨ a.owner = .tWrite then a
        else if a.drop = .live then { a with drop := .reinit } else a } ∧
      StatusKept s t ∧ t.stat.stale = true ∧ t.stat.snapshot = none ∧ irq t = false) ∧
  (∀ (s : State) (a : Access) (w : Tbl 8 Word), s.arb.access = some a → a.drop = .reinit →
    exec (a.owner.answered false w) s = .next { s with arb := { s.arb with access := none } } ∧
    ∀ port, (a.owner = .fill ∧ port = .portT) ∨
        ((a.owner = .voice ∨ a.owner = .snapshot ∨ ∃ k, a.owner = .fetch k) ∧ port = .bridge) →
      ∃ t, exec (a.owner.answered true w) s = .next t ∧ FaultLogged .memoryError port a.req.start s t ∧
        t = { s with arb := { s.arb with access := none }, stat := t.stat } ∧ t.stat.counters = s.stat.counters ∧
        t.stat.result = s.stat.result ∧ t.stat.cmdCount = s.stat.cmdCount ∧ t.stat.snapshot = s.stat.snapshot ∧
        t.stat.freshPass = s.stat.freshPass)

/-- FLUSH empties the map cache, with either descriptor; a map entry fetch that holds the M-port is marked overtaken
(R80). The model's own conventions: the player commands' rows carry the command write itself (assumption 3). -/
def Obligations.FlushEmptiesTheMapCache : Prop :=
  ∀ (s : State) (c : CmdWrite), CommandReady s →
    ∃ t, exec (.flush c) s = .next t ∧ CommandTaken 10 c .done s t ∧ t.map.cache = [] ∧ t.map.sects = s.map.sects ∧
      (∀ f b p, s.map.fetch = some f → f.kind = .entry b p →
        t.map.fetch = some { f with overtaken := f.overtaken || fetchGranted s }) ∧
      (∀ f, s.map.fetch = some f → (∀ b p, f.kind ≠ .entry b p) → t.map.fetch = some f) ∧
      ControlKept s t ∧ t.eng = s.eng ∧ t.scan = s.scan ∧ t.bellows = s.bellows ∧ PortsKept s t ∧ StatusKept s t

/-! ### Pins (Chapter 9) -/

/-- HUSH_PIN_CHANGE: in HELD the pin is ignored; otherwise the reading and HUSH effective follow it, and its assertion
in a working state with HUSH enabled announces a hush (R10, R158, R159). SUST_PIN_CHANGE: in HELD the pin is ignored;
otherwise effective sustain follows by the table of R156, and its change from on to off in PERFORMING starts the
sustain-off walk (R10, R156, R157, R143). The model's own conventions: an announced hush ends a waiting item at that
moment (assumption 6). -/
def Obligations.PinsMoveHushAndEffectiveSustain : Prop :=
  (∀ (s : State) (high : Bool), ControlLaw s →
    (s.ctrl.op = .held → exec (.hushPinChange high) s = .next { s with pins := { s.pins with hush := high } }) ∧
    (s.ctrl.op ≠ .held → ∃ t, exec (.hushPinChange high) s = .next t ∧ t.pins = { s.pins with hush := high } ∧
      t.ctrl = { s.ctrl with
        hushReading := high
        hushEffective := s.ctrl.op.working && (s.ctrl.valid && s.ctrl.copy.hushEnable && high) } ∧
      (s.ctrl.op.working = true ∧ s.ctrl.valid = true ∧ s.ctrl.copy.hushEnable = true ∧ high = true ∧
        s.ctrl.hushReading = false → Hushed { s with pins := { s.pins with hush := high } } t) ∧
      (¬(s.ctrl.op.working = true ∧ s.ctrl.valid = true ∧ s.ctrl.copy.hushEnable = true ∧ high = true ∧
        s.ctrl.hushReading = false) → VoicingKept s t ∧ t.scan = s.scan ∧ t.bellows = s.bellows) ∧
      StatusKept s t ∧ t.player = s.player ∧ CachesKept s t ∧ t.ports = s.ports)) ∧
  (∀ (s : State) (high : Bool), ControlLaw s →
    (s.ctrl.op = .held → exec (.sustPinChange high) s = .next { s with pins := { s.pins with sust := high } }) ∧
    (s.ctrl.op ≠ .held → ∃ t, exec (.sustPinChange high) s = .next t ∧ t.pins = { s.pins with sust := high } ∧
      t.ctrl = { s.ctrl with
        sustReading := high
        sustain := decide (s.ctrl.op = .transparent ∨ s.ctrl.op = .performing) &&
          ((s.ctrl.valid && s.ctrl.copy.sustEnable && high) || s.ctrl.sustainFlag) } ∧
      t.eng = { s.eng with sustainWalk := s.eng.sustainWalk ||
        (s.ctrl.sustain && !t.ctrl.sustain && decide (s.ctrl.op = .performing)) } ∧
      PortsKept { s with pins := { s.pins with sust := high } } t ∧ t.scan = s.scan ∧ t.bellows = s.bellows ∧
      t.map = s.map ∧ t.player = s.player ∧ t.ports = s.ports ∧ StatusKept s t))

/-! ### Requests (Chapter 2) -/

/-- In HELD and INIT every request of either port, a command write among them, is answered DEFER and changes nothing
else (R10, R11, R22 step 1). The model's own conventions: the player commands' rows carry the command write itself
(assumption 3); the answer stands in State (assumption 17). -/
def Obligations.RequestsOutsideTheWorkingStatesAreDeferred : Prop :=
  ∀ s : State, s.ctrl.op = .held ∨ s.ctrl.op = .init →
    (s.player.read = none →
      (∀ w, exec (.pWrite w) s = .next { s with ports := { s.ports with pAnswer := some .defer } }) ∧
      (∀ r, exec (.pRead r) s = .next { s with ports := { s.ports with pAnswer := some .defer } }) ∧
      (∀ i op c, commandOf i = some (op, c) →
        exec i s = .next { s with ports := { s.ports with pAnswer := some .defer } })) ∧
    (s.tone.service = none →
      (∀ r, exec (.tRead r) s = .next { s with ports := { s.ports with tAnswer := some .defer } }) ∧
      (∀ w, exec (.tWrite w) s = .next { s with ports := { s.ports with tAnswer := some .defer } }))

/-- A request of bad form, a start that is no multiple of 4 or a WRITE of length 2..8 without all four mask bits, is
refused with MISALIGNED, logged with its port and its start address; no other block learns of it (R23). -/
def Obligations.BadFormIsRefusedBeforeAnyRegion : Prop :=
  ∀ s : State,
    (∀ w : WriteReq, w.start.toNat % 4 ≠ 0 ∨ (w.more ≠ 0 ∧ w.mask ≠ 0xF) →
      (POpen s → ∃ t, exec (.pWrite w) s = .next t ∧ RefusedOnP .misaligned w.start s t) ∧
      (TOpen s → ∃ t, exec (.tWrite w) s = .next t ∧ RefusedOnT .misaligned w.start s t)) ∧
    (∀ r : ReadReq, r.start.toNat % 4 ≠ 0 →
      (POpen s → ∃ t, exec (.pRead r) s = .next t ∧ RefusedOnP .misaligned r.start s t) ∧
      (TOpen s → ∃ t, exec (.tRead r) s = .next t ∧ RefusedOnT .misaligned r.start s t))

/-- A well-formed request with a refused word is refused whole, with one fault of the kind and at the address of its
first refused word (R22 step 4, R25). The model's own conventions: the answer stands in State (assumption 17). -/
def Obligations.TheFirstRefusedWordDecides : Prop :=
  ∀ (s : State) (k : FaultKind) (a : Addr),
    (∀ w : WriteReq, badForm w = false →
      (POpen s → firstRefused (refusesPWrite s.ctrl) (namedAddrs w.toReadReq) = some (k, a) →
        ∃ t, exec (.pWrite w) s = .next t ∧ RefusedOnP k a s t) ∧
      (TOpen s → firstRefused (refusesTWrite s.ctrl) (namedAddrs w.toReadReq) = some (k, a) →
        ∃ t, exec (.tWrite w) s = .next t ∧ RefusedOnT k a s t)) ∧
    (∀ r : ReadReq, badStart r.start = false →
      firstRefused (refusesRead s.ctrl) (namedAddrs r) = some (k, a) →
      (POpen s → ∃ t, exec (.pRead r) s = .next t ∧ RefusedOnP k a s t) ∧
      (TOpen s → ∃ t, exec (.tRead r) s = .next t ∧ RefusedOnT k a s t))

/-- Which words are refused (R26, R27, R160). By area: the status record and VOICES to every write; what lies at or
above RAM_TOP to every request; the watched regions to T writes; without a valid descriptor nothing outside the
control block. What the table of R26 lets pass passes: the two spare parts of the control block with either
descriptor, and with a valid one the rest of RAM below RAM_TOP. By the guard: a P write of an entry word of the active
bank whose position lies inside the span (INSIDE) or outside it (OUTSIDE). -/
def Obligations.RefusalsFollowTheAreasAndTheGuard : Prop :=
  (∀ (c : Control) (a : Addr),
    (controlBase c.dsel + 0x100 ≤ a.toNat → a.toNat < controlBase c.dsel + 0x180 →
      refusesPWrite c a = some .controlWrite ∧ refusesTWrite c a = some .controlWrite ∧ refusesRead c a = none) ∧
    (controlBase c.dsel ≤ a.toNat → a.toNat < controlBase c.dsel + 0x088 →
      refusesPWrite c a = none ∧ refusesTWrite c a = some .controlWrite ∧ refusesRead c a = none) ∧
    ((controlBase c.dsel + 0x088 ≤ a.toNat ∧ a.toNat < controlBase c.dsel + 0x100) ∨
        (controlBase c.dsel + 0x180 ≤ a.toNat ∧ a.toNat < controlBase c.dsel + 0x200) →
      refusesPWrite c a = none ∧ refusesTWrite c a = none ∧ refusesRead c a = none) ∧
    (a.toNat < controlBase c.dsel ∨ controlBase c.dsel + 512 ≤ a.toNat →
      (c.valid = false → refusesPWrite c a = none ∧ refusesTWrite c a = none ∧ refusesRead c a = none) ∧
      (c.valid = true → c.copy.top ≤ a.toNat →
        refusesPWrite c a = some .beyondTop ∧ refusesTWrite c a = some .beyondTop ∧
        refusesRead c a = some .beyondTop)) ∧
    (c.valid = true → c.copy.check (controlBase c.dsel) = none →
      (∀ r ∈ [(c.copy.scan, 512), (c.copy.programs, 32768), (c.copy.sections, 128)],
        r.1.toNat ≤ a.toNat → a.toNat < r.1.toNat + r.2 →
        refusesPWrite c a = none ∧ refusesTWrite c a = some .controlWrite ∧ refusesRead c a = none) ∧
      (c.copy.voices.toNat ≤ a.toNat → a.toNat < c.copy.voices.toNat + 1024 →
        refusesPWrite c a = some .voiceWrite ∧ refusesTWrite c a = some .voiceWrite ∧ refusesRead c a = none) ∧
      (a.toNat < c.copy.top → a.toNat < controlBase c.dsel ∨ controlBase c.dsel + 512 ≤ a.toNat →
        (∀ r ∈ [(c.copy.scan, 512), (c.copy.mapA, 1024), (c.copy.mapB, 1024), (c.copy.programs, 32768),
          (c.copy.sections, 128), (c.copy.voices, 1024)], a.toNat < r.1.toNat ∨ r.1.toNat + r.2 ≤ a.toNat) →
        refusesPWrite c a = none ∧ refusesTWrite c a = none ∧ refusesRead c a = none))) ∧
  (∀ (c : Control) (b : Bank) (p : Pos), c.valid = true → c.copy.check (controlBase c.dsel) = none →
    let a := c.copy.mapBase b + BitVec.ofNat 24 (4 * p.val)
    refusesPWrite c a = (if b = c.bank ∧
        ((c.guard.mode = .inside ∧ c.guard.first ≤ p ∧ p ≤ c.guard.last) ∨
          (c.guard.mode = .outside ∧ (p < c.guard.first ∨ c.guard.last < p))) then some .guard else none) ∧
    refusesTWrite c a = some .controlWrite ∧ refusesRead c a = none)

/-- A P write that finds the P write queue full is deferred and counted, and so is one whose SCAN part would create more
events than the event queue has room for (R22, R29, R46, R178). An accepted one whose words lie where no block watches,
or in the command slot without all four bytes of its word 0, is posted and answered, and nothing else changes but what
the fetcher may choose (R28, R29, R165). One that writes all four bytes of word 0 takes the command that they name, of
whatever length and order it is, and does what the command's own row does (R165). The model's own conventions: the
answer stands in State (assumption 17); the announcement of a PROGRAMS part has no effect (assumption 29); the player
commands' rows carry the command write itself (assumption 3). -/
def Obligations.PWritesArePostedOrDeferred : Prop :=
  (∀ (s : State) (w : WriteReq), POpen s → badForm w = false →
    firstRefused (refusesPWrite s.ctrl) (namedAddrs w.toReadReq) = none →
    (8 ≤ s.player.writes.length → ∃ t, exec (.pWrite w) s = .next t ∧ OnlyAnswered s t ∧
      t.ports = { s.ports with pAnswer := some .defer } ∧
      t.stat.counters = { s.stat.counters with pQueueDefers :=
        if s.stat.counters.pQueueDefers < 65535 then s.stat.counters.pQueueDefers + 1
        else s.stat.counters.pQueueDefers } ∧
      t.stat.flags = s.stat.flags ∧ t.stat.faultLog = s.stat.faultLog) ∧
    (s.player.writes.length < 8 →
      32 - s.scan.events.length < eventCount s.ctrl.op (hushPinActive s.ctrl) s.scan
        (buttonChanges s.ctrl.copy (partOf s.ctrl .scan (namedWords w))) →
      ∃ t, exec (.pWrite w) s = .next t ∧ OnlyAnswered s t ∧
      t.ports = { s.ports with pAnswer := some .defer } ∧
      t.stat.counters = { s.stat.counters with scanDefers :=
        if s.stat.counters.scanDefers < 65535 then s.stat.counters.scanDefers + 1
        else s.stat.counters.scanDefers } ∧
      t.stat.flags = s.stat.flags ∧ t.stat.faultLog = s.stat.faultLog)) ∧
  (∀ (s : State) (w : WriteReq), PAccepts s w → TakesNoCommand s w →
    (∀ a ∈ namedAddrs w.toReadReq, areaOf s.ctrl a ∈
      [Area.descriptor, .command, .spareLow, .spareHigh, .programs, .ram, .other]) →
    ∃ t, exec (.pWrite w) s = .next t ∧ Posted w s t ∧ PortsKept s t ∧ CachesKept s t ∧ ControlKept s t ∧
      t.stat = s.stat ∧ t.eng = s.eng ∧ t.scan = s.scan ∧ t.bellows = s.bellows) ∧
  (∀ (s : State) (w : WriteReq) (i : Instr) (op : Byte) (c : CmdWrite) (x : NamedWord), ControlLaw s → PAccepts s w →
    commandOf i = some (op, c) → x ∈ namedWords w →
    x.addr = BitVec.ofNat 24 (controlBase s.ctrl.dsel + 0x80) → x.mask = 0xF → x.data = c.high ++ op →
    c.arg = ((namedWords w).find? fun y =>
      decide (y.addr = BitVec.ofNat 24 (controlBase s.ctrl.dsel + 0x84))).map (·.data) →
    ∃ t u, exec (.pWrite w) s = .next t ∧ exec i s = .next u ∧ t.player.writes = s.player.writes ++ [w] ∧
      t.stat.lastOpcode = op ∧ t.stat.cmdCount = s.stat.cmdCount + 1 ∧
      t.ctrl = { u.ctrl with argRead := t.ctrl.argRead } ∧ t.stat = u.stat ∧ t.eng = u.eng ∧ t.scan = u.scan ∧
      t.bellows = u.bellows ∧ t.voice = u.voice ∧ t.tone = u.tone ∧ t.arb = u.arb ∧ t.ports = u.ports ∧
      t.map.cache = u.map.cache ∧ t.map.sects = u.map.sects)

/-- A P write of any length and order, over SCAN alone or over other areas too, that takes no command. A SCAN part
clears the silence counter; every byte that it writes below USED_POSITIONS gives its position a new state, and in
PERFORMING the events of the table of R44 join the queue in ascending position order; without a SCAN part the scan
monitor is as it was (R24, R28, R41, R43, R44, R45). -/
def Obligations.ButtonBytesMoveTheDownImage : Prop :=
  ∀ (s : State) (w : WriteReq), PAccepts s w → TakesNoCommand s w →
    ∃ t, exec (.pWrite w) s = .next t ∧ Posted w s t ∧
      t.scan.silence = (if ∃ x ∈ namedWords w, areaOf s.ctrl x.addr = .scan then 0 else s.scan.silence) ∧
      (∀ p : Pos, t.scan.down.get p = match buttonByte s w p with
        | none => s.scan.down.get p
        | some b =>
          if b = 0 then .up
          else if s.scan.down.get p ≠ .up then s.scan.down.get p
          else match s.ctrl.op with
            | .performing => if hushPinActive s.ctrl then .hushed else .down
            | .settling => .hushed
            | _ => .down) ∧
      t.scan.events = (if s.ctrl.op = .performing then
        s.scan.events ++ (List.finRange 256).filterMap (fun p : Pos =>
          match buttonByte s w p with
          | none => none
          | some b =>
            if b ≠ 0 then
              (if s.scan.down.get p = .up ∧ hushPinActive s.ctrl = false then some { isPress := true, pos := p }
                else none)
            else if s.scan.down.get p = .down then some { isPress := false, pos := p } else none)
        else s.scan.events) ∧
      PortsKept s t ∧ ControlKept s t ∧ t.eng = s.eng ∧ StatusKept s t

/-- A P write that takes no command and writes both bytes of the bellows word, of whatever length and beside whatever
other words, is a pressure sample: magnitude, motion, sounding direction with its hold and count, and the notices follow
the tables of R57, R58, R59, R61 and R62. One that writes only one of the two bytes, or neither, leaves the tracker as
it is (R48); where it writes one it is scan activity all the same (R43). -/
def Obligations.TheBellowsWordIsASample : Prop :=
  ∀ (s : State) (w : WriteReq), PAccepts s w → TakesNoCommand s w →
    (∀ x ∈ namedWords w, areaOf s.ctrl x.addr = .scan → x.addr.toNat = s.ctrl.copy.scan.toNat + 256 →
      x.mask.getLsbD 0 = true → x.mask.getLsbD 1 = true →
      let d := s.ctrl.copy
      let p := max (-2047) (min 2047 (bitsAt x.data 0 16).toInt)
      let motion : Motion := if (d.onset.toNat : Int) ≤ p then .push else if p ≤ -(d.onset.toNat : Int) then .pull
        else if p.natAbs < d.rest.toNat then .rest else s.bellows.motion
      let turns : Prop := motion ≠ .rest ∧ motion.dir? ≠ some s.bellows.dir ∧ s.bellows.hold = 0
      let levels : Prop := (s.ctrl.op = .performing ∨ s.ctrl.op = .settling) ∧
        ((d.levelStep.toNat : Int) ≤ ((p.natAbs : Int) - s.bellows.notified).natAbs ∨
          (p.natAbs = 0 ∧ s.bellows.notified ≠ 0))
      ∃ t, exec (.pWrite w) s = .next t ∧ Posted w s t ∧ t.scan.silence = 0 ∧
        t.bellows.magnitude = p.natAbs ∧ t.bellows.motion = motion ∧
        (turns → motion.dir? = some t.bellows.dir ∧ t.bellows.hold = d.reverseHold.toNat ∧
          t.bellows.reversals = s.bellows.reversals + 1 ∧
          t.bellows.revNotice = (if s.ctrl.op = .performing then some t.bellows.dir else s.bellows.revNotice)) ∧
        (¬turns → t.bellows.dir = s.bellows.dir ∧ t.bellows.hold = s.bellows.hold ∧
          t.bellows.reversals = s.bellows.reversals ∧ t.bellows.revNotice = s.bellows.revNotice) ∧
        (levels → t.bellows.levelNotice = some p.natAbs ∧ t.bellows.notified = p.natAbs) ∧
        (¬levels → t.bellows.levelNotice = s.bellows.levelNotice ∧ t.bellows.notified = s.bellows.notified) ∧
        (w.more = 0 → t.scan = { s.scan with silence := 0 }) ∧ PortsKept s t ∧ ControlKept s t ∧ t.eng = s.eng ∧
        StatusKept s t) ∧
    ((∀ x ∈ namedWords w, areaOf s.ctrl x.addr = .scan → x.addr.toNat = s.ctrl.copy.scan.toNat + 256 →
        ¬(x.mask.getLsbD 0 = true ∧ x.mask.getLsbD 1 = true)) →
      ∃ t, exec (.pWrite w) s = .next t ∧ Posted w s t ∧ t.bellows = s.bellows ∧ t.eng = s.eng ∧ StatusKept s t ∧
        ((∃ x ∈ namedWords w, areaOf s.ctrl x.addr = .scan) → t.scan.silence = 0))

/-- A P write of any length and order, over the map banks and SECTIONS or beside them, that takes no command: every map
entry that it names leaves the map cache, and a fetch of one that holds the M-port is marked overtaken; every section
record with a word named is marked for its reload, once, and no other is; the command slot, where it is written without
all four bytes of word 0, gives no command (R24, R28, R78, R79, R86, R165). -/
def Obligations.MapAndSectionWritesReachTheCaches : Prop :=
  ∀ (s : State) (w : WriteReq), PAccepts s w → TakesNoCommand s w →
    ∃ t, exec (.pWrite w) s = .next t ∧ Posted w s t ∧
      t.map.cache = s.map.cache.filter (fun e => !namesEntry s w e.bank e.pos) ∧
      (∀ f, s.map.fetch = some f → t.map.fetch = some { f with
        overtaken := f.overtaken || (match f.kind with
          | .entry b p => namesEntry s w b p && fetchGranted s
          | _ => false) }) ∧
      (∀ k, t.map.sects.get k = if namesSection s w k = true then
        { s.map.sects.get k with mark :=
          if (s.map.sects.get k).mark = .clear then .set
          else if s.map.fetch.map (·.kind) = some (.reload k) then .setAgain
          else (s.map.sects.get k).mark }
        else s.map.sects.get k) ∧
      PortsKept s t ∧ ControlKept s t ∧ t.eng = s.eng ∧ StatusKept s t ∧ t.stat.lastOpcode = s.stat.lastOpcode ∧
      t.stat.result = s.stat.result ∧ t.stat.cmdCount = s.stat.cmdCount ∧
      ((∀ x ∈ namedWords w, areaOf s.ctrl x.addr ≠ .scan) →
        t.scan = s.scan ∧ t.bellows = s.bellows ∧ t.stat = s.stat)

/-- A P read that is accepted waits in the player port queue, and a read of the status record uses up the fresh pass;
a read of a stale record without one is deferred and leaves a snapshot in flight (R31, R179). SNAPSHOT_ACCESS_LANDS:
the next of the four accesses follows; after the fourth the fresh-pass mark is set and the stale mark cleared, unless
a field has changed since the image was taken; an error is logged and counts as landed (R180, R40). The model's own
conventions: the answer stands in State (assumption 17). -/
def Obligations.TheStatusRecordIsReadThroughSnapshots : Prop :=
  (∀ (s : State) (r : ReadReq), POpen s → badStart r.start = false →
    firstRefused (refusesRead s.ctrl) (namedAddrs r) = none →
    ((∃ a ∈ namedAddrs r, areaOf s.ctrl a = .status) → s.stat.stale = true → s.stat.freshPass = false →
      ∃ t, exec (.pRead r) s = .next t ∧ t.ports = { s.ports with pAnswer := some .defer } ∧ OnlyAnswered s t ∧
        t.stat.stale = true ∧ StatusKept s t ∧
        (s.stat.snapshot = none → t.stat.snapshot = some { image := statusView s, next := 0 } ∧
          t.stat.changed = false) ∧
        (s.stat.snapshot ≠ none → t.stat = s.stat)) ∧
    (¬((∃ a ∈ namedAddrs r, areaOf s.ctrl a = .status) ∧ s.stat.stale = true ∧ s.stat.freshPass = false) →
      ∃ t, exec (.pRead r) s = .next t ∧ t = { s with
        player := { s.player with read := some r }
        ports := { s.ports with pAnswer := none }
        stat := { s.stat with
          freshPass := s.stat.freshPass && !decide (∃ a ∈ namedAddrs r, areaOf s.ctrl a = .status) } })) ∧
  (∀ (s : State) (k : RamAck) (a : Access) (n : Snapshot), Carries s .snapshot a → s.stat.snapshot = some n →
    ∃ t, exec (.snapshotAccessLands k) s = .next t ∧ t.arb = { s.arb with access := none } ∧
      (n.next ≠ 3 → t.stat.snapshot = some { n with next := n.next + 1 } ∧
        (k = .done → t.stat = { s.stat with snapshot := some { n with next := n.next + 1 } })) ∧
      (n.next = 3 → t.stat.snapshot = none ∧ t.stat.freshPass = true ∧
        (k = .done → t.stat = { s.stat with
          snapshot := none, freshPass := true, stale := s.stat.stale && s.stat.changed }) ∧
        (k = .error → s.stat.faultCount < 65535 → t.stat.stale = true)) ∧
      (k = .error → FaultLogged .memoryError .bridge a.req.start s t) ∧
      t.eng = s.eng ∧ t.voice = s.voice ∧ t.tone = s.tone ∧ t.ctrl = s.ctrl ∧ t.map = s.map ∧ t.scan = s.scan ∧
      t.bellows = s.bellows ∧ t.player = s.player ∧ t.ports = s.ports)

/-- A T read with a VOICES part meets the gate, row by row: it is answered from the READY slot that holds its like,
deferred while that slot waits or fills, latched or only deferred while it touches an OPEN group, and otherwise passes
to RAM (R33, R122, R123, R126); a T write goes into service (R34). The model's own conventions: the answer stands in
State (assumption 17). -/
def Obligations.TheGateDecidesTReads : Prop :=
  ∀ s : State, TOpen s →
    (∀ r : ReadReq, badStart r.start = false → firstRefused (refusesRead s.ctrl) (namedAddrs r) = none →
      (namesArea s.ctrl .voices r = true →
        (∀ data t₀, s.tone.slot = .ready r data t₀ → isFrameStart s.ctrl r = false →
          exec (.tRead r) s = .next { s with
            ports := { s.ports with tAnswer := some (.accept (answerWords r data)) }
            tone := { s.tone with slot := .vacant } }) ∧
        (s.tone.slot = .waiting r ∨ s.tone.slot = .filling r →
          exec (.tRead r) s = .next { s with ports := { s.ports with tAnswer := some .defer } }) ∧
        (latched s.tone.slot ≠ some r → touchesOpen s r = true →
          exec (.tRead r) s = .next { s with
            ports := { s.ports with tAnswer := some .defer }
            tone := if s.tone.slot = .vacant then { s.tone with slot := .waiting r } else s.tone })) ∧
      (namesArea s.ctrl .voices r = false ∨ (latched s.tone.slot ≠ some r ∧ touchesOpen s r = false) →
        exec (.tRead r) s = .next { s with
          ports := { s.ports with tAnswer := none }
          tone := { s.tone with service := some (.read r), turns := s.tone.turns ++ [.request] } })) ∧
    (∀ w : WriteReq, badForm w = false → firstRefused (refusesTWrite s.ctrl) (namedAddrs w.toReadReq) = none →
      exec (.tWrite w) s = .next { s with
        ports := { s.ports with tAnswer := none }
        tone := { s.tone with service := some (.write w), turns := s.tone.turns ++ [.request] } })

/-! ### The memory port (Chapters 2, 5, 7, 10 and 11) -/

/-- The access each requester asks for (R30, R31, R34, R38, R116, R180), with where each fetch reads and how many
words: the descriptor and the section records in INIT (R13, R14), the two accesses of a program, a map entry, a
section reload, and word 1 of the command slot (R73, R74, R87, R168); and MPORT_GRANT: a waiting requester with count
8, or else any waiting requester, the first in the fixed order, is granted; its count becomes 0, those that waited
rise by 1 up to 8, the others become 0. A busy M-port is not granted. Entry to HELD sets the counts to 0, and REINIT
leaves them (R36, R37). The model's own conventions: a grant is a command of its own (assumption 18); mask and data of
a READ stand as 0 (assumption 22); the order is LINEAR where no rule names it, for a voice write of length 1, a read
of length 1 and INIT's reads (assumption 33); the player commands' rows carry the command write itself (assumption 3).
-/
def Obligations.TheGrantFollowsThePassOverCounts : Prop :=
  (∀ s : State,
    (∀ r ts, s.tone.turns = .request :: ts → s.tone.service = some (.read r) →
      accessOf s .tone = some (readAccess .tRead r)) ∧
    (∀ w ts, s.tone.turns = .request :: ts → s.tone.service = some (.write w) →
      accessOf s .tone = some (writeAccess .tWrite w)) ∧
    (∀ r ts, s.tone.turns = .fill :: ts → s.tone.slot = .filling r ∨ s.tone.slot = .waiting r →
      accessOf s .tone = some (readAccess .fill r)) ∧
    (s.tone.turns = [] → accessOf s .tone = none) ∧
    (∀ v vs, s.voice.queue = v :: vs → ∃ a, accessOf s .voice = some a ∧ a.owner = .voice ∧ a.isWrite = true ∧
      a.drop = .live ∧ a.req.order = .linear ∧ a.req.mask = 0xF ∧ a.req.more.val + 1 = v.body.words.length ∧
      a.req.start = s.ctrl.copy.voices + BitVec.ofNat 24 (16 * v.slot.val + 4 * v.body.firstWord) ∧
      ∀ i : Fin 8, a.req.data.get i = v.body.words.getD i.val 0) ∧
    (s.voice.queue = [] → accessOf s .voice = none) ∧
    (∀ f, s.map.fetch = some f → accessOf s .fetcher =
      if ∃ w ∈ s.player.writes, ∃ a ∈ namedAddrs w.toReadReq, a ∈ namedAddrs (fetchAccess s.ctrl f) then none
      else some (readAccess (.fetch f.kind) (fetchAccess s.ctrl f))) ∧
    (s.map.fetch = none → accessOf s .fetcher = none) ∧
    (∀ w ws, s.player.writes = w :: ws → accessOf s .player = some (writeAccess .pWrite w)) ∧
    (s.player.writes = [] → accessOf s .player = s.player.read.map (readAccess .pRead)) ∧
    (∀ k first, Reads s (.descriptor k) first (BitVec.ofNat 24 (controlBase s.ctrl.dsel + 32 * k.val)) 8) ∧
    (∀ k first, Reads s (.sections k) first (s.ctrl.copy.sections + BitVec.ofNat 24 (32 * k.val)) 8) ∧
    (∀ n, Reads s (.program n) none (s.ctrl.copy.programs + BitVec.ofNat 24 (64 * n.val)) 8) ∧
    (∀ n w, Reads s (.program n) (some w) (s.ctrl.copy.programs + BitVec.ofNat 24 (64 * n.val + 32)) 1) ∧
    (∀ p first, Reads s (.entry .bankA p) first (s.ctrl.copy.mapA + BitVec.ofNat 24 (4 * p.val)) 1) ∧
    (∀ p first, Reads s (.entry .bankB p) first (s.ctrl.copy.mapB + BitVec.ofNat 24 (4 * p.val)) 1) ∧
    (∀ i first, Reads s (.reload i) first (s.ctrl.copy.sections + BitVec.ofNat 24 (16 * i.val)) 4) ∧
    (∀ first, Reads s .argument first (BitVec.ofNat 24 (controlBase s.ctrl.dsel + 0x84)) 1) ∧
    (∀ n, s.stat.snapshot = some n → ∃ a, accessOf s .snapshot = some a ∧ a.owner = .snapshot ∧ a.isWrite = true ∧
      a.drop = .live ∧ a.req.start = BitVec.ofNat 24 (controlBase s.ctrl.dsel + 0x100 + 32 * n.next.val) ∧
      a.req.more = 7 ∧ a.req.order = .linear ∧ a.req.mask = 0xF ∧ a.req.data = snapshotWords n.image n.next) ∧
    (s.stat.snapshot = none → accessOf s .snapshot = none)) ∧
  (∀ s : State,
    (∀ a, s.arb.access = some a → exec .mportGrant s = .next s) ∧
    (s.arb.access = none → (∀ r, waits s r = false) → exec .mportGrant s = .next s) ∧
    (∀ g : Requester, s.arb.access = none → waits s g = true →
      (s.arb.count g = 8 ∧
        ∀ r ∈ fixedOrder.takeWhile (fun r => decide (r ≠ g)), ¬(waits s r = true ∧ s.arb.count r = 8)) ∨
      ((∀ r, waits s r = true → s.arb.count r ≠ 8) ∧
        ∀ r ∈ fixedOrder.takeWhile (fun r => decide (r ≠ g)), waits s r = false) →
      ∃ t, exec .mportGrant s = .next t ∧ t = { s with arb := t.arb } ∧ t.arb.access = accessOf s g ∧
        ∀ r, t.arb.count r = if r = g then 0 else if waits s r then min (s.arb.count r + 1) 8 else 0)) ∧
  (∀ s : State, ∃ t, exec .powerOnDetect s = .next t ∧ ∀ r, t.arb.count r = 0) ∧
  (∀ s : State, s.ctrl.op ≠ .held → ∃ t, exec .resetLow s = .next t ∧ ∀ r, t.arb.count r = 0) ∧
  (∀ (s : State) (c : CmdWrite), CommandAccepted s →
    ∃ t, exec (.reinit c) s = .next t ∧ ∀ r, t.arb.count r = s.arb.count r)

/-- P_WRITE_LANDS: the head entry leaves the queue, whatever RAM answers; an error is logged with port P and nothing
is sent to the master; the argument read comes one write nearer; in TRANSPARENT a swap into a bank that the write
named is taken once the queue holds no write into it (R30, R39, R153, R154, R168). -/
def Obligations.PWritesLeaveTheQueueWhenTheyLand : Prop :=
  ∀ (s : State) (k : RamAck) (a : Access), Carries s .pWrite a →
    ∃ t, exec (.pWriteLands k) s = .next t ∧ t.player = { s.player with writes := s.player.writes.tail } ∧
      t.ports = s.ports ∧ t.arb = { s.arb with access := none } ∧ t.eng = s.eng ∧ t.voice = s.voice ∧
      t.tone = s.tone ∧ t.scan = s.scan ∧ t.bellows = s.bellows ∧ CachesKept s t ∧
      (k = .error → t.stat.faultLog = some (s.stat.faultLog.getD
        { kind := .memoryError, port := .portP, addr := a.req.start }) ∧ t.stat.flags.getLsbD 0 = true) ∧
      (k = .done → t.stat.faultLog = s.stat.faultLog) ∧
      (s.ctrl.command.isSome = true → s.ctrl.argRead = .none → t.ctrl.argAhead = s.ctrl.argAhead - 1 ∧
        (t.ctrl.argRead = .none ↔ 1 < s.ctrl.argAhead)) ∧
      (∀ x, s.ctrl.swap = some x → s.ctrl.op = .transparent → x.taken = false →
        namedBank s.ctrl x.incoming a.req = true → holdsBank t x.incoming = false →
        t.ctrl.bank = x.incoming ∧ t.ctrl.swap = none ∧ t.stat.flags.getLsbD 1 = true) ∧
      ((∀ x, s.ctrl.swap = some x → s.ctrl.op ≠ .transparent ∨ x.taken = true ∨
          namedBank s.ctrl x.incoming a.req = false ∨ holdsBank t x.incoming = true) →
        t.ctrl = { s.ctrl with argRead := t.ctrl.argRead, argAhead := t.ctrl.argAhead } ∧
        (k = .done → t.stat = s.stat) ∧ (k = .error → FaultLogged .memoryError .portP a.req.start s t))

/-- RAM's answer to a P read, a T read that is no frame start, or a T write: ACCEPT with the data in the request's
order, or REFUSE with MEMORY_ERROR logged with the request's port and first word (R31, R33, R34, R39). The model's own
conventions: the answer stands in State (assumption 17). -/
def Obligations.PassThroughAccessesAreAnswered : Prop :=
  ∀ (s : State) (a : Access) (w : Tbl 8 Word),
    (Carries s .pRead a →
      exec (.pReadCompletes (.done w)) s = .next { s with
        player := { s.player with read := none }
        ports := { s.ports with pAnswer := some (.accept (answerWords a.req.toReadReq w)) }
        arb := { s.arb with access := none } } ∧
      ∃ t, exec (.pReadCompletes .error) s = .next t ∧
        RefusedOnP .memoryError a.req.start { s with
          player := { s.player with read := none }, arb := { s.arb with access := none } } t) ∧
    (Carries s .tRead a →
      (isFrameStart s.ctrl a.req.toReadReq = false → exec (.tReadCompletes (.done w)) s = .next { s with
        tone := { s.tone with service := none, turns := s.tone.turns.tail }
        ports := { s.ports with tAnswer := some (.accept (answerWords a.req.toReadReq w)) }
        arb := { s.arb with access := none } }) ∧
      ∃ t, exec (.tReadCompletes .error) s = .next t ∧
        RefusedOnT .memoryError a.req.start { s with
          tone := { s.tone with service := none, turns := s.tone.turns.tail }
          arb := { s.arb with access := none } } t) ∧
    (Carries s .tWrite a →
      exec (.tWriteCompletes .done) s = .next { s with
        tone := { s.tone with service := none, turns := s.tone.turns.tail }
        ports := { s.ports with tAnswer := some (.accept []) }
        arb := { s.arb with access := none } } ∧
      ∃ t, exec (.tWriteCompletes .error) s = .next t ∧
        RefusedOnT .memoryError a.req.start { s with
          tone := { s.tone with service := none, turns := s.tone.turns.tail }
          arb := { s.arb with access := none } } t)

/-- VOICE_WRITE_LANDS: the head write leaves the queue and its group has one write fewer to land, also after an error;
groups with no write left and filling no leave the table, and a waiting held read that no OPEN group touches begins to
fill. GROUP_LATE: the oldest OPEN group turns LATE, counted and flagged, with the same effect on the held read (R116,
R118, R120, R124, R40). The model's own conventions: GROUP_LATE acts on the oldest OPEN group and carries the timebase
to the limit (assumptions 7 and 30). -/
def Obligations.GroupsCloseAndTurnLate : Prop :=
  (∀ (s : State) (k : RamAck) (a : Access) (v : VoiceWrite) (vs : List VoiceWrite), Carries s .voice a →
    s.voice.queue = v :: vs →
    ∃ t, exec (.voiceWriteLands k) s = .next t ∧
      t.voice = { s.voice with
        queue := vs
        groups := (s.voice.groups.map fun g =>
          if v.tag = some g.tag then { g with notLanded := g.notLanded - 1 } else g).filter
            fun g => g.filling || decide (g.notLanded ≠ 0) } ∧
      FillsWhenFree s t ∧ t.arb = { s.arb with access := none } ∧ t.eng = s.eng ∧ t.ctrl = s.ctrl ∧ t.map = s.map ∧
      t.scan = s.scan ∧ t.bellows = s.bellows ∧ t.player = s.player ∧ t.ports = s.ports ∧
      (k = .done → t.stat = s.stat) ∧ (k = .error → FaultLogged .memoryError .bridge a.req.start s t)) ∧
  (∀ (s : State) (before after : List Group) (g : Group), s.voice.groups = before ++ g :: after → g.late = false →
    (∀ h ∈ before, h.late = true) →
    ∃ t, exec .groupLate s = .next t ∧
      t.voice = { s.voice with groups := before ++ { g with late := true } :: after } ∧
      t.timebase = max s.timebase (g.openedAt + s.ctrl.copy.holdLimit.toNat) ∧
      t.stat.counters = { s.stat.counters with
        lateGroups := if s.stat.counters.lateGroups < 65535 then s.stat.counters.lateGroups + 1
          else s.stat.counters.lateGroups } ∧
      t.stat.flags = s.stat.flags ||| 32 ∧ FillsWhenFree s t ∧ t.eng = s.eng ∧ t.ctrl = s.ctrl ∧ t.map = s.map ∧
      t.arb = s.arb ∧ t.scan = s.scan ∧ t.bellows = s.bellows ∧ t.player = s.player ∧ t.ports = s.ports ∧
      t.stat.faultLog = s.stat.faultLog)

/-- HELD_READ_FILL_LANDS: the filling slot becomes READY with the data and its discard timer starts, or EMPTY after an
error, logged with port T; the answer of a discarded fill is dropped, and the slot fills again if it may.
HELD_READ_DISCARD empties a READY slot after 200 microseconds and counts it (R123, R124, R125, R126). The model's own
conventions: the discard carries the timebase to the limit (assumption 7), and a discarded fill is answered before the
next (assumption 10). -/
def Obligations.TheHeldReadFillsAndIsDiscarded : Prop :=
  ∀ s : State,
    (∀ (a : Access) (r : ReadReq) (w : Tbl 8 Word), Carries s .fill a → s.tone.slot = .filling r →
      exec (.heldReadFillLands (.done w)) s = .next { s with
        tone := { s.tone with turns := s.tone.turns.tail, fill := .none, slot := .ready r w s.timebase }
        arb := { s.arb with access := none } } ∧
      ∃ t, exec (.heldReadFillLands .error) s = .next t ∧ FaultLogged .memoryError .portT a.req.start s t ∧
        t.tone = { s.tone with turns := s.tone.turns.tail, fill := .none, slot := .vacant } ∧
        t.arb = { s.arb with access := none } ∧ t.eng = s.eng ∧ t.voice = s.voice ∧ t.ctrl = s.ctrl ∧ t.map = s.map ∧
        t.ports = s.ports) ∧
    (∀ (a : Access) (r : ReadReq) (w : Tbl 8 Word), Carries s .fill a → s.tone.slot = .waiting r →
      ∃ t, exec (.heldReadFillLands (.done w)) s = .next t ∧ t.stat = s.stat ∧ t.voice = s.voice ∧ t.eng = s.eng ∧
        t.ctrl = s.ctrl ∧ t.ports = s.ports ∧
        t.tone = (if touchesOpen s r then { s.tone with turns := s.tone.turns.tail, fill := .none }
          else { s.tone with turns := s.tone.turns.tail ++ [.fill], fill := .live, slot := .filling r })) ∧
    (∀ (r : ReadReq) (w : Tbl 8 Word) (t₀ : Nat), s.tone.slot = .ready r w t₀ →
      ∃ t, exec .heldReadDiscard s = .next t ∧ t.tone = { s.tone with slot := .vacant } ∧
        t.timebase = max s.timebase (t₀ + 200) ∧
        t.stat.counters = { s.stat.counters with
          discards := if s.stat.counters.discards < 65535 then s.stat.counters.discards + 1
            else s.stat.counters.discards } ∧
        t.stat.flags = s.stat.flags ∧ t.stat.faultLog = s.stat.faultLog ∧ t.eng = s.eng ∧ t.voice = s.voice ∧
        t.ctrl = s.ctrl ∧ t.map = s.map ∧ t.arb = s.arb ∧ t.ports = s.ports)

/-- MAP_ENTRY_FETCH_LANDS: RAM's word is installed as the most recently used entry unless the fetch was overtaken, and
nothing is installed after an error. The press that waits for it, with room in the table and no record of its position
there (R101), creates its record in the applied direction; the restrike step that waits for it replaces the record's
snapshot and bank and releases its voices in one group; each from a valid entry, or with no program from an invalid one,
a bad one (logged) or a failed read; and each asks for the program of its direction (R70, R77, R79, R84, R101, R102,
R141). An answer awaited for discard is installed and logged in the same way and handed to no item, and an item that
waited for it makes its own request (R97). The model's own conventions: an item runs in one step until it has to wait
(assumption 5); a press in progress creates its record also outside PERFORMING (assumption 13); an item that waited for
its entry behind the discarded answer looks it up again then, in the bank active then, and is served from the cache or
fetches it (assumption 23). -/
def Obligations.MapEntriesAreInstalledAndHandedOver : Prop :=
  ∀ (s : State) (x : RamAnswer) (a : Access) (f : Fetch) (b : Bank) (p : Pos),
    Carries s (.fetch (.entry b p)) a → s.map.fetch = some f →
    let cache := match x with
      | .done w => if f.overtaken then s.map.cache else
        ({ bank := b, pos := p, word := w.get 0 } ::
          s.map.cache.filter (fun e => !decide (e.bank = b ∧ e.pos = p))).take 32
      | .error => s.map.cache
    let e : EntrySnap := match x with
      | .done w => (match judgeEntry (w.get 0) with
        | .valid e => e
        | .invalid => EntrySnap.none
        | .bad => EntrySnap.none)
      | .error => EntrySnap.none
    (∀ js, s.eng.item = some { kind := .press p, wait := .entry b p, jobs := js } → findRec s.eng p = none →
      s.eng.held.length < 32 →
      ∃ t, exec (.mapEntryFetchLands x) s = .next t ∧ t.map.cache = cache ∧ EntryLanded s t x a b p ∧
        PressEntered s t (programWait s p) b p e ∧
        (∀ n, e.program s.eng.appliedDir = some n → s.ctrl.op = .performing → s.eng.awaitDiscard = false →
          Chosen s t (.program n))) ∧
    (∀ js r, s.eng.item = some { kind := .restrikeStep p, wait := .entry b p, jobs := js } →
      findRec s.eng p = some r → Ordered s r.voices → RoomFor s r.voices.length →
      ∃ t, exec (.mapEntryFetchLands x) s = .next t ∧ t.map.cache = cache ∧ EntryLanded s t x a b p ∧
        RestrikeEntered s t (programWait s p) b p r e ∧
        (∀ n, e.program r.dir = some n → s.ctrl.op = .performing → s.eng.awaitDiscard = false →
          Chosen s t (.program n))) ∧
    (s.eng.awaitDiscard = true →
      ∃ t, exec (.mapEntryFetchLands x) s = .next t ∧ Discarded s t cache ∧
        (s.eng.item = none ∨ (∃ it pu, s.eng.item = some it ∧ it.wait = .push pu) ∨
            (∃ k q js, s.eng.item = some { kind := k, wait := .turnEntry q, jobs := js } ∧
              lookupEntry s.ctrl.bank q cache = none) ∨
            (∃ k q js, s.eng.item = some { kind := k, wait := .turnProgram q, jobs := js } ∧ Voices k q) →
          EntryLanded s t x a b p) ∧
        (∀ k q js c w, s.eng.item = some { kind := k, wait := .turnEntry q, jobs := js } →
          k = .press q ∨ k = .restrikeStep q → lookupEntry s.ctrl.bank q cache = some c → x = .done w →
          judgeEntry (w.get 0) ≠ .bad → EntryLogged q c.word s t))

/-- PROGRAM_FETCH_LANDS, by the layer count: 9 or more is a bad program, logged, and acts as absent, as does a failed
read of either access; 8 asks for word 8 in a second access, and its landing hands on 8 layers; none ends the item; 1 to
7 are played from the words read. Layers start in ascending index in the slots of the free list, in one group; a layer
that finds no slot or has no pitch is dropped, counted and flagged, and the next is taken; a layer may start by a steal,
and starts, steals and drops may stand side by side, each taken in the state that the layers before it have left; one
that finds no room waits with the layers after it (R104, R119). So for the record of a press, of a REPITCH and of a
restrike step (R72, R73, R84, R98, R102, R103, R105, R138, R141). An answer awaited for discard is played by no item,
its fault is logged all the same, and an item that waited for it makes its own request (R97). The model's own
conventions: an item runs in one step until it has to wait (assumption 5); with budget 0 an allocation drops its layer
(assumption 35); an item that waited for its entry behind the discarded answer looks it up again then, in the bank
active then, and is served from the cache or fetches it (assumption 23), and a press among them creates its record also
outside PERFORMING (assumption 13). -/
def Obligations.ProgramsAreHandedOverByTheirCount : Prop :=
  ∀ (s : State) (a : Access) (f : Fetch) (n : ProgNo),
    Carries s (.fetch (.program n)) a → s.map.fetch = some f →
    (∀ w, f.first = none → layerCount (w.get 0) = 8 → exec (.programFetchLands (.done w)) s = .next { s with
      arb := { s.arb with access := none }, map := { s.map with fetch := some { f with first := some w } } }) ∧
    (∀ (k : ItemKind) (p : Pos) (js : List Job) (w : Tbl 8 Word), Voices k p →
      s.eng.item = some { kind := k, wait := .program p, jobs := js } →
      (∃ t, exec (.programFetchLands .error) s = .next t ∧ FaultLogged .memoryError .bridge a.req.start s t ∧
        t.eng = { s.eng with item := none, revWalk := placeAfter k s.eng } ∧ t.voice.queue = s.voice.queue) ∧
      (∀ r first, f.first = some first → layerCount (first.get 0) = 8 → findRec s.eng p = some r →
        LayersPlayed (.programFetchLands (.done w)) s k p r ((List.finRange 8).map fun i =>
          (i, layerOf (first.get 0) ((first.cells.drop 1 ++ [w.get 0]).getD i.val 0) i))) ∧
      (f.first = none →
      (9 ≤ layerCount (w.get 0) → ∃ t, exec (.programFetchLands (.done w)) s = .next t ∧
        FaultLogged .badProgram .bridge (s.ctrl.copy.programs + BitVec.ofNat 24 (64 * n.val)) s t ∧
        t.eng = { s.eng with item := none, revWalk := placeAfter k s.eng } ∧ t.voice.queue = s.voice.queue) ∧
      (layerCount (w.get 0) = 0 → ∃ t, exec (.programFetchLands (.done w)) s = .next t ∧
        t.eng = { s.eng with item := none, revWalk := placeAfter k s.eng } ∧ t.voice.queue = s.voice.queue ∧ t.stat = s.stat) ∧
      (∀ r, 1 ≤ layerCount (w.get 0) → layerCount (w.get 0) ≤ 7 → findRec s.eng p = some r →
        LayersPlayed (.programFetchLands (.done w)) s k p r (((List.finRange 8).take (layerCount (w.get 0))).map fun i =>
          (i, layerOf (w.get 0) ((w.cells.drop 1).getD i.val 0) i))) ∧
      (layerCount (w.get 0) = 1 → ∀ (r : HeldRec) (i : Slot) (steal : Bool),
        let l := layerOf (w.get 0) (w.get 1) 0
        let pitch := (l.note : Int) + r.snap.transpose
        let lvl := levelOf s.eng.appliedMag (s.map.sects.get l.sect).curve l.trim
        SlotLaw s → s.ctrl.op = .performing → findRec s.eng p = some r → 0 ≤ pitch → pitch ≤ 127 →
        allocate s l.sect = .take i steal → s.voice.queue.length < 32 →
        (s.voice.groups.length < 4 ∨ (fillingGroup s.voice).isSome = true) →
        ∃ t, exec (.programFetchLands (.done w)) s = .next t ∧ t.eng.item = none ∧
          t.eng.revWalk = placeAfter k s.eng ∧
          t.eng.mirror.get i = {
            state := .sounding, sect := l.sect, owner := some p, layer := 0, trim := l.trim, stolen := steal
            level := lvl, countdown := none, gen := (s.eng.mirror.get i).gen + 1 } ∧
          (∀ j, j ≠ i → t.eng.mirror.get j = s.eng.mirror.get j) ∧
          t.eng.order = s.eng.order.filter (fun j => decide (j ≠ i)) ++ [i] ∧
          t.eng.sweep = (if steal then sweepLeaving i s.eng else s.eng.sweep) ∧
          (∃ v, t.voice.queue = s.voice.queue ++ [v] ∧ v.slot = i ∧ v.tag.isSome = true ∧ v.body = .full
            (voiceWord0 .sounding steal l.sect 0 ((s.eng.mirror.get i).gen + 1) p.val)
            (voiceWord1 l.patch pitch.toNat l.pan) (voiceWord2 lvl) (voiceWord3 s.tone.frame r.dir)) ∧
          t.stat.counters.steals = (if steal ∧ s.stat.counters.steals < 65535 then s.stat.counters.steals + 1
            else s.stat.counters.steals)))) ∧
    (s.eng.awaitDiscard = true → ∀ x : RamAnswer,
      x = .error ∨ f.first ≠ none ∨ (∃ w, x = .done w ∧ layerCount (w.get 0) ≠ 8) →
      ∃ t, exec (.programFetchLands x) s = .next t ∧ Discarded s t s.map.cache ∧
        (s.eng.item = none ∨ (∃ it pu, s.eng.item = some it ∧ it.wait = .push pu) →
          (x = .error → FaultLogged .memoryError .bridge a.req.start s t) ∧
          (∀ w, x = .done w → f.first = none → 9 ≤ layerCount (w.get 0) →
            FaultLogged .badProgram .bridge (s.ctrl.copy.programs + BitVec.ofNat 24 (64 * n.val)) s t) ∧
          (∀ w, x = .done w → f.first ≠ none ∨ layerCount (w.get 0) ≤ 7 → StatusKept s t)))

/-- SECTION_RELOAD_LANDS: the whole record is installed, or kept after an error; the reload mark is cleared, or set
once more when a write came during the reload (R87, R84). -/
def Obligations.SectionReloadsInstallTheRecord : Prop :=
  ∀ (s : State) (x : RamAnswer) (a : Access) (i : SectNo), Carries s (.fetch (.reload i)) a →
    ∃ t, exec (.sectionReloadLands x) s = .next t ∧
      (∀ k, k ≠ i → t.map.sects.get k = s.map.sects.get k) ∧
      (∀ w, x = .done w → t.map.sects.get i = { sectOf (w.get 0) (w.get 1) (w.get 2) (w.get 3) with
        mark := if (s.map.sects.get i).mark = .setAgain then .set else .clear }) ∧
      (x = .error → t.map.sects.get i = { s.map.sects.get i with mark := .clear } ∧
        FaultLogged .memoryError .bridge a.req.start s t) ∧
      (x ≠ .error → t.stat = s.stat) ∧ t.map.cache = s.map.cache ∧ t.arb = { s.arb with access := none } ∧
      ControlKept s t ∧ t.eng = s.eng ∧ t.voice = s.voice ∧ t.tone = s.tone ∧ t.scan = s.scan ∧
      t.bellows = s.bellows ∧ t.player = s.player ∧ t.ports = s.ports

/-- A command that carries an argument its write did not name becomes the command in progress, PENDING, and its
argument read is asked for once the writes before it have landed. ARGUMENT_READ_LANDS hands the word over and the
command acts (a SUSTAIN is stated here); after an error it is answered BAD without acting (R166, R167, R168, R169).
The model's own conventions: the player commands' rows carry the command write itself (assumption 3); which command
the result belongs to (assumption 24). -/
def Obligations.ArgumentsAreReadFromTheCommandSlot : Prop :=
  (∀ (s : State) (i : Instr) (op : Byte) (c : CmdWrite) (o : Opcode), CommandReady s → commandOf i = some (op, c) →
    opcodeOf op = some o → c.arg = none → o.hasArg = true → s.ctrl.valid = true ∨ o = .ack ∨ o = .guard →
    ∃ t, exec i s = .next t ∧ CommandTaken op c .pending s t ∧
      t.ctrl = { s.ctrl with
        command := some o, argAhead := s.player.writes.length, argRead := t.ctrl.argRead } ∧
      (t.ctrl.argRead = .none ↔ s.player.writes ≠ []) ∧
      t.eng = s.eng ∧ t.scan = s.scan ∧ t.bellows = s.bellows ∧ PortsKept s t ∧ CachesKept s t ∧ StatusKept s t) ∧
  (∀ (s : State) (a : Access) (o : Opcode), Carries s (.fetch .argument) a → s.ctrl.command = some o →
    ∃ t, exec (.argumentReadLands .error) s = .next t ∧ FaultLogged .memoryError .bridge a.req.start s t ∧
      t.ctrl = { s.ctrl with command := none, argRead := .none, argAhead := 0 } ∧
      t.stat.result = (if s.stat.awaited = .command then .bad else s.stat.result) ∧ t.eng = s.eng) ∧
  (∀ (s : State) (a : Access) (w : Tbl 8 Word), Carries s (.fetch .argument) a → s.ctrl.command = some .sustain →
    fieldAt (w.get 0) 0 2 ≤ 1 → s.ctrl.op.working = true →
    ∃ t, exec (.argumentReadLands (.done w)) s = .next t ∧ t.ctrl.command = none ∧ t.ctrl.argRead = .none ∧
      t.ctrl.sustainFlag = decide (fieldAt (w.get 0) 0 2 = 1) ∧ t.ctrl.sustain = sustainValue t.ctrl ∧
      t.stat.result = (if s.stat.awaited = .command then .done else s.stat.result) ∧
      t.ctrl.guard = s.ctrl.guard ∧ t.scan = s.scan ∧ t.bellows = s.bellows ∧ StatusKept s t)

/-! ### Frame starts and timers (Chapters 3, 4, 7 and 10) -/

/-- A T read answered with word 0 of voice record 0 is a frame start: the frame counter rises, and so do, in every
state with frame starts, the pending frames, which stop at 255; in PERFORMING the silence counter rises until it holds
a nonzero SILENCE_LIMIT, and otherwise the scan monitor stays as it was; a nonzero reversal hold count falls, and when
it reaches 0 the sounding direction is tested again (REVERSAL_HOLD_END); in TRANSPARENT the control unit and the logs
stay as they were (R52, R60, R94, R128, R129). SCAN_SILENCE_TRIP: the frame start that brings the silence counter to
SILENCE_LIMIT in PERFORMING puts every position up without events, flushes the queue, sets a release-all pending and
raises SCAN_SILENT (R52, R53). A frame start in PERFORMING or SETTLING tests a pending swap: it waits while the P
write queue holds a write into its bank; otherwise the active bank changes, and the swap completes with SWAP_DONE, but
a RESTRIKE in PERFORMING starts the restrike walk instead (R153, R154, R140). The model's own conventions: a row of a
frame start stands for the answer that is that frame start (assumption 4), which command the result belongs to
(assumption 24), and the order of the blocks (assumption 26). -/
def Obligations.FrameStartsCountAndTripTheWatchdog : Prop :=
  (∀ (s : State) (f : FrameCause), wouldFrame s f = true →
    let i : Instr := match f with
      | .completes w => .tReadCompletes (.done w)
      | .heldRead r => .tRead r
    ∃ t, exec i s = .next t ∧ t.tone.frame = s.tone.frame + 1 ∧ t.tone.service = none ∧
      (∃ ws, t.ports = { s.ports with tAnswer := some (.accept ws) }) ∧
      t.eng.pendingFrames = (if s.eng.pendingFrames < 255 then s.eng.pendingFrames + 1 else s.eng.pendingFrames) ∧
      (s.ctrl.op = .transparent → t.eng = { s.eng with pendingFrames := t.eng.pendingFrames }) ∧
      (s.ctrl.op = .performing → s.ctrl.copy.silenceLimit.toNat ≠ 0 →
        s.scan.silence < s.ctrl.copy.silenceLimit.toNat → t.scan.silence = s.scan.silence + 1 ∧
        (s.scan.silence + 1 ≠ s.ctrl.copy.silenceLimit.toNat →
          t.scan = { s.scan with silence := s.scan.silence + 1 } ∧ t.eng.releaseAll = s.eng.releaseAll ∧
          t.stat.flags.getLsbD 3 = s.stat.flags.getLsbD 3)) ∧
      (s.ctrl.op ≠ .performing ∨ s.ctrl.copy.silenceLimit.toNat = 0 ∨
          s.ctrl.copy.silenceLimit.toNat ≤ s.scan.silence →
        t.scan = s.scan ∧ t.stat.flags.getLsbD 3 = s.stat.flags.getLsbD 3) ∧
      (s.bellows.hold = 0 → t.bellows.hold = 0 ∧ t.bellows.dir = s.bellows.dir) ∧
      (1 < s.bellows.hold → t.bellows.hold = s.bellows.hold - 1 ∧ t.bellows.dir = s.bellows.dir) ∧
      (s.bellows.hold = 1 → exec (.reversalHoldEnd f) s = .next t ∧
        (s.bellows.motion.dir? ≠ none → s.bellows.motion.dir? ≠ some s.bellows.dir →
          s.bellows.motion.dir? = some t.bellows.dir ∧ t.bellows.hold = s.ctrl.copy.reverseHold.toNat ∧
          t.bellows.reversals = s.bellows.reversals + 1 ∧
          (s.ctrl.op = .performing → t.bellows.revNotice = some t.bellows.dir)) ∧
        (s.bellows.motion.dir? = none ∨ s.bellows.motion.dir? = some s.bellows.dir →
          t.bellows = { s.bellows with hold := 0, levelNotice := t.bellows.levelNotice })) ∧
      t.bellows.magnitude = s.bellows.magnitude ∧ t.bellows.motion = s.bellows.motion ∧
      (s.ctrl.op = .transparent → t.ctrl = s.ctrl ∧ StatusKept s t)) ∧
  (∀ (s : State) (f : FrameCause), wouldFrame s f = true → s.ctrl.op = .performing → s.ctrl.swap = none →
    s.ctrl.copy.silenceLimit.toNat ≠ 0 → s.scan.silence + 1 = s.ctrl.copy.silenceLimit.toNat →
    ∃ t, exec (.scanSilenceTrip f) s = .next t ∧ (∀ p, t.scan.down.get p = .up) ∧ t.scan.events = [] ∧
      t.scan.silence = s.scan.silence + 1 ∧
      t.eng = { s.eng with
        releaseAll := true
        pendingFrames := if s.eng.pendingFrames < 255 then s.eng.pendingFrames + 1 else s.eng.pendingFrames } ∧
      t.stat.flags = s.stat.flags ||| 8 ∧ t.tone.frame = s.tone.frame + 1 ∧ t.ctrl = s.ctrl ∧ t.voice = s.voice ∧
      t.map = s.map ∧ t.player = s.player ∧ t.stat.faultLog = s.stat.faultLog ∧ t.stat.counters = s.stat.counters) ∧
  (∀ (s : State) (f : FrameCause) (x : Swap), wouldFrame s f = true → s.ctrl.op = .performing ∨ s.ctrl.op = .settling →
    s.ctrl.swap = some x → x.taken = false →
    let i : Instr := match f with
      | .completes w => .tReadCompletes (.done w)
      | .heldRead r => .tRead r
    ∃ t, exec i s = .next t ∧ t.tone.frame = s.tone.frame + 1 ∧ t.map.cache = s.map.cache ∧ t.map.sects = s.map.sects ∧
      t.player = s.player ∧ t.ctrl.guard = s.ctrl.guard ∧ t.voice.queue = s.voice.queue ∧
      (holdsBank s x.incoming = true → t.ctrl.bank = s.ctrl.bank ∧ t.ctrl.swap = some x ∧
        t.eng.restrikeWalk = s.eng.restrikeWalk ∧ t.stat.flags.getLsbD 1 = s.stat.flags.getLsbD 1) ∧
      (holdsBank s x.incoming = false → t.ctrl.bank = x.incoming ∧
        (x.mode = .latch ∨ s.ctrl.op = .settling → t.ctrl.swap = none ∧ t.eng.restrikeWalk = s.eng.restrikeWalk ∧
          t.stat.flags.getLsbD 1 = true ∧ (s.stat.awaited = .swap → t.stat.result = .done) ∧
          (s.stat.awaited ≠ .swap → s.ctrl.op = .performing ∨ s.stat.awaited ≠ .settle →
            t.stat.result = s.stat.result)) ∧
        (x.mode = .restrike → s.ctrl.op = .performing → t.ctrl.swap = some { x with taken := true } ∧
          t.eng.restrikeWalk = true ∧ t.stat.flags.getLsbD 1 = s.stat.flags.getLsbD 1 ∧
          t.stat.result = s.stat.result)))

/-- A frame start in SETTLING that finds the sounding order empty ends it: TRANSPARENT, SETTLED, and DONE for the
STANDBY if no later command has been taken (R173, R175). SETTLE_CUT, the frame start that brings settle frames to
SETTLE_FRAMES with voices in the order, and SETTLE_TIMER_END, 100 ms after the entry: a hush is pending that ends the
current item, unless one is pending or running already (R174). The model's own conventions: a row of a frame start
stands for the answer that is that frame start (assumption 4); the timer's end carries the timebase to the limit
(assumption 7); which command the result belongs to (assumption 24); the order of the blocks (assumption 26); an
announced hush ends a waiting item at that moment (assumption 6). -/
def Obligations.SettlingEndsByFramesOrByACut : Prop :=
  (∀ (s : State) (f : FrameCause), wouldFrame s f = true → s.ctrl.op = .settling → s.ctrl.swap = none →
    s.eng.order = [] → s.ctrl.settleCut = false →
    let i : Instr := match f with
      | .completes w => .tReadCompletes (.done w)
      | .heldRead r => .tRead r
    ∃ t, exec i s = .next t ∧ t.ctrl.op = .transparent ∧ t.ctrl.settleTimer = none ∧ t.ctrl.settleCut = false ∧
      t.ctrl.sustain = ((s.ctrl.valid && s.ctrl.copy.sustEnable && s.ctrl.sustReading) || s.ctrl.sustainFlag) ∧
      t.eng.releaseAll = false ∧ t.eng.held = [] ∧ t.eng.revWalk = none ∧ t.bellows.levelNotice = none ∧
      t.stat.flags = s.stat.flags ||| 4 ∧
      t.stat.result = (if s.stat.awaited = .settle then .done else s.stat.result) ∧
      t.tone.frame = s.tone.frame + 1 ∧ t.eng.mirror = s.eng.mirror ∧ t.eng.free = s.eng.free ∧
      t.voice.queue = s.voice.queue ∧ t.scan = s.scan ∧ t.stat.counters = s.stat.counters ∧
      t.stat.faultLog = s.stat.faultLog) ∧
  (∀ s : State, s.ctrl.op = .settling →
    (∀ f : FrameCause, wouldFrame s f = true → s.ctrl.swap = none → s.eng.order ≠ [] → s.ctrl.settleCut = false →
      s.ctrl.settleFrames < 255 → s.ctrl.copy.settleFrames.toNat ≤ s.ctrl.settleFrames + 1 →
      ∃ t, exec (.settleCut f) s = .next t ∧
        t.ctrl = { s.ctrl with
          settleFrames := s.ctrl.settleFrames + 1, settleCut := true, settleTimer := none } ∧
        (itemIsHush s.eng = false ∧ s.eng.hushPending = .clear → t.eng.hushPending = .cutOnly ∧ t.eng.item = none) ∧
        (itemIsHush s.eng = true ∨ s.eng.hushPending ≠ .clear → t.eng.hushPending = s.eng.hushPending ∧
          t.eng.item = s.eng.item) ∧
        t.eng.mirror = s.eng.mirror ∧ t.eng.order = s.eng.order ∧ t.eng.held = s.eng.held ∧ t.scan = s.scan ∧
        t.tone.frame = s.tone.frame + 1 ∧ StatusKept s t) ∧
    (∀ t₀, s.ctrl.settleTimer = some t₀ →
      ∃ t, exec .settleTimerEnd s = .next t ∧ t.timebase = max s.timebase (t₀ + 100000) ∧
        t.ctrl = { s.ctrl with settleCut := true, settleTimer := none } ∧
        (itemIsHush s.eng = false ∧ s.eng.hushPending = .clear → t.eng.hushPending = .cutOnly ∧ t.eng.item = none) ∧
        (itemIsHush s.eng = true ∨ s.eng.hushPending ≠ .clear → t.eng.hushPending = s.eng.hushPending ∧
          t.eng.item = s.eng.item) ∧
        t.eng.mirror = s.eng.mirror ∧ t.eng.order = s.eng.order ∧ t.eng.held = s.eng.held ∧ t.scan = s.scan ∧
        t.bellows = s.bellows ∧ StatusKept s t))

/-! ### The voicing engine (Chapters 6 and 8) -/

/-- Work selection: in the working states an engine with no current item takes the available item that stands first in
the table of R95, and takes nothing when it has an item, when nothing is available, and in HELD and INIT (R95, R111).
The command of an item that is not taken changes nothing. The model's own conventions: a command that stands for
nothing that happens changes nothing (assumption 2); the rank is tested when the item's command comes (assumption 25);
of items that become available together the higher rank is taken (assumption 32). -/
def Obligations.TheFirstAvailableItemIsTaken : Prop :=
  ∀ (s : State) (x : Sel),
    (Takes s x ↔ s.eng.item = none ∧
      (s.ctrl.op = .transparent ∨ s.ctrl.op = .performing ∨ s.ctrl.op = .settling) ∧ Available s x ∧
      ∀ y : Sel, y.rank < x.rank → ¬Available s y) ∧
    (¬Takes s x → exec x.command s = .next s)

/-- Allocation (R88, R103): a section with budget 0 has every layer dropped; below its budget a section takes the head
of the free list, or else steals the oldest RELEASING slot of any section; at its budget it steals its own oldest
RELEASING slot, or, under TAKE_OLDEST, its oldest SOUNDING slot that the current group has not started; a layer that
finds none is dropped. The model's own conventions: the choice is made when the step begins (assumption 14); for a
budget of 0 with voices left in the section the sentences of R88 and R103 are followed against cases 2a and 2b of
R103's table (assumption 35). -/
def Obligations.AllocationTakesTheFirstCaseThatHolds : Prop :=
  ∀ (s : State) (k : SectNo),
    let e := s.eng
    let r := s.map.sects.get k
    (r.budget = 0 → allocate s k = .drop .budget) ∧
    (∀ i l, e.counts.get k < r.budget → e.free = i :: l → allocate s k = .take i false) ∧
    (∀ i, e.counts.get k < r.budget → e.free = [] →
      e.order.find? (fun j => decide ((e.mirror.get j).state = .releasing)) = some i → allocate s k = .take i true) ∧
    (e.counts.get k < r.budget → e.free = [] → (∀ j ∈ e.order, (e.mirror.get j).state ≠ .releasing) →
      allocate s k = .drop .exhausted) ∧
    (∀ i, r.budget ≠ 0 → r.budget ≤ e.counts.get k →
      e.order.find? (fun j => decide ((e.mirror.get j).state = .releasing ∧ (e.mirror.get j).sect = k)) = some i →
      allocate s k = .take i true) ∧
    (∀ i, r.budget ≠ 0 → r.budget ≤ e.counts.get k → r.policy = .takeOldest →
      (∀ j ∈ e.order, ¬((e.mirror.get j).state = .releasing ∧ (e.mirror.get j).sect = k)) →
      e.order.find? (fun j => decide ((e.mirror.get j).state = .sounding ∧ (e.mirror.get j).sect = k) &&
        !(startedByGroup s.voice).contains j) = some i → allocate s k = .take i true) ∧
    (r.budget ≤ e.counts.get k →
      (∀ j ∈ e.order, ¬((e.mirror.get j).state = .releasing ∧ (e.mirror.get j).sect = k)) →
      r.policy = .keep ∨ (∀ j ∈ e.order, (e.mirror.get j).state = .sounding → (e.mirror.get j).sect = k →
        j ∈ startedByGroup s.voice) → allocate s k = .drop .budget)

/-- HUSH_ITEM, with room to push: every slot of the sounding order is written FREE in one group, the table is emptied,
and release-all, pending frames and the walks are cleared; a stopped restrike walk completes its swap; HUSHED is
raised for a hush source, not for a settle cut alone. During a settle cut its end ends SETTLING: TRANSPARENT, with a
pending swap tested there, SETTLED, and DONE for the STANDBY if no later command has been taken (R109, R133, R153,
R173, R174, R175). The model's own conventions: an item runs in one step until it has to wait (assumption 5); which
command the result belongs to (assumption 24). -/
def Obligations.AHushFreesEverySlot : Prop :=
  ∀ s : State, Takes s .hush → SlotLaw s → RoomFor s s.eng.order.length →
    ∃ t, exec .hushItem s = .next t ∧ t.eng.order = [] ∧ t.eng.free = s.eng.free ++ s.eng.order ∧ t.eng.held = [] ∧
      (∀ i ∈ s.eng.order, t.eng.mirror.get i =
        { s.eng.mirror.get i with state := .free, owner := none, countdown := none }) ∧
      (∀ i ∈ s.eng.free, t.eng.mirror.get i = s.eng.mirror.get i) ∧
      t.voice.queue = s.voice.queue ++ s.eng.order.map (fun i =>
        { slot := i, body := .state (voiceWord0 .free false 0 0 (s.eng.mirror.get i).gen 0)
          tag := some s.voice.nextTag }) ∧
      t.eng.item = none ∧ t.eng.hushPending = .clear ∧ t.eng.releaseAll = false ∧ t.eng.pendingFrames = 0 ∧
      t.eng.revWalk = none ∧ t.eng.sustainWalk = false ∧ t.eng.restrikeWalk = false ∧ t.eng.sweep = none ∧
      t.scan = s.scan ∧ OutsideKept s t ∧ t.map = s.map ∧
      (s.ctrl.settleCut = false → t.bellows = s.bellows ∧
        t.ctrl = { s.ctrl with swap := if s.eng.restrikeWalk then none else s.ctrl.swap } ∧
        t.stat.flags = (if s.eng.hushPending = .source then s.stat.flags ||| 64 else s.stat.flags) |||
          (if s.eng.restrikeWalk then 2 else 0)) ∧
      (s.ctrl.settleCut = true → t.ctrl.op = .transparent ∧ t.ctrl.settleTimer = none ∧ t.ctrl.settleCut = false ∧
        t.ctrl.sustain = ((s.ctrl.valid && s.ctrl.copy.sustEnable && s.ctrl.sustReading) || s.ctrl.sustainFlag) ∧
        t.bellows = { s.bellows with levelNotice := none } ∧
        (s.stat.awaited = .settle → t.stat.result = .done) ∧
        t.stat.flags.getLsbD 2 = true ∧
        t.stat.flags.getLsbD 6 = (s.stat.flags.getLsbD 6 || decide (s.eng.hushPending = .source)) ∧
        (∀ i ∈ [0, 3, 4, 5], t.stat.flags.getLsbD i = s.stat.flags.getLsbD i) ∧
        (s.eng.restrikeWalk = true → t.ctrl.swap = none ∧ t.ctrl.bank = s.ctrl.bank ∧ t.stat.flags.getLsbD 1 = true) ∧
        (s.eng.restrikeWalk = false → ∀ x, s.ctrl.swap = some x →
          (x.taken = false → holdsBank s x.incoming = false →
            t.ctrl.bank = x.incoming ∧ t.ctrl.swap = none ∧ t.stat.flags.getLsbD 1 = true) ∧
          (x.taken = true ∨ holdsBank s x.incoming = true →
            t.ctrl.bank = s.ctrl.bank ∧ t.ctrl.swap = some x ∧ t.stat.flags.getLsbD 1 = s.stat.flags.getLsbD 1)) ∧
        (s.eng.restrikeWalk = false → s.ctrl.swap = none →
          t.ctrl.bank = s.ctrl.bank ∧ t.ctrl.swap = none ∧ t.stat.flags.getLsbD 1 = s.stat.flags.getLsbD 1))

/-- RELEASE_ALL: the item ends with the table empty, or waits for room to push. With an empty table it does nothing.
Otherwise the oldest record, with room, has its voices released in a group of its own by their latches and leaves the
table, and the item goes on as a release-all of the table that is left; so with room for all of it every record is
released, oldest first, and the table is empty (R107, R110, R119, R132). The model's own conventions: an item runs in
one step until it has to wait (assumption 5). -/
def Obligations.ReleaseAllReleasesAndRemovesRecords : Prop :=
  ∀ s : State, Takes s .releaseAll →
    (∃ t, exec .releaseAll s = .next t ∧ t.eng.releaseAll = false ∧ t.bellows = s.bellows ∧ t.scan = s.scan ∧
      t.ctrl = s.ctrl ∧ t.map = s.map ∧ OutsideKept s t ∧ StatusKept s t ∧
      ((t.eng.item = none ∧ t.eng.held = []) ∨
        ∃ it pu, t.eng.item = some it ∧ it.kind = .releaseAll ∧ it.wait = .push pu ∧ canPush t pu = false) ∧
      (s.eng.held = [] → t.eng = { s.eng with releaseAll := false } ∧ t.voice.queue = s.voice.queue)) ∧
    (∀ r rest, s.eng.held = r :: rest → HeldLaw s → Ordered s r.voices → r.voices = [] ∨ RoomFor s r.voices.length →
      ∃ u, Released s u r.pos r.voices ∧ exec .releaseAll s = exec .releaseAll u ∧ Takes u .releaseAll ∧
        u.eng = { s.eng with
          mirror := u.eng.mirror, free := u.eng.free, order := u.eng.order, counts := u.eng.counts
          held := rest, revWalk := placeLeaving r.pos s.eng, sweep := u.eng.sweep } ∧
        u.voice.nextTag = (if r.voices = [] then s.voice.nextTag else if s.voice.nextTag < 15 then s.voice.nextTag + 1
          else 1) ∧
        u.bellows = s.bellows ∧ u.scan = s.scan ∧ u.ctrl = s.ctrl ∧ u.map = s.map ∧ OutsideKept s u ∧
        StatusKept s u) ∧
    (HeldLaw s → SlotLaw s → (∀ g ∈ s.voice.groups, g.filling = false) →
      s.voice.queue.length + (s.eng.held.flatMap (·.voices)).length ≤ 32 →
      s.voice.groups.length + (s.eng.held.filter fun r => decide (r.voices ≠ [])).length ≤ 4 →
      let all := s.eng.held.flatMap (·.voices)
      ∃ t, exec .releaseAll s = .next t ∧ t.eng.item = none ∧ t.eng.held = [] ∧
        t.voice.queue.map (·.slot) = s.voice.queue.map (·.slot) ++ all ∧
        (∀ i, t.eng.mirror.get i = if i ∈ all then releasedRec s i else s.eng.mirror.get i) ∧
        t.eng.free = s.eng.free ++ all.filter (fun i =>
          decide ((s.map.sects.get (s.eng.mirror.get i).sect).latch = 0)) ∧
        t.eng.order = s.eng.order.filter (fun i => !(all.contains i &&
          decide ((s.map.sects.get (s.eng.mirror.get i).sect).latch = 0))) ∧
        (s.eng.held ≠ [] → s.eng.revWalk ∈ s.eng.held.map (some ·.pos) → t.eng.revWalk = none))

/-- The two notices (R63, R135, R145): the notice becomes absent, the applied value takes it, and the reversal walk
starts or restarts at the oldest record, or the level sweep at the head of the sounding order. Everything else, the
tracker's other fields among them, is left as it is, and no write is pushed. -/
def Obligations.NoticesStartTheirWalks : Prop :=
  ∀ s : State,
    (∀ d, Takes s .takeReversal → s.bellows.revNotice = some d → exec .takeReversalNotice s = .next { s with
      bellows := { s.bellows with revNotice := none }
      eng := { s.eng with appliedDir := d, revWalk := s.eng.held.head?.map (·.pos) } }) ∧
    (∀ m, Takes s .takeLevel → s.bellows.levelNotice = some m → exec .takeLevelNotice s = .next { s with
      bellows := { s.bellows with levelNotice := none }
      eng := { s.eng with appliedMag := m, sweep := s.eng.order.head? } })

/-- REVERSAL_WALK_STEP: a sustained record and one in the applied direction are passed by; a HOLD record turns and
keeps its voices; a CUT record turns and its voices are released in one group; a REPITCH record does so and asks for
its program in the new direction, at once or after an answer awaited for discard (R97); with an absent program its
step ends there. The place moves on (R136, R137, R138, R139). The model's own conventions: an item runs in one step
until it has to wait (assumption 5). -/
def Obligations.TheReversalWalkTurnsRecords : Prop :=
  ∀ (s : State) (p : Pos) (r : HeldRec), Takes s .reversalStep → s.eng.revWalk = some p → findRec s.eng p = some r →
    s.ctrl.op = .performing → Ordered s r.voices →
    RoomFor s r.voices.length →
    (r.sustained = true ∨ r.dir = s.eng.appliedDir → ∃ t, exec .reversalWalkStep s = .next t ∧
      t.eng = { s.eng with revWalk := nextAfter p (s.eng.held.map (·.pos)), item := none } ∧
      t.voice.queue = s.voice.queue) ∧
    (r.sustained = false → r.dir ≠ s.eng.appliedDir → r.snap.policy = .hold →
      ∃ t, exec .reversalWalkStep s = .next t ∧ t.eng = { s.eng with
        revWalk := nextAfter p (s.eng.held.map (·.pos)), item := none
        held := s.eng.held.map fun x => if x.pos = p then { x with dir := s.eng.appliedDir } else x } ∧
      t.voice.queue = s.voice.queue) ∧
    (r.sustained = false → r.dir ≠ s.eng.appliedDir → r.snap.policy = .cut →
      ∃ t, exec .reversalWalkStep s = .next t ∧ Released s t p r.voices ∧ t.eng.item = none ∧
        t.eng.revWalk = nextAfter p (s.eng.held.map (·.pos)) ∧
        t.eng.held = withoutSlots r.voices (s.eng.held.map fun x =>
          if x.pos = p then { x with dir := s.eng.appliedDir } else x) ∧ OutsideKept s t ∧ StatusKept s t) ∧
    (∀ n, r.sustained = false → r.dir ≠ s.eng.appliedDir → r.snap.policy = .repitch →
      r.snap.program s.eng.appliedDir = some n →
      ∃ t, exec .reversalWalkStep s = .next t ∧ Releasing s t p r.voices ∧ t.eng.revWalk = some p ∧
        t.eng.item = some { kind := .reversalStep p, wait := programWait s p, jobs := [] } ∧
        t.eng.held = withoutSlots r.voices (s.eng.held.map fun x =>
          if x.pos = p then { x with dir := s.eng.appliedDir } else x) ∧
        (s.eng.awaitDiscard = false → s.map.fetch = none → Chosen s t (.program n)) ∧
        OutsideKept s t ∧ StatusKept s t) ∧
    (r.sustained = false → r.dir ≠ s.eng.appliedDir → r.snap.policy = .repitch →
      r.snap.program s.eng.appliedDir = none →
      ∃ t, exec .reversalWalkStep s = .next t ∧ Released s t p r.voices ∧ t.eng.item = none ∧
        t.eng.revWalk = nextAfter p (s.eng.held.map (·.pos)) ∧
        t.eng.held = withoutSlots r.voices (s.eng.held.map fun x =>
          if x.pos = p then { x with dir := s.eng.appliedDir } else x) ∧ OutsideKept s t ∧ StatusKept s t)

/-- FRAME_EXPIRY: the pending frames are taken off every RELEASING countdown, and with room to push each slot whose
countdown has come to 0 is written FREE, ungrouped, in sounding order, and the place of a level sweep passes over those
freed (R94, R108, R132). The model's own conventions: an item runs in one step until it has to wait (assumption 5). -/
def Obligations.FrameExpiryFreesTheExpired : Prop :=
  ∀ s : State, Takes s .expiry → SlotLaw s →
    let gone := s.eng.order.filter fun i => decide ((s.eng.mirror.get i).state = .releasing ∧
      ∃ c ∈ (s.eng.mirror.get i).countdown, c ≤ s.eng.pendingFrames)
    s.voice.queue.length + gone.length ≤ 32 →
    ∃ t, exec .frameExpiry s = .next t ∧ t.eng.pendingFrames = 0 ∧ t.eng.item = none ∧
      t.voice.queue = s.voice.queue ++ gone.map (fun i =>
        { slot := i, body := .state (voiceWord0 .free false 0 0 (s.eng.mirror.get i).gen 0), tag := none }) ∧
      t.eng.order = s.eng.order.filter (fun i => !gone.contains i) ∧ t.eng.free = s.eng.free ++ gone ∧
      t.eng.sweep = sweepPassing gone s.eng ∧ t.eng.revWalk = s.eng.revWalk ∧
      (HeldLaw s → t.eng.held = s.eng.held) ∧
      (∀ i, t.eng.mirror.get i =
        if i ∈ gone then { s.eng.mirror.get i with state := .free, owner := none, countdown := none }
        else if (s.eng.mirror.get i).state = .releasing then
          { s.eng.mirror.get i with countdown := (s.eng.mirror.get i).countdown.map (· - s.eng.pendingFrames) }
        else s.eng.mirror.get i) ∧
      t.bellows = s.bellows ∧ t.scan = s.scan ∧ t.ctrl = s.ctrl ∧ t.map = s.map ∧ OutsideKept s t ∧ StatusKept s t

/-- PRESS. Of a position with no record: a full table drops it, counted and flagged; a hit in the map cache makes its
record in the applied direction at the tail, with no program from an invalid entry or a bad one, which is logged; a miss
asks for the entry in the active bank, and the item waits, for its fetch or first for an answer awaited for discard
(R97). Of a position with a sustained record: its voices are released first, in the group of the press, the record
leaves the table, with it the place of a reversal walk that stands there, and the press goes on the same way (R70, R76,
R101, R105, R107, R132). The model's own conventions: an item runs in one step until it has to wait (assumption 5);
while an answer is awaited for discard, a hit is served at once, and a miss waits and looks its entry up again after the
answer (assumption 23). -/
def Obligations.APressMakesARecordOrIsDropped : Prop :=
  ∀ (s : State) (p : Pos) (evs : List ButtonEvent), Takes s .press →
    s.scan.events = { isPress := true, pos := p } :: evs → s.ctrl.op = .performing →
    (findRec s.eng p = none →
      (32 ≤ s.eng.held.length → ∃ t, exec .press s = .next t ∧ t.scan = { s.scan with events := evs } ∧
        t.eng = { s.eng with item := none } ∧ t.stat.flags = s.stat.flags ||| 16 ∧
        t.stat.counters = { s.stat.counters with
          dropHeldFull := if s.stat.counters.dropHeldFull < 65535 then s.stat.counters.dropHeldFull + 1
            else s.stat.counters.dropHeldFull } ∧ t.voice.queue = s.voice.queue ∧ OutsideKept s t) ∧
      (∀ c e, s.eng.held.length < 32 → lookupEntry s.ctrl.bank p s.map.cache = some c → Judged c.word e →
        ∃ t, exec .press s = .next t ∧ t.scan = { s.scan with events := evs } ∧
          t.eng.held = s.eng.held ++ [newRecord s p e] ∧
          t.map.cache = c :: s.map.cache.filter (fun x => !decide (x.bank = c.bank ∧ x.pos = c.pos)) ∧
          (e.program s.eng.appliedDir = none → t.eng.item = none) ∧
          (∀ n, e.program s.eng.appliedDir = some n →
            t.eng.item = some { kind := .press p, wait := programWait s p, jobs := [] } ∧
            (s.eng.awaitDiscard = false → s.map.fetch = none → Chosen s t (.program n))) ∧
          t.voice.queue = s.voice.queue ∧ OutsideKept s t ∧ EntryLogged p c.word s t) ∧
      (s.eng.held.length < 32 → lookupEntry s.ctrl.bank p s.map.cache = none →
        ∃ t, exec .press s = .next t ∧ t.scan = { s.scan with events := evs } ∧
          t.eng = { s.eng with item := some { kind := .press p, wait := entryWait s p, jobs := [] } } ∧
          (s.eng.awaitDiscard = false → s.map.fetch = none → Chosen s t (.entry s.ctrl.bank p)) ∧
          t.map.cache = s.map.cache ∧ t.voice = s.voice ∧ OutsideKept s t ∧ StatusKept s t)) ∧
    (∀ r, findRec s.eng p = some r → s.eng.held.length ≤ 32 → Ordered s r.voices → RoomFor s r.voices.length →
      let others := (withoutSlots r.voices s.eng.held).filter fun x => decide (x.pos ≠ p)
      (∀ c e, lookupEntry s.ctrl.bank p s.map.cache = some c → Judged c.word e →
        ∃ t, exec .press s = .next t ∧ t.scan = { s.scan with events := evs } ∧
          t.eng.held = others ++ [newRecord s p e] ∧ t.eng.revWalk = placeLeaving p s.eng ∧
          t.map.cache = c :: s.map.cache.filter (fun x => !decide (x.bank = c.bank ∧ x.pos = c.pos)) ∧
          (e.program s.eng.appliedDir = none → t.eng.item = none ∧ Released s t p r.voices) ∧
          (∀ n, e.program s.eng.appliedDir = some n → Releasing s t p r.voices ∧
            t.eng.item = some { kind := .press p, wait := programWait s p, jobs := [] } ∧
            (s.eng.awaitDiscard = false → s.map.fetch = none → Chosen s t (.program n))) ∧
          OutsideKept s t ∧ EntryLogged p c.word s t) ∧
      (lookupEntry s.ctrl.bank p s.map.cache = none →
        ∃ t, exec .press s = .next t ∧ t.scan = { s.scan with events := evs } ∧ t.eng.held = others ∧
          t.eng.revWalk = placeLeaving p s.eng ∧
          t.eng.item = some { kind := .press p, wait := entryWait s p, jobs := [] } ∧ Releasing s t p r.voices ∧
          (s.eng.awaitDiscard = false → s.map.fetch = none → Chosen s t (.entry s.ctrl.bank p)) ∧
          t.map.cache = s.map.cache ∧ OutsideKept s t ∧ StatusKept s t))

/-- RELEASE: a position with no record changes nothing but the queue; with sustain on its record is marked sustained;
with sustain off its voices are released in one group and the record leaves the table. A SUSTAIN_OFF_WALK_STEP does the
last to the oldest sustained record, and ends the walk when there is none or sustain is on. The place of a reversal walk
at a record that leaves moves to the record that followed it, and that of a level sweep passes over the slots that are
freed (R106, R107, R132, R144). The model's own conventions: an item runs in one step until it has to wait (assumption
5). -/
def Obligations.ReleasesFollowSustain : Prop :=
  ∀ s : State,
    (∀ p evs, Takes s .release → s.scan.events = { isPress := false, pos := p } :: evs →
      (findRec s.eng p = none → ∃ t, exec .release s = .next t ∧ t.scan = { s.scan with events := evs } ∧
        t.eng = s.eng ∧ t.voice.queue = s.voice.queue ∧ OutsideKept s t ∧ StatusKept s t) ∧
      (∀ r, findRec s.eng p = some r → s.ctrl.sustain = true →
        ∃ t, exec .release s = .next t ∧ t.scan = { s.scan with events := evs } ∧
          t.eng = { s.eng with held := s.eng.held.map fun x => if x.pos = p then { x with sustained := true } else x } ∧
          t.voice.queue = s.voice.queue ∧ OutsideKept s t ∧ StatusKept s t) ∧
      (∀ r, findRec s.eng p = some r → s.ctrl.sustain = false → Ordered s r.voices →
        RoomFor s r.voices.length →
        ∃ t, exec .release s = .next t ∧ t.scan = { s.scan with events := evs } ∧ Released s t p r.voices ∧
          t.eng.held = (withoutSlots r.voices s.eng.held).filter (fun x => decide (x.pos ≠ p)) ∧
          t.eng.revWalk = placeLeaving p s.eng ∧ t.eng.item = none ∧ OutsideKept s t ∧ StatusKept s t)) ∧
    (Takes s .sustainStep →
      (s.ctrl.sustain = true ∨ (∀ r ∈ s.eng.held, r.sustained = false) →
        exec .sustainOffWalkStep s = .next { s with eng := { s.eng with sustainWalk := false } }) ∧
      (∀ r, s.ctrl.sustain = false → s.eng.held.find? (·.sustained) = some r → Ordered s r.voices →
        RoomFor s r.voices.length →
        ∃ t, exec .sustainOffWalkStep s = .next t ∧ Released s t r.pos r.voices ∧
          t.eng.held = (withoutSlots r.voices s.eng.held).filter (fun x => decide (x.pos ≠ r.pos)) ∧
          t.eng.revWalk = placeLeaving r.pos s.eng ∧ t.eng.item = none ∧ t.eng.sustainWalk = s.eng.sustainWalk ∧ t.scan = s.scan ∧ OutsideKept s t ∧
          StatusKept s t))

/-- RESTRIKE_WALK_STEP: with no unsustained record off the active bank the walk ends and completes the swap; otherwise
the oldest such record asks for its entry in the active bank. A hit, an invalid entry and a bad one among them, replaces
its snapshot and its bank, and its voices are released; an entry with a program for the record's direction then asks for
that program, in the same group (R70, R140, R141, R154). The model's own conventions: an item runs in one step until it
has to wait (assumption 5); which command the result belongs to (assumption 24); while an answer is awaited for discard,
a hit is served at once, and a miss waits (R97) and looks its entry up again after the answer (assumption 23). -/
def Obligations.TheRestrikeWalkReentersRecords : Prop :=
  ∀ s : State, Takes s .restrikeStep → s.eng.restrikeWalk = true →
    ((∀ r ∈ s.eng.held, r.sustained = true ∨ r.bank = s.ctrl.bank) →
      ∃ t, exec .restrikeWalkStep s = .next t ∧ t.eng = { s.eng with restrikeWalk := false } ∧
        t.ctrl = { s.ctrl with swap := none } ∧ t.stat.flags = s.stat.flags ||| 2 ∧
        t.stat.result = (if s.stat.awaited = .swap then .done else s.stat.result) ∧ t.voice = s.voice ∧
        t.map = s.map) ∧
    (∀ r, s.eng.held.find? (fun x => !x.sustained && decide (x.bank ≠ s.ctrl.bank)) = some r →
      (lookupEntry s.ctrl.bank r.pos s.map.cache = none →
        ∃ t, exec .restrikeWalkStep s = .next t ∧ t.eng = { s.eng with
          item := some { kind := .restrikeStep r.pos, wait := entryWait s r.pos, jobs := [] } } ∧
          (s.eng.awaitDiscard = false → s.map.fetch = none → Chosen s t (.entry s.ctrl.bank r.pos)) ∧
          t.voice = s.voice ∧ t.map.cache = s.map.cache ∧ StatusKept s t) ∧
      (∀ c e, lookupEntry s.ctrl.bank r.pos s.map.cache = some c → Judged c.word e →
        findRec s.eng r.pos = some r → Ordered s r.voices → RoomFor s r.voices.length →
        ∃ t, exec .restrikeWalkStep s = .next t ∧
          RestrikeEntered s t (programWait s r.pos) s.ctrl.bank r.pos r e ∧
          (∀ n, e.program r.dir = some n → s.ctrl.op = .performing → s.eng.awaitDiscard = false →
            s.map.fetch = none → Chosen s t (.program n)) ∧
          OutsideKept s t ∧ EntryLogged r.pos c.word s t))

/-- LEVEL_SWEEP_STEP: the level by the curve at the applied magnitude, rounded toward zero, with the trim, within
0..255; a level that differs is written, at once with room in the queue, and otherwise the step waits for PUSH_WAIT_END
(R100, R146). PUSH_WAIT_END for every write that waits: nothing moves while the voice write queue is full, or while a
grouped write of an item whose group is not open finds four groups in the table (R119); then the write is the next of
the queue, with its mirror, list and group changes and the places of the walks that follow a slot or a record that
leaves (R132), and its item goes on. A FULL write ends its item instead once PERFORMING is left (R102). INIT's writes of
blank records go out until the queue is full again or all are written (R15). The model's own conventions: an item runs
in one step until it has to wait (assumption 5); the slot, the latch and the level that wait for room are those decided
when the step began (assumption 14); a FULL write whose record has left the table ends its item without the write
(assumption 12). -/
def Obligations.WaitingWritesGoOnAndLevelsAreRewritten : Prop :=
  ∀ s : State,
    (∀ i, Takes s .sweepStep → s.eng.sweep = some i →
      let r := s.eng.mirror.get i
      let c := (s.map.sects.get r.sect).curve
      let m := s.eng.appliedMag
      ∀ (k : Fin 8) (lvl : Nat), m / 256 = k.val →
        lvl = (max 0 (min 255 ((c.get k.castSucc : Int) + (((c.get k.succ : Int) - c.get k.castSucc) *
          ((m : Int) - 256 * k.val)).tdiv 256 + r.trim))).toNat →
        (lvl = r.level → ∃ t, exec .levelSweepStep s = .next t ∧
          t.eng = { s.eng with sweep := nextAfter i s.eng.order } ∧ t.voice.queue = s.voice.queue) ∧
        (lvl ≠ r.level → s.voice.queue.length < 32 → ∃ t, exec .levelSweepStep s = .next t ∧
          t.eng = { s.eng with
            sweep := nextAfter i s.eng.order, mirror := s.eng.mirror.set i { r with level := lvl } } ∧
          t.voice.queue = s.voice.queue ++ [{ slot := i, body := .level (voiceWord2 lvl), tag := none }]) ∧
        (lvl ≠ r.level → 32 ≤ s.voice.queue.length → exec .levelSweepStep s = .next { s with
          eng := { s.eng with item := some { kind := .sweepStep i, wait := .push (.level i lvl), jobs := [] } } })) ∧
    (∀ k pu js, Pushing s k pu js →
      32 ≤ s.voice.queue.length ∨ (pu.grouped = true ∧ 4 ≤ s.voice.groups.length ∧ fillingGroup s.voice = none) →
      ∃ t, exec .pushWaitEnd s = .next t ∧ t.eng = s.eng ∧ t.voice = s.voice ∧ t.tone = s.tone ∧ t.scan = s.scan ∧
        t.bellows = s.bellows ∧ OutsideKept s t ∧ StatusKept s t) ∧
    ((∀ p i st l x d, (Push.full p i st l x d).grouped = true) ∧ (∀ p i n, (Push.releasing p i n).grouped = true) ∧
      (∀ i g, (Push.freeing i g).grouped = g) ∧ (∀ i n, (Push.level i n).grouped = false) ∧
      ∀ i, (Push.blank i).grouped = false) ∧
    (∀ k p i steal l x d js, Pushing s k (.full p i steal l x d) js → GroupRoom s →
      (s.ctrl.op ≠ .performing ∨ findRec s.eng p = none → k ≠ .hush →
        ∃ t, exec .pushWaitEnd s = .next t ∧ t.eng.item = none ∧ t.voice.queue = s.voice.queue ∧
          t.eng.mirror = s.eng.mirror ∧ t.eng.held = s.eng.held ∧ t.eng.order = s.eng.order ∧
          t.eng.free = s.eng.free) ∧
      (∀ r, s.ctrl.op = .performing → findRec s.eng p = some r →
        let lvl := levelOf s.eng.appliedMag (s.map.sects.get l.sect).curve l.trim
        let gen := (s.eng.mirror.get i).gen + 1
        let v : VoiceWrite :=
          { slot := i, tag := some (pushTag s.voice),
            body := .full (voiceWord0 .sounding steal l.sect x gen p.val)
              (voiceWord1 l.patch ((l.note : Int) + r.snap.transpose).toNat l.pan) (voiceWord2 lvl)
              (voiceWord3 s.tone.frame d) }
        ∃ t, exec .pushWaitEnd s = .next t ∧ PushedFirst s t v ∧
          (js = [] → Voices k p → SlotLaw s → i ∈ (if steal then s.eng.order else s.eng.free) →
            PushedLast s t v ∧
            t.eng.mirror.get i = {
              state := .sounding, sect := l.sect, owner := some p, layer := x, trim := l.trim, stolen := steal
              level := lvl, countdown := none, gen := gen } ∧
            (∀ j, j ≠ i → t.eng.mirror.get j = s.eng.mirror.get j) ∧
            t.eng.order = s.eng.order.filter (fun j => decide (j ≠ i)) ++ [i] ∧
            t.eng.free = s.eng.free.filter (fun j => decide (j ≠ i)) ∧
            t.eng.held = (withoutSlots [i] s.eng.held).map (fun y =>
              if y.pos = p then { y with voices := y.voices ++ [i] } else y) ∧
            t.eng.revWalk = placeAfter k s.eng ∧
            t.eng.sweep = (if steal then sweepLeaving i s.eng else s.eng.sweep) ∧
            t.stat.counters = { s.stat.counters with
              steals := if steal ∧ s.stat.counters.steals < 65535 then s.stat.counters.steals + 1
                else s.stat.counters.steals }))) ∧
    (∀ k p i latch js, Pushing s k (.releasing p i latch) js → GroupRoom s →
      let m := s.eng.mirror.get i
      let v : VoiceWrite :=
        { slot := i, tag := some (pushTag s.voice),
          body := .state (voiceWord0 .releasing m.stolen m.sect m.layer m.gen p.val) }
      ∃ t, exec .pushWaitEnd s = .next t ∧ PushedFirst s t v ∧
        (∀ q, i ∈ s.eng.order → (js = [] ∧ k = .reversalStep q) ∨
            (js = [.removeRecord q] ∧ (k = .release q ∨ k = .sustainStep q)) →
          PushedLast s t v ∧ t.eng.order = s.eng.order ∧ t.eng.free = s.eng.free ∧
          t.eng.mirror = s.eng.mirror.set i { m with state := .releasing, owner := none, countdown := some latch } ∧
          t.eng.sweep = s.eng.sweep ∧
          t.eng.revWalk = (if js = [] then placeAfter k s.eng else placeLeaving q s.eng) ∧
          t.eng.held = (if js = [] then withoutSlots [i] s.eng.held
            else (withoutSlots [i] s.eng.held).filter fun y => decide (y.pos ≠ q)))) ∧
    (∀ k i g js, Pushing s k (.freeing i g) js → s.voice.queue.length < 32 → (g = true → GroupRoom s) →
      let m := s.eng.mirror.get i
      let v : VoiceWrite :=
        { slot := i, tag := if g then some (pushTag s.voice) else none,
          body := .state (voiceWord0 .free false 0 0 m.gen 0) }
      ∃ t, exec .pushWaitEnd s = .next t ∧ PushedFirst s t v ∧
        (∀ q, i ∈ s.eng.order → (js = [] ∧ (k = .expiry ∨ k = .reversalStep q)) ∨
            (js = [.removeRecord q] ∧ (k = .release q ∨ k = .sustainStep q)) →
          PushedLast s t v ∧ t.eng.order = s.eng.order.filter (fun j => decide (j ≠ i)) ∧
          t.eng.free = s.eng.free ++ [i] ∧
          t.eng.mirror = s.eng.mirror.set i { m with state := .free, owner := none, countdown := none } ∧
          t.eng.sweep = sweepLeaving i s.eng ∧
          t.eng.revWalk = (if js = [] then placeAfter k s.eng else placeLeaving q s.eng) ∧
          t.eng.held = (if js = [] then withoutSlots [i] s.eng.held
            else (withoutSlots [i] s.eng.held).filter fun y => decide (y.pos ≠ q)))) ∧
    (∀ i rest now later, Pushing s .rebuild (.blank i) (rest.map .blank) → s.eng.order = [] → i :: rest = now ++ later →
      s.voice.queue.length < 32 → s.voice.queue.length + now.length ≤ 32 →
      (later = [] ∨ s.voice.queue.length + now.length = 32) →
      ∃ t, exec .pushWaitEnd s = .next t ∧
        t.voice.queue = s.voice.queue ++ now.map (fun j => { slot := j, body := .full 0 0 0 0, tag := none }) ∧
        (later = [] → t.eng.item = none) ∧
        (∀ j ls, later = j :: ls →
          t.eng.item = some { kind := .rebuild, wait := .push (.blank j), jobs := ls.map .blank }) ∧
        (∀ j, t.eng.mirror.get j = if j ∈ now then SlotRec.reset else s.eng.mirror.get j) ∧
        t.eng.order = [] ∧ t.eng.free = s.eng.free ∧ t.eng.held = s.eng.held ∧ ControlKept s t ∧ CachesKept s t) ∧
    (∀ (i : Slot) (lvl : Nat), s.eng.sweep = some i →
      s.eng.item = some { kind := .sweepStep i, wait := .push (.level i lvl), jobs := [] } →
      (32 ≤ s.voice.queue.length → ∃ t, exec .pushWaitEnd s = .next t ∧ t.eng = s.eng ∧ t.voice = s.voice) ∧
      (s.voice.queue.length < 32 → ∃ t, exec .pushWaitEnd s = .next t ∧
        t.eng = { s.eng with
          item := none, sweep := nextAfter i s.eng.order
          mirror := s.eng.mirror.set i { s.eng.mirror.get i with level := lvl } } ∧
        t.voice.queue = s.voice.queue ++ [{ slot := i, body := .level (voiceWord2 lvl), tag := none }]))

/-! ### Laws that every step keeps -/

/-- Every slot stands in the free list or in the sounding order, once, as the mirror has it, and the section counts
count (R90, R91): every step keeps it. With it, every step keeps the law of the held-button table: at most 32 records,
one for each position, each slot listed once and by one record, and a listed slot SOUNDING with that record's position
as its owner (R92). And with both, and with the law of what a waiting item has still to do (R96), every step keeps that
every SOUNDING slot stands in the voice list of its owner's record, and that no list holds more than 8 (R92). -/
def Obligations.EveryStepKeepsTheSlotAndHeldLaws : Prop :=
  StepKeeps SlotLaw ∧ (StepKeeps fun s => SlotLaw s ∧ HeldLaw s) ∧
  StepKeeps fun s => SlotLaw s ∧ HeldLaw s ∧ ListedLaw s ∧ ItemLaw s

/-- The events of a position alternate and the last agrees with the down image; there are at most 32, and none outside
PERFORMING (R47): every step keeps it, together with the law of the operating state (R8, R9, R156, R158, R164, R168). -/
def Obligations.EveryStepKeepsTheEventLaw : Prop := StepKeeps fun s => ControlLaw s ∧ EventLaw s

/-- The operating state's law (R8, R9, R156, R158, R164) with the command in progress (R168), the sizes of the
collections (R29, R37, R94, R115, R117), the cache's tags (R76) and the tracker's ranges (R56): every step keeps them
together. -/
def Obligations.EveryStepKeepsTheOperatingLaws : Prop :=
  StepKeeps fun s => ControlLaw s ∧ CapacityLaw s ∧ CacheLaw s ∧ TrackerLaw s

/-- Held-read data is in hand or on its way only while no OPEN group touches it, and every step keeps that, together
with the law that at most one group is filling, and none without a current item (R96, R117); so a T read that touches
an OPEN group is never answered with data when it is judged (R122, R124, R125). The model's own conventions: the
answer stands in State (assumption 17). -/
def Obligations.NoOpenGroupIsEverRead : Prop :=
  (∀ (s : State) (r : ReadReq), HeldReadLaw s → TOpen s → s.ctrl.valid = true →
    s.ctrl.copy.check (controlBase s.ctrl.dsel) = none → touchesOpen s r = true →
    ∃ t, exec (.tRead r) s = .next t ∧ t.tone.service = none ∧
      (t.ports.tAnswer = some .defer ∨ t.ports.tAnswer = some .refuse)) ∧
  StepKeeps fun s => HeldReadLaw s ∧ FillLaw s

/-- Once the guard lock is set, no command changes span, mode or lock but the power-on detector becoming active, as a
command of its own or as the level that HELD_RELEASE brings in HELD; both set the power-on values (R10, R161, R162,
R163). The model's own conventions: the levels of RESET and the detector are operands of HELD_RELEASE (assumption 9).
-/
def Obligations.TheGuardLockHoldsUntilPowerOn : Prop :=
  (∀ (i : Instr) (s t : State), s.ctrl.guard.lock = true → i ≠ .powerOnDetect →
    (∀ x d b, i = .heldRelease x false d b → s.ctrl.op = .held → s.pins.detectorActive = true) → exec i s = .next t →
    t.ctrl.guard = s.ctrl.guard) ∧
  ∀ s : State,
    (∃ t, exec .powerOnDetect s = .next t ∧
      t.ctrl.guard = { first := 0, last := 255, mode := .off, lock := false }) ∧
    ∀ x d b, s.ctrl.op = .held → s.pins.detectorActive = false → ∃ t, exec (.heldRelease x false d b) s = .next t ∧
      t.ctrl.guard = { first := 0, last := 255, mode := .off, lock := false }
end

