-- ==== Sys2Proof/Laws/Areas.lean ====
section
/-! SUPPORT. What a descriptor that passes the tests of R8 says about the areas of RAM. -/

namespace Sys2Proof.Machine

/-- Two areas that do not overlap share no address. -/
theorem within_of_not_overlap {b₁ n₁ b₂ n₂ x : Nat} (h : overlap b₁ n₁ b₂ n₂ = false) (h₂ : within b₂ n₂ x = true) :
    within b₁ n₁ x = false := by
  simp only [overlap, within, decide_eq_false_iff_not, decide_eq_true_eq] at *
  omega

/-- A descriptor that fails no test of R8 passes each of them. -/
theorem tests_of_check {d : Desc} {cb : Nat} (h : d.check cb = none) : ∀ t ∈ d.tests cb, t.1 = true := by
  intro t ht
  simp only [Desc.check, Option.map_eq_none_iff, List.find?_eq_none] at h
  simpa using h t ht

/-- The layout that R8 leaves: every region below RAM_TOP, aligned to its size, outside the control block and apart from
every other region. -/
structure Laid (d : Desc) (cb : Nat) : Prop where
  aligned : ∀ r ∈ d.regions, r.base % r.size = 0
  top : ∀ r ∈ d.regions, r.base + r.size ≤ d.top
  control : ∀ r ∈ d.regions, overlap cb 512 r.base r.size = false
  apart : ∀ p ∈ pairs d.regions, overlap p.1.base p.1.size p.2.base p.2.size = false
  topMax : d.ramTop.toNat ≤ 256

theorem laid_of_check {d : Desc} {cb : Nat} (h : d.check cb = none) : Laid d cb := by
  have ht := tests_of_check h
  unfold Desc.tests at ht
  constructor
  · intro r hr
    have := ht (decide (r.base % r.size = 0), r.word) (by
      simp only [List.mem_append, List.mem_map]
      exact Or.inl (Or.inl (Or.inl (Or.inl (Or.inr ⟨r, hr, rfl⟩)))))
    simpa using this
  · intro r hr
    have := ht (decide (r.base + r.size ≤ d.top), r.word) (by
      simp only [List.mem_append, List.mem_map]
      exact Or.inl (Or.inl (Or.inr ⟨r, hr, rfl⟩)))
    simpa using this
  · intro r hr
    have := ht (!overlap cb Config.controlSize r.base r.size, r.word) (by
      simp only [List.mem_append, List.mem_map]
      exact Or.inl (Or.inr ⟨r, hr, rfl⟩))
    simpa [Config.controlSize] using this
  · intro p hp
    have := ht (!overlap p.1.base p.1.size p.2.base p.2.size, p.2.word) (by
      simp only [List.mem_append, List.mem_map]
      exact Or.inr ⟨p, hp, rfl⟩)
    simpa using this
  · have := ht (decide (1 ≤ d.ramTop.toNat ∧ d.ramTop.toNat ≤ 256), 1) (by
      simp)
    simp only [decide_eq_true_eq] at this
    exact this.2

/-- An address of the control block has the area of its offset. -/
theorem areaOf_control {c : Control} {a : Addr} (h₁ : controlBase c.dsel ≤ a.toNat)
    (h₂ : a.toNat < controlBase c.dsel + 512) : areaOf c a = controlPart (a.toNat - controlBase c.dsel) := by
  simp [areaOf, within, Config.controlSize, h₁, h₂]

/-- Outside the control block, without a valid descriptor. -/
theorem areaOf_other {c : Control} {a : Addr} (h : a.toNat < controlBase c.dsel ∨ controlBase c.dsel + 512 ≤ a.toNat)
    (hv : c.valid = false) : areaOf c a = .other := by
  have : within (controlBase c.dsel) 512 a.toNat = false := by simp [within]; omega
  simp [areaOf, Config.controlSize, this, hv]

/-- At or above RAM_TOP. -/
theorem areaOf_beyond {c : Control} {a : Addr} (h : a.toNat < controlBase c.dsel ∨ controlBase c.dsel + 512 ≤ a.toNat)
    (hv : c.valid = true) (ht : c.copy.top ≤ a.toNat) : areaOf c a = .beyond := by
  have : within (controlBase c.dsel) 512 a.toNat = false := by simp [within]; omega
  simp [areaOf, Config.controlSize, this, hv, ht]

section Regions

variable {c : Control} {a : Addr}

/-- An address within a region lies below RAM_TOP and outside the control block. -/
theorem areaOf_region (hv : c.valid = true) (hl : Laid c.copy (controlBase c.dsel)) {r : Region}
    (hr : r ∈ c.copy.regions) (ha : within r.base r.size a.toNat = true) :
    areaOf c a =
      if within c.copy.scan.toNat 512 a.toNat then .scan
      else if within c.copy.mapA.toNat 1024 a.toNat then .mapA
      else if within c.copy.mapB.toNat 1024 a.toNat then .mapB
      else if within c.copy.programs.toNat 32768 a.toNat then .programs
      else if within c.copy.sections.toNat 128 a.toNat then .sections
      else if within c.copy.voices.toNat 1024 a.toNat then .voices
      else .ram := by
  have h₁ := within_of_not_overlap (hl.control r hr) ha
  have h₂ := hl.top r hr
  have h₃ : ¬c.copy.top ≤ a.toNat := by
    simp only [within, decide_eq_true_eq] at ha
    omega
  simp [areaOf, Config.controlSize, h₁, hv, h₃]

/-- Each region's addresses have its area. -/
theorem areaOf_scan (hv : c.valid = true) (hl : Laid c.copy (controlBase c.dsel))
    (ha : within c.copy.scan.toNat 512 a.toNat = true) : areaOf c a = .scan := by
  rw [areaOf_region hv hl (r := ⟨c.copy.scan.toNat, 512, 2⟩) (by simp [Desc.regions]) ha]
  simp [ha]

theorem areaOf_mapA (hv : c.valid = true) (hl : Laid c.copy (controlBase c.dsel))
    (ha : within c.copy.mapA.toNat 1024 a.toNat = true) : areaOf c a = .mapA := by
  rw [areaOf_region hv hl (r := ⟨c.copy.mapA.toNat, 1024, 3⟩) (by simp [Desc.regions]) ha]
  have h₁ := within_of_not_overlap (hl.apart (⟨c.copy.scan.toNat, 512, 2⟩, ⟨c.copy.mapA.toNat, 1024, 3⟩)
    (by simp [pairs, Desc.regions])) ha
  simp_all

theorem areaOf_mapB (hv : c.valid = true) (hl : Laid c.copy (controlBase c.dsel))
    (ha : within c.copy.mapB.toNat 1024 a.toNat = true) : areaOf c a = .mapB := by
  rw [areaOf_region hv hl (r := ⟨c.copy.mapB.toNat, 1024, 4⟩) (by simp [Desc.regions]) ha]
  have h₁ := within_of_not_overlap (hl.apart (⟨c.copy.scan.toNat, 512, 2⟩, ⟨c.copy.mapB.toNat, 1024, 4⟩)
    (by simp [pairs, Desc.regions])) ha
  have h₂ := within_of_not_overlap (hl.apart (⟨c.copy.mapA.toNat, 1024, 3⟩, ⟨c.copy.mapB.toNat, 1024, 4⟩)
    (by simp [pairs, Desc.regions])) ha
  simp_all

theorem areaOf_programs (hv : c.valid = true) (hl : Laid c.copy (controlBase c.dsel))
    (ha : within c.copy.programs.toNat 32768 a.toNat = true) : areaOf c a = .programs := by
  rw [areaOf_region hv hl (r := ⟨c.copy.programs.toNat, 32768, 5⟩) (by simp [Desc.regions]) ha]
  have h₁ := within_of_not_overlap (hl.apart (⟨c.copy.scan.toNat, 512, 2⟩, ⟨c.copy.programs.toNat, 32768, 5⟩)
    (by simp [pairs, Desc.regions])) ha
  have h₂ := within_of_not_overlap (hl.apart (⟨c.copy.mapA.toNat, 1024, 3⟩, ⟨c.copy.programs.toNat, 32768, 5⟩)
    (by simp [pairs, Desc.regions])) ha
  have h₃ := within_of_not_overlap (hl.apart (⟨c.copy.mapB.toNat, 1024, 4⟩, ⟨c.copy.programs.toNat, 32768, 5⟩)
    (by simp [pairs, Desc.regions])) ha
  simp_all

theorem areaOf_sections (hv : c.valid = true) (hl : Laid c.copy (controlBase c.dsel))
    (ha : within c.copy.sections.toNat 128 a.toNat = true) : areaOf c a = .sections := by
  rw [areaOf_region hv hl (r := ⟨c.copy.sections.toNat, 128, 6⟩) (by simp [Desc.regions]) ha]
  have h₁ := within_of_not_overlap (hl.apart (⟨c.copy.scan.toNat, 512, 2⟩, ⟨c.copy.sections.toNat, 128, 6⟩)
    (by simp [pairs, Desc.regions])) ha
  have h₂ := within_of_not_overlap (hl.apart (⟨c.copy.mapA.toNat, 1024, 3⟩, ⟨c.copy.sections.toNat, 128, 6⟩)
    (by simp [pairs, Desc.regions])) ha
  have h₃ := within_of_not_overlap (hl.apart (⟨c.copy.mapB.toNat, 1024, 4⟩, ⟨c.copy.sections.toNat, 128, 6⟩)
    (by simp [pairs, Desc.regions])) ha
  have h₄ := within_of_not_overlap (hl.apart (⟨c.copy.programs.toNat, 32768, 5⟩, ⟨c.copy.sections.toNat, 128, 6⟩)
    (by simp [pairs, Desc.regions])) ha
  simp_all

theorem areaOf_voices (hv : c.valid = true) (hl : Laid c.copy (controlBase c.dsel))
    (ha : within c.copy.voices.toNat 1024 a.toNat = true) : areaOf c a = .voices := by
  rw [areaOf_region hv hl (r := ⟨c.copy.voices.toNat, 1024, 7⟩) (by simp [Desc.regions]) ha]
  have h₁ := within_of_not_overlap (hl.apart (⟨c.copy.scan.toNat, 512, 2⟩, ⟨c.copy.voices.toNat, 1024, 7⟩)
    (by simp [pairs, Desc.regions])) ha
  have h₂ := within_of_not_overlap (hl.apart (⟨c.copy.mapA.toNat, 1024, 3⟩, ⟨c.copy.voices.toNat, 1024, 7⟩)
    (by simp [pairs, Desc.regions])) ha
  have h₃ := within_of_not_overlap (hl.apart (⟨c.copy.mapB.toNat, 1024, 4⟩, ⟨c.copy.voices.toNat, 1024, 7⟩)
    (by simp [pairs, Desc.regions])) ha
  have h₄ := within_of_not_overlap (hl.apart (⟨c.copy.programs.toNat, 32768, 5⟩, ⟨c.copy.voices.toNat, 1024, 7⟩)
    (by simp [pairs, Desc.regions])) ha
  have h₅ := within_of_not_overlap (hl.apart (⟨c.copy.sections.toNat, 128, 6⟩, ⟨c.copy.voices.toNat, 1024, 7⟩)
    (by simp [pairs, Desc.regions])) ha
  simp_all

end Regions

/-- What an area other than the control block's says of its addresses. -/
theorem within_of_areaOf {c : Control} {a : Addr} {x : Area} (h : areaOf c a = x) :
    (x = .scan → within c.copy.scan.toNat 512 a.toNat = true) ∧
    (x = .mapA → within c.copy.mapA.toNat 1024 a.toNat = true) ∧
    (x = .mapB → within c.copy.mapB.toNat 1024 a.toNat = true) ∧
    (x = .sections → within c.copy.sections.toNat 128 a.toNat = true) := by
  subst h
  unfold areaOf
  simp only []
  split
  · unfold controlPart
    (repeat' split) <;> simp
  · (repeat' split) <;> simp_all

end Sys2Proof.Machine
end

