-- ==== Sys2Proof/Laws/State.lean ====
section
/-! SUPPORT. What each block setter does to each block of the state: one lemma per setter and block, true by rfl. -/

namespace Sys2Proof.Machine.State

/-! ### setPins -/

@[simp] theorem setPins_pins (s : State) (x : Pins) : (s.setPins x).pins = x := rfl
@[simp] theorem setPins_ports (s : State) (x : Pins) : (s.setPins x).ports = s.ports := rfl
@[simp] theorem setPins_timebase (s : State) (x : Pins) : (s.setPins x).timebase = s.timebase := rfl
@[simp] theorem setPins_player (s : State) (x : Pins) : (s.setPins x).player = s.player := rfl
@[simp] theorem setPins_arb (s : State) (x : Pins) : (s.setPins x).arb = s.arb := rfl
@[simp] theorem setPins_scan (s : State) (x : Pins) : (s.setPins x).scan = s.scan := rfl
@[simp] theorem setPins_bellows (s : State) (x : Pins) : (s.setPins x).bellows = s.bellows := rfl
@[simp] theorem setPins_map (s : State) (x : Pins) : (s.setPins x).map = s.map := rfl
@[simp] theorem setPins_eng (s : State) (x : Pins) : (s.setPins x).eng = s.eng := rfl
@[simp] theorem setPins_voice (s : State) (x : Pins) : (s.setPins x).voice = s.voice := rfl
@[simp] theorem setPins_tone (s : State) (x : Pins) : (s.setPins x).tone = s.tone := rfl
@[simp] theorem setPins_ctrl (s : State) (x : Pins) : (s.setPins x).ctrl = s.ctrl := rfl
@[simp] theorem setPins_stat (s : State) (x : Pins) : (s.setPins x).stat = s.stat := rfl
@[simp] theorem setPins_pending (s : State) (x : Pins) : (s.setPins x).pending = s.pending := rfl
@[simp] theorem setPins_setPins (s : State) (x y : Pins) : (s.setPins x).setPins y = s.setPins y := rfl

/-! ### setPorts -/

@[simp] theorem setPorts_pins (s : State) (x : Ports) : (s.setPorts x).pins = s.pins := rfl
@[simp] theorem setPorts_ports (s : State) (x : Ports) : (s.setPorts x).ports = x := rfl
@[simp] theorem setPorts_timebase (s : State) (x : Ports) : (s.setPorts x).timebase = s.timebase := rfl
@[simp] theorem setPorts_player (s : State) (x : Ports) : (s.setPorts x).player = s.player := rfl
@[simp] theorem setPorts_arb (s : State) (x : Ports) : (s.setPorts x).arb = s.arb := rfl
@[simp] theorem setPorts_scan (s : State) (x : Ports) : (s.setPorts x).scan = s.scan := rfl
@[simp] theorem setPorts_bellows (s : State) (x : Ports) : (s.setPorts x).bellows = s.bellows := rfl
@[simp] theorem setPorts_map (s : State) (x : Ports) : (s.setPorts x).map = s.map := rfl
@[simp] theorem setPorts_eng (s : State) (x : Ports) : (s.setPorts x).eng = s.eng := rfl
@[simp] theorem setPorts_voice (s : State) (x : Ports) : (s.setPorts x).voice = s.voice := rfl
@[simp] theorem setPorts_tone (s : State) (x : Ports) : (s.setPorts x).tone = s.tone := rfl
@[simp] theorem setPorts_ctrl (s : State) (x : Ports) : (s.setPorts x).ctrl = s.ctrl := rfl
@[simp] theorem setPorts_stat (s : State) (x : Ports) : (s.setPorts x).stat = s.stat := rfl
@[simp] theorem setPorts_pending (s : State) (x : Ports) : (s.setPorts x).pending = s.pending := rfl
@[simp] theorem setPorts_setPorts (s : State) (x y : Ports) : (s.setPorts x).setPorts y = s.setPorts y := rfl

/-! ### setTimebase -/

@[simp] theorem setTimebase_pins (s : State) (x : Nat) : (s.setTimebase x).pins = s.pins := rfl
@[simp] theorem setTimebase_ports (s : State) (x : Nat) : (s.setTimebase x).ports = s.ports := rfl
@[simp] theorem setTimebase_timebase (s : State) (x : Nat) : (s.setTimebase x).timebase = x := rfl
@[simp] theorem setTimebase_player (s : State) (x : Nat) : (s.setTimebase x).player = s.player := rfl
@[simp] theorem setTimebase_arb (s : State) (x : Nat) : (s.setTimebase x).arb = s.arb := rfl
@[simp] theorem setTimebase_scan (s : State) (x : Nat) : (s.setTimebase x).scan = s.scan := rfl
@[simp] theorem setTimebase_bellows (s : State) (x : Nat) : (s.setTimebase x).bellows = s.bellows := rfl
@[simp] theorem setTimebase_map (s : State) (x : Nat) : (s.setTimebase x).map = s.map := rfl
@[simp] theorem setTimebase_eng (s : State) (x : Nat) : (s.setTimebase x).eng = s.eng := rfl
@[simp] theorem setTimebase_voice (s : State) (x : Nat) : (s.setTimebase x).voice = s.voice := rfl
@[simp] theorem setTimebase_tone (s : State) (x : Nat) : (s.setTimebase x).tone = s.tone := rfl
@[simp] theorem setTimebase_ctrl (s : State) (x : Nat) : (s.setTimebase x).ctrl = s.ctrl := rfl
@[simp] theorem setTimebase_stat (s : State) (x : Nat) : (s.setTimebase x).stat = s.stat := rfl
@[simp] theorem setTimebase_pending (s : State) (x : Nat) : (s.setTimebase x).pending = s.pending := rfl
@[simp] theorem setTimebase_setTimebase (s : State) (x y : Nat) : (s.setTimebase x).setTimebase y = s.setTimebase y := rfl

/-! ### setPlayer -/

@[simp] theorem setPlayer_pins (s : State) (x : PlayerQueue) : (s.setPlayer x).pins = s.pins := rfl
@[simp] theorem setPlayer_ports (s : State) (x : PlayerQueue) : (s.setPlayer x).ports = s.ports := rfl
@[simp] theorem setPlayer_timebase (s : State) (x : PlayerQueue) : (s.setPlayer x).timebase = s.timebase := rfl
@[simp] theorem setPlayer_player (s : State) (x : PlayerQueue) : (s.setPlayer x).player = x := rfl
@[simp] theorem setPlayer_arb (s : State) (x : PlayerQueue) : (s.setPlayer x).arb = s.arb := rfl
@[simp] theorem setPlayer_scan (s : State) (x : PlayerQueue) : (s.setPlayer x).scan = s.scan := rfl
@[simp] theorem setPlayer_bellows (s : State) (x : PlayerQueue) : (s.setPlayer x).bellows = s.bellows := rfl
@[simp] theorem setPlayer_map (s : State) (x : PlayerQueue) : (s.setPlayer x).map = s.map := rfl
@[simp] theorem setPlayer_eng (s : State) (x : PlayerQueue) : (s.setPlayer x).eng = s.eng := rfl
@[simp] theorem setPlayer_voice (s : State) (x : PlayerQueue) : (s.setPlayer x).voice = s.voice := rfl
@[simp] theorem setPlayer_tone (s : State) (x : PlayerQueue) : (s.setPlayer x).tone = s.tone := rfl
@[simp] theorem setPlayer_ctrl (s : State) (x : PlayerQueue) : (s.setPlayer x).ctrl = s.ctrl := rfl
@[simp] theorem setPlayer_stat (s : State) (x : PlayerQueue) : (s.setPlayer x).stat = s.stat := rfl
@[simp] theorem setPlayer_pending (s : State) (x : PlayerQueue) : (s.setPlayer x).pending = s.pending := rfl
@[simp] theorem setPlayer_setPlayer (s : State) (x y : PlayerQueue) : (s.setPlayer x).setPlayer y = s.setPlayer y := rfl

/-! ### setArb -/

@[simp] theorem setArb_pins (s : State) (x : Arbiter) : (s.setArb x).pins = s.pins := rfl
@[simp] theorem setArb_ports (s : State) (x : Arbiter) : (s.setArb x).ports = s.ports := rfl
@[simp] theorem setArb_timebase (s : State) (x : Arbiter) : (s.setArb x).timebase = s.timebase := rfl
@[simp] theorem setArb_player (s : State) (x : Arbiter) : (s.setArb x).player = s.player := rfl
@[simp] theorem setArb_arb (s : State) (x : Arbiter) : (s.setArb x).arb = x := rfl
@[simp] theorem setArb_scan (s : State) (x : Arbiter) : (s.setArb x).scan = s.scan := rfl
@[simp] theorem setArb_bellows (s : State) (x : Arbiter) : (s.setArb x).bellows = s.bellows := rfl
@[simp] theorem setArb_map (s : State) (x : Arbiter) : (s.setArb x).map = s.map := rfl
@[simp] theorem setArb_eng (s : State) (x : Arbiter) : (s.setArb x).eng = s.eng := rfl
@[simp] theorem setArb_voice (s : State) (x : Arbiter) : (s.setArb x).voice = s.voice := rfl
@[simp] theorem setArb_tone (s : State) (x : Arbiter) : (s.setArb x).tone = s.tone := rfl
@[simp] theorem setArb_ctrl (s : State) (x : Arbiter) : (s.setArb x).ctrl = s.ctrl := rfl
@[simp] theorem setArb_stat (s : State) (x : Arbiter) : (s.setArb x).stat = s.stat := rfl
@[simp] theorem setArb_pending (s : State) (x : Arbiter) : (s.setArb x).pending = s.pending := rfl
@[simp] theorem setArb_setArb (s : State) (x y : Arbiter) : (s.setArb x).setArb y = s.setArb y := rfl

/-! ### setScan -/

@[simp] theorem setScan_pins (s : State) (x : Scan) : (s.setScan x).pins = s.pins := rfl
@[simp] theorem setScan_ports (s : State) (x : Scan) : (s.setScan x).ports = s.ports := rfl
@[simp] theorem setScan_timebase (s : State) (x : Scan) : (s.setScan x).timebase = s.timebase := rfl
@[simp] theorem setScan_player (s : State) (x : Scan) : (s.setScan x).player = s.player := rfl
@[simp] theorem setScan_arb (s : State) (x : Scan) : (s.setScan x).arb = s.arb := rfl
@[simp] theorem setScan_scan (s : State) (x : Scan) : (s.setScan x).scan = x := rfl
@[simp] theorem setScan_bellows (s : State) (x : Scan) : (s.setScan x).bellows = s.bellows := rfl
@[simp] theorem setScan_map (s : State) (x : Scan) : (s.setScan x).map = s.map := rfl
@[simp] theorem setScan_eng (s : State) (x : Scan) : (s.setScan x).eng = s.eng := rfl
@[simp] theorem setScan_voice (s : State) (x : Scan) : (s.setScan x).voice = s.voice := rfl
@[simp] theorem setScan_tone (s : State) (x : Scan) : (s.setScan x).tone = s.tone := rfl
@[simp] theorem setScan_ctrl (s : State) (x : Scan) : (s.setScan x).ctrl = s.ctrl := rfl
@[simp] theorem setScan_stat (s : State) (x : Scan) : (s.setScan x).stat = s.stat := rfl
@[simp] theorem setScan_pending (s : State) (x : Scan) : (s.setScan x).pending = s.pending := rfl
@[simp] theorem setScan_setScan (s : State) (x y : Scan) : (s.setScan x).setScan y = s.setScan y := rfl

/-! ### setBellows -/

@[simp] theorem setBellows_pins (s : State) (x : Bellows) : (s.setBellows x).pins = s.pins := rfl
@[simp] theorem setBellows_ports (s : State) (x : Bellows) : (s.setBellows x).ports = s.ports := rfl
@[simp] theorem setBellows_timebase (s : State) (x : Bellows) : (s.setBellows x).timebase = s.timebase := rfl
@[simp] theorem setBellows_player (s : State) (x : Bellows) : (s.setBellows x).player = s.player := rfl
@[simp] theorem setBellows_arb (s : State) (x : Bellows) : (s.setBellows x).arb = s.arb := rfl
@[simp] theorem setBellows_scan (s : State) (x : Bellows) : (s.setBellows x).scan = s.scan := rfl
@[simp] theorem setBellows_bellows (s : State) (x : Bellows) : (s.setBellows x).bellows = x := rfl
@[simp] theorem setBellows_map (s : State) (x : Bellows) : (s.setBellows x).map = s.map := rfl
@[simp] theorem setBellows_eng (s : State) (x : Bellows) : (s.setBellows x).eng = s.eng := rfl
@[simp] theorem setBellows_voice (s : State) (x : Bellows) : (s.setBellows x).voice = s.voice := rfl
@[simp] theorem setBellows_tone (s : State) (x : Bellows) : (s.setBellows x).tone = s.tone := rfl
@[simp] theorem setBellows_ctrl (s : State) (x : Bellows) : (s.setBellows x).ctrl = s.ctrl := rfl
@[simp] theorem setBellows_stat (s : State) (x : Bellows) : (s.setBellows x).stat = s.stat := rfl
@[simp] theorem setBellows_pending (s : State) (x : Bellows) : (s.setBellows x).pending = s.pending := rfl
@[simp] theorem setBellows_setBellows (s : State) (x y : Bellows) : (s.setBellows x).setBellows y = s.setBellows y := rfl

/-! ### setMap -/

@[simp] theorem setMap_pins (s : State) (x : MapUnit) : (s.setMap x).pins = s.pins := rfl
@[simp] theorem setMap_ports (s : State) (x : MapUnit) : (s.setMap x).ports = s.ports := rfl
@[simp] theorem setMap_timebase (s : State) (x : MapUnit) : (s.setMap x).timebase = s.timebase := rfl
@[simp] theorem setMap_player (s : State) (x : MapUnit) : (s.setMap x).player = s.player := rfl
@[simp] theorem setMap_arb (s : State) (x : MapUnit) : (s.setMap x).arb = s.arb := rfl
@[simp] theorem setMap_scan (s : State) (x : MapUnit) : (s.setMap x).scan = s.scan := rfl
@[simp] theorem setMap_bellows (s : State) (x : MapUnit) : (s.setMap x).bellows = s.bellows := rfl
@[simp] theorem setMap_map (s : State) (x : MapUnit) : (s.setMap x).map = x := rfl
@[simp] theorem setMap_eng (s : State) (x : MapUnit) : (s.setMap x).eng = s.eng := rfl
@[simp] theorem setMap_voice (s : State) (x : MapUnit) : (s.setMap x).voice = s.voice := rfl
@[simp] theorem setMap_tone (s : State) (x : MapUnit) : (s.setMap x).tone = s.tone := rfl
@[simp] theorem setMap_ctrl (s : State) (x : MapUnit) : (s.setMap x).ctrl = s.ctrl := rfl
@[simp] theorem setMap_stat (s : State) (x : MapUnit) : (s.setMap x).stat = s.stat := rfl
@[simp] theorem setMap_pending (s : State) (x : MapUnit) : (s.setMap x).pending = s.pending := rfl
@[simp] theorem setMap_setMap (s : State) (x y : MapUnit) : (s.setMap x).setMap y = s.setMap y := rfl

/-! ### setEng -/

@[simp] theorem setEng_pins (s : State) (x : Engine) : (s.setEng x).pins = s.pins := rfl
@[simp] theorem setEng_ports (s : State) (x : Engine) : (s.setEng x).ports = s.ports := rfl
@[simp] theorem setEng_timebase (s : State) (x : Engine) : (s.setEng x).timebase = s.timebase := rfl
@[simp] theorem setEng_player (s : State) (x : Engine) : (s.setEng x).player = s.player := rfl
@[simp] theorem setEng_arb (s : State) (x : Engine) : (s.setEng x).arb = s.arb := rfl
@[simp] theorem setEng_scan (s : State) (x : Engine) : (s.setEng x).scan = s.scan := rfl
@[simp] theorem setEng_bellows (s : State) (x : Engine) : (s.setEng x).bellows = s.bellows := rfl
@[simp] theorem setEng_map (s : State) (x : Engine) : (s.setEng x).map = s.map := rfl
@[simp] theorem setEng_eng (s : State) (x : Engine) : (s.setEng x).eng = x := rfl
@[simp] theorem setEng_voice (s : State) (x : Engine) : (s.setEng x).voice = s.voice := rfl
@[simp] theorem setEng_tone (s : State) (x : Engine) : (s.setEng x).tone = s.tone := rfl
@[simp] theorem setEng_ctrl (s : State) (x : Engine) : (s.setEng x).ctrl = s.ctrl := rfl
@[simp] theorem setEng_stat (s : State) (x : Engine) : (s.setEng x).stat = s.stat := rfl
@[simp] theorem setEng_pending (s : State) (x : Engine) : (s.setEng x).pending = s.pending := rfl
@[simp] theorem setEng_setEng (s : State) (x y : Engine) : (s.setEng x).setEng y = s.setEng y := rfl

/-! ### setVoice -/

@[simp] theorem setVoice_pins (s : State) (x : VoiceWriter) : (s.setVoice x).pins = s.pins := rfl
@[simp] theorem setVoice_ports (s : State) (x : VoiceWriter) : (s.setVoice x).ports = s.ports := rfl
@[simp] theorem setVoice_timebase (s : State) (x : VoiceWriter) : (s.setVoice x).timebase = s.timebase := rfl
@[simp] theorem setVoice_player (s : State) (x : VoiceWriter) : (s.setVoice x).player = s.player := rfl
@[simp] theorem setVoice_arb (s : State) (x : VoiceWriter) : (s.setVoice x).arb = s.arb := rfl
@[simp] theorem setVoice_scan (s : State) (x : VoiceWriter) : (s.setVoice x).scan = s.scan := rfl
@[simp] theorem setVoice_bellows (s : State) (x : VoiceWriter) : (s.setVoice x).bellows = s.bellows := rfl
@[simp] theorem setVoice_map (s : State) (x : VoiceWriter) : (s.setVoice x).map = s.map := rfl
@[simp] theorem setVoice_eng (s : State) (x : VoiceWriter) : (s.setVoice x).eng = s.eng := rfl
@[simp] theorem setVoice_voice (s : State) (x : VoiceWriter) : (s.setVoice x).voice = x := rfl
@[simp] theorem setVoice_tone (s : State) (x : VoiceWriter) : (s.setVoice x).tone = s.tone := rfl
@[simp] theorem setVoice_ctrl (s : State) (x : VoiceWriter) : (s.setVoice x).ctrl = s.ctrl := rfl
@[simp] theorem setVoice_stat (s : State) (x : VoiceWriter) : (s.setVoice x).stat = s.stat := rfl
@[simp] theorem setVoice_pending (s : State) (x : VoiceWriter) : (s.setVoice x).pending = s.pending := rfl
@[simp] theorem setVoice_setVoice (s : State) (x y : VoiceWriter) : (s.setVoice x).setVoice y = s.setVoice y := rfl

/-! ### setTone -/

@[simp] theorem setTone_pins (s : State) (x : Tone) : (s.setTone x).pins = s.pins := rfl
@[simp] theorem setTone_ports (s : State) (x : Tone) : (s.setTone x).ports = s.ports := rfl
@[simp] theorem setTone_timebase (s : State) (x : Tone) : (s.setTone x).timebase = s.timebase := rfl
@[simp] theorem setTone_player (s : State) (x : Tone) : (s.setTone x).player = s.player := rfl
@[simp] theorem setTone_arb (s : State) (x : Tone) : (s.setTone x).arb = s.arb := rfl
@[simp] theorem setTone_scan (s : State) (x : Tone) : (s.setTone x).scan = s.scan := rfl
@[simp] theorem setTone_bellows (s : State) (x : Tone) : (s.setTone x).bellows = s.bellows := rfl
@[simp] theorem setTone_map (s : State) (x : Tone) : (s.setTone x).map = s.map := rfl
@[simp] theorem setTone_eng (s : State) (x : Tone) : (s.setTone x).eng = s.eng := rfl
@[simp] theorem setTone_voice (s : State) (x : Tone) : (s.setTone x).voice = s.voice := rfl
@[simp] theorem setTone_tone (s : State) (x : Tone) : (s.setTone x).tone = x := rfl
@[simp] theorem setTone_ctrl (s : State) (x : Tone) : (s.setTone x).ctrl = s.ctrl := rfl
@[simp] theorem setTone_stat (s : State) (x : Tone) : (s.setTone x).stat = s.stat := rfl
@[simp] theorem setTone_pending (s : State) (x : Tone) : (s.setTone x).pending = s.pending := rfl
@[simp] theorem setTone_setTone (s : State) (x y : Tone) : (s.setTone x).setTone y = s.setTone y := rfl

/-! ### setCtrl -/

@[simp] theorem setCtrl_pins (s : State) (x : Control) : (s.setCtrl x).pins = s.pins := rfl
@[simp] theorem setCtrl_ports (s : State) (x : Control) : (s.setCtrl x).ports = s.ports := rfl
@[simp] theorem setCtrl_timebase (s : State) (x : Control) : (s.setCtrl x).timebase = s.timebase := rfl
@[simp] theorem setCtrl_player (s : State) (x : Control) : (s.setCtrl x).player = s.player := rfl
@[simp] theorem setCtrl_arb (s : State) (x : Control) : (s.setCtrl x).arb = s.arb := rfl
@[simp] theorem setCtrl_scan (s : State) (x : Control) : (s.setCtrl x).scan = s.scan := rfl
@[simp] theorem setCtrl_bellows (s : State) (x : Control) : (s.setCtrl x).bellows = s.bellows := rfl
@[simp] theorem setCtrl_map (s : State) (x : Control) : (s.setCtrl x).map = s.map := rfl
@[simp] theorem setCtrl_eng (s : State) (x : Control) : (s.setCtrl x).eng = s.eng := rfl
@[simp] theorem setCtrl_voice (s : State) (x : Control) : (s.setCtrl x).voice = s.voice := rfl
@[simp] theorem setCtrl_tone (s : State) (x : Control) : (s.setCtrl x).tone = s.tone := rfl
@[simp] theorem setCtrl_ctrl (s : State) (x : Control) : (s.setCtrl x).ctrl = x := rfl
@[simp] theorem setCtrl_stat (s : State) (x : Control) : (s.setCtrl x).stat = s.stat := rfl
@[simp] theorem setCtrl_pending (s : State) (x : Control) : (s.setCtrl x).pending = s.pending := rfl
@[simp] theorem setCtrl_setCtrl (s : State) (x y : Control) : (s.setCtrl x).setCtrl y = s.setCtrl y := rfl

/-! ### setStat -/

@[simp] theorem setStat_pins (s : State) (x : Status) : (s.setStat x).pins = s.pins := rfl
@[simp] theorem setStat_ports (s : State) (x : Status) : (s.setStat x).ports = s.ports := rfl
@[simp] theorem setStat_timebase (s : State) (x : Status) : (s.setStat x).timebase = s.timebase := rfl
@[simp] theorem setStat_player (s : State) (x : Status) : (s.setStat x).player = s.player := rfl
@[simp] theorem setStat_arb (s : State) (x : Status) : (s.setStat x).arb = s.arb := rfl
@[simp] theorem setStat_scan (s : State) (x : Status) : (s.setStat x).scan = s.scan := rfl
@[simp] theorem setStat_bellows (s : State) (x : Status) : (s.setStat x).bellows = s.bellows := rfl
@[simp] theorem setStat_map (s : State) (x : Status) : (s.setStat x).map = s.map := rfl
@[simp] theorem setStat_eng (s : State) (x : Status) : (s.setStat x).eng = s.eng := rfl
@[simp] theorem setStat_voice (s : State) (x : Status) : (s.setStat x).voice = s.voice := rfl
@[simp] theorem setStat_tone (s : State) (x : Status) : (s.setStat x).tone = s.tone := rfl
@[simp] theorem setStat_ctrl (s : State) (x : Status) : (s.setStat x).ctrl = s.ctrl := rfl
@[simp] theorem setStat_stat (s : State) (x : Status) : (s.setStat x).stat = x := rfl
@[simp] theorem setStat_pending (s : State) (x : Status) : (s.setStat x).pending = s.pending := rfl
@[simp] theorem setStat_setStat (s : State) (x y : Status) : (s.setStat x).setStat y = s.setStat y := rfl

end Sys2Proof.Machine.State
end

