-- ==== Sys2Proof/Laws/FlagFrames.lean ====
section
/-! SUPPORT. The status unit's operations change the status unit and no other block. -/

namespace Sys2Proof.Machine

/-! ### report -/

@[simp] theorem report_pins (a b : State) : (report a b).pins = b.pins := by unfold report; split <;> rfl
@[simp] theorem report_ports (a b : State) : (report a b).ports = b.ports := by unfold report; split <;> rfl
@[simp] theorem report_timebase (a b : State) : (report a b).timebase = b.timebase := by unfold report; split <;> rfl
@[simp] theorem report_player (a b : State) : (report a b).player = b.player := by unfold report; split <;> rfl
@[simp] theorem report_arb (a b : State) : (report a b).arb = b.arb := by unfold report; split <;> rfl
@[simp] theorem report_scan (a b : State) : (report a b).scan = b.scan := by unfold report; split <;> rfl
@[simp] theorem report_bellows (a b : State) : (report a b).bellows = b.bellows := by unfold report; split <;> rfl
@[simp] theorem report_map (a b : State) : (report a b).map = b.map := by unfold report; split <;> rfl
@[simp] theorem report_eng (a b : State) : (report a b).eng = b.eng := by unfold report; split <;> rfl
@[simp] theorem report_voice (a b : State) : (report a b).voice = b.voice := by unfold report; split <;> rfl
@[simp] theorem report_tone (a b : State) : (report a b).tone = b.tone := by unfold report; split <;> rfl
@[simp] theorem report_ctrl (a b : State) : (report a b).ctrl = b.ctrl := by unfold report; split <;> rfl
@[simp] theorem report_pending (a b : State) : (report a b).pending = b.pending := by unfold report; split <;> rfl

/-! ### raiseFlag -/

@[simp] theorem raiseFlag_pins (f : BitVec 7) (s : State) : (raiseFlag f s).pins = s.pins := by simp [raiseFlag]
@[simp] theorem raiseFlag_ports (f : BitVec 7) (s : State) : (raiseFlag f s).ports = s.ports := by simp [raiseFlag]
@[simp] theorem raiseFlag_timebase (f : BitVec 7) (s : State) : (raiseFlag f s).timebase = s.timebase := by simp [raiseFlag]
@[simp] theorem raiseFlag_player (f : BitVec 7) (s : State) : (raiseFlag f s).player = s.player := by simp [raiseFlag]
@[simp] theorem raiseFlag_arb (f : BitVec 7) (s : State) : (raiseFlag f s).arb = s.arb := by simp [raiseFlag]
@[simp] theorem raiseFlag_scan (f : BitVec 7) (s : State) : (raiseFlag f s).scan = s.scan := by simp [raiseFlag]
@[simp] theorem raiseFlag_bellows (f : BitVec 7) (s : State) : (raiseFlag f s).bellows = s.bellows := by simp [raiseFlag]
@[simp] theorem raiseFlag_map (f : BitVec 7) (s : State) : (raiseFlag f s).map = s.map := by simp [raiseFlag]
@[simp] theorem raiseFlag_eng (f : BitVec 7) (s : State) : (raiseFlag f s).eng = s.eng := by simp [raiseFlag]
@[simp] theorem raiseFlag_voice (f : BitVec 7) (s : State) : (raiseFlag f s).voice = s.voice := by simp [raiseFlag]
@[simp] theorem raiseFlag_tone (f : BitVec 7) (s : State) : (raiseFlag f s).tone = s.tone := by simp [raiseFlag]
@[simp] theorem raiseFlag_ctrl (f : BitVec 7) (s : State) : (raiseFlag f s).ctrl = s.ctrl := by simp [raiseFlag]
@[simp] theorem raiseFlag_pending (f : BitVec 7) (s : State) : (raiseFlag f s).pending = s.pending := by simp [raiseFlag]

/-! ### logFault -/

@[simp] theorem logFault_pins (k : FaultKind) (p : PortId) (a : Addr) (s : State) : (logFault k p a s).pins = s.pins := by simp [logFault]
@[simp] theorem logFault_ports (k : FaultKind) (p : PortId) (a : Addr) (s : State) : (logFault k p a s).ports = s.ports := by simp [logFault]
@[simp] theorem logFault_timebase (k : FaultKind) (p : PortId) (a : Addr) (s : State) : (logFault k p a s).timebase = s.timebase := by simp [logFault]
@[simp] theorem logFault_player (k : FaultKind) (p : PortId) (a : Addr) (s : State) : (logFault k p a s).player = s.player := by simp [logFault]
@[simp] theorem logFault_arb (k : FaultKind) (p : PortId) (a : Addr) (s : State) : (logFault k p a s).arb = s.arb := by simp [logFault]
@[simp] theorem logFault_scan (k : FaultKind) (p : PortId) (a : Addr) (s : State) : (logFault k p a s).scan = s.scan := by simp [logFault]
@[simp] theorem logFault_bellows (k : FaultKind) (p : PortId) (a : Addr) (s : State) : (logFault k p a s).bellows = s.bellows := by simp [logFault]
@[simp] theorem logFault_map (k : FaultKind) (p : PortId) (a : Addr) (s : State) : (logFault k p a s).map = s.map := by simp [logFault]
@[simp] theorem logFault_eng (k : FaultKind) (p : PortId) (a : Addr) (s : State) : (logFault k p a s).eng = s.eng := by simp [logFault]
@[simp] theorem logFault_voice (k : FaultKind) (p : PortId) (a : Addr) (s : State) : (logFault k p a s).voice = s.voice := by simp [logFault]
@[simp] theorem logFault_tone (k : FaultKind) (p : PortId) (a : Addr) (s : State) : (logFault k p a s).tone = s.tone := by simp [logFault]
@[simp] theorem logFault_ctrl (k : FaultKind) (p : PortId) (a : Addr) (s : State) : (logFault k p a s).ctrl = s.ctrl := by simp [logFault]
@[simp] theorem logFault_pending (k : FaultKind) (p : PortId) (a : Addr) (s : State) : (logFault k p a s).pending = s.pending := by simp [logFault]

/-! ### setCounters -/

@[simp] theorem setCounters_pins (g : Counters → Counters) (s : State) : (setCounters g s).pins = s.pins := by simp [setCounters]
@[simp] theorem setCounters_ports (g : Counters → Counters) (s : State) : (setCounters g s).ports = s.ports := by simp [setCounters]
@[simp] theorem setCounters_timebase (g : Counters → Counters) (s : State) : (setCounters g s).timebase = s.timebase := by simp [setCounters]
@[simp] theorem setCounters_player (g : Counters → Counters) (s : State) : (setCounters g s).player = s.player := by simp [setCounters]
@[simp] theorem setCounters_arb (g : Counters → Counters) (s : State) : (setCounters g s).arb = s.arb := by simp [setCounters]
@[simp] theorem setCounters_scan (g : Counters → Counters) (s : State) : (setCounters g s).scan = s.scan := by simp [setCounters]
@[simp] theorem setCounters_bellows (g : Counters → Counters) (s : State) : (setCounters g s).bellows = s.bellows := by simp [setCounters]
@[simp] theorem setCounters_map (g : Counters → Counters) (s : State) : (setCounters g s).map = s.map := by simp [setCounters]
@[simp] theorem setCounters_eng (g : Counters → Counters) (s : State) : (setCounters g s).eng = s.eng := by simp [setCounters]
@[simp] theorem setCounters_voice (g : Counters → Counters) (s : State) : (setCounters g s).voice = s.voice := by simp [setCounters]
@[simp] theorem setCounters_tone (g : Counters → Counters) (s : State) : (setCounters g s).tone = s.tone := by simp [setCounters]
@[simp] theorem setCounters_ctrl (g : Counters → Counters) (s : State) : (setCounters g s).ctrl = s.ctrl := by simp [setCounters]
@[simp] theorem setCounters_pending (g : Counters → Counters) (s : State) : (setCounters g s).pending = s.pending := by simp [setCounters]

/-! ### dropFor -/

@[simp] theorem dropFor_pins (r : DropReason) (s : State) : (dropFor r s).pins = s.pins := by simp [dropFor]
@[simp] theorem dropFor_ports (r : DropReason) (s : State) : (dropFor r s).ports = s.ports := by simp [dropFor]
@[simp] theorem dropFor_timebase (r : DropReason) (s : State) : (dropFor r s).timebase = s.timebase := by simp [dropFor]
@[simp] theorem dropFor_player (r : DropReason) (s : State) : (dropFor r s).player = s.player := by simp [dropFor]
@[simp] theorem dropFor_arb (r : DropReason) (s : State) : (dropFor r s).arb = s.arb := by simp [dropFor]
@[simp] theorem dropFor_scan (r : DropReason) (s : State) : (dropFor r s).scan = s.scan := by simp [dropFor]
@[simp] theorem dropFor_bellows (r : DropReason) (s : State) : (dropFor r s).bellows = s.bellows := by simp [dropFor]
@[simp] theorem dropFor_map (r : DropReason) (s : State) : (dropFor r s).map = s.map := by simp [dropFor]
@[simp] theorem dropFor_eng (r : DropReason) (s : State) : (dropFor r s).eng = s.eng := by simp [dropFor]
@[simp] theorem dropFor_voice (r : DropReason) (s : State) : (dropFor r s).voice = s.voice := by simp [dropFor]
@[simp] theorem dropFor_tone (r : DropReason) (s : State) : (dropFor r s).tone = s.tone := by simp [dropFor]
@[simp] theorem dropFor_ctrl (r : DropReason) (s : State) : (dropFor r s).ctrl = s.ctrl := by simp [dropFor]
@[simp] theorem dropFor_pending (r : DropReason) (s : State) : (dropFor r s).pending = s.pending := by simp [dropFor]

/-! ### ackFlags -/

@[simp] theorem ackFlags_pins (m : BitVec 7) (s : State) : (ackFlags m s).pins = s.pins := by simp [ackFlags]
@[simp] theorem ackFlags_ports (m : BitVec 7) (s : State) : (ackFlags m s).ports = s.ports := by simp [ackFlags]
@[simp] theorem ackFlags_timebase (m : BitVec 7) (s : State) : (ackFlags m s).timebase = s.timebase := by simp [ackFlags]
@[simp] theorem ackFlags_player (m : BitVec 7) (s : State) : (ackFlags m s).player = s.player := by simp [ackFlags]
@[simp] theorem ackFlags_arb (m : BitVec 7) (s : State) : (ackFlags m s).arb = s.arb := by simp [ackFlags]
@[simp] theorem ackFlags_scan (m : BitVec 7) (s : State) : (ackFlags m s).scan = s.scan := by simp [ackFlags]
@[simp] theorem ackFlags_bellows (m : BitVec 7) (s : State) : (ackFlags m s).bellows = s.bellows := by simp [ackFlags]
@[simp] theorem ackFlags_map (m : BitVec 7) (s : State) : (ackFlags m s).map = s.map := by simp [ackFlags]
@[simp] theorem ackFlags_eng (m : BitVec 7) (s : State) : (ackFlags m s).eng = s.eng := by simp [ackFlags]
@[simp] theorem ackFlags_voice (m : BitVec 7) (s : State) : (ackFlags m s).voice = s.voice := by simp [ackFlags]
@[simp] theorem ackFlags_tone (m : BitVec 7) (s : State) : (ackFlags m s).tone = s.tone := by simp [ackFlags]
@[simp] theorem ackFlags_ctrl (m : BitVec 7) (s : State) : (ackFlags m s).ctrl = s.ctrl := by simp [ackFlags]
@[simp] theorem ackFlags_pending (m : BitVec 7) (s : State) : (ackFlags m s).pending = s.pending := by simp [ackFlags]

/-! ### takeOpcode -/

@[simp] theorem takeOpcode_pins (o : Byte) (s : State) : (takeOpcode o s).pins = s.pins := by simp [takeOpcode]
@[simp] theorem takeOpcode_ports (o : Byte) (s : State) : (takeOpcode o s).ports = s.ports := by simp [takeOpcode]
@[simp] theorem takeOpcode_timebase (o : Byte) (s : State) : (takeOpcode o s).timebase = s.timebase := by simp [takeOpcode]
@[simp] theorem takeOpcode_player (o : Byte) (s : State) : (takeOpcode o s).player = s.player := by simp [takeOpcode]
@[simp] theorem takeOpcode_arb (o : Byte) (s : State) : (takeOpcode o s).arb = s.arb := by simp [takeOpcode]
@[simp] theorem takeOpcode_scan (o : Byte) (s : State) : (takeOpcode o s).scan = s.scan := by simp [takeOpcode]
@[simp] theorem takeOpcode_bellows (o : Byte) (s : State) : (takeOpcode o s).bellows = s.bellows := by simp [takeOpcode]
@[simp] theorem takeOpcode_map (o : Byte) (s : State) : (takeOpcode o s).map = s.map := by simp [takeOpcode]
@[simp] theorem takeOpcode_eng (o : Byte) (s : State) : (takeOpcode o s).eng = s.eng := by simp [takeOpcode]
@[simp] theorem takeOpcode_voice (o : Byte) (s : State) : (takeOpcode o s).voice = s.voice := by simp [takeOpcode]
@[simp] theorem takeOpcode_tone (o : Byte) (s : State) : (takeOpcode o s).tone = s.tone := by simp [takeOpcode]
@[simp] theorem takeOpcode_ctrl (o : Byte) (s : State) : (takeOpcode o s).ctrl = s.ctrl := by simp [takeOpcode]
@[simp] theorem takeOpcode_pending (o : Byte) (s : State) : (takeOpcode o s).pending = s.pending := by simp [takeOpcode]

/-! ### finish -/

@[simp] theorem finish_pins (w : Awaited) (r : CmdResult) (s : State) : (finish w r s).pins = s.pins := by unfold finish; split <;> simp
@[simp] theorem finish_ports (w : Awaited) (r : CmdResult) (s : State) : (finish w r s).ports = s.ports := by unfold finish; split <;> simp
@[simp] theorem finish_timebase (w : Awaited) (r : CmdResult) (s : State) : (finish w r s).timebase = s.timebase := by unfold finish; split <;> simp
@[simp] theorem finish_player (w : Awaited) (r : CmdResult) (s : State) : (finish w r s).player = s.player := by unfold finish; split <;> simp
@[simp] theorem finish_arb (w : Awaited) (r : CmdResult) (s : State) : (finish w r s).arb = s.arb := by unfold finish; split <;> simp
@[simp] theorem finish_scan (w : Awaited) (r : CmdResult) (s : State) : (finish w r s).scan = s.scan := by unfold finish; split <;> simp
@[simp] theorem finish_bellows (w : Awaited) (r : CmdResult) (s : State) : (finish w r s).bellows = s.bellows := by unfold finish; split <;> simp
@[simp] theorem finish_map (w : Awaited) (r : CmdResult) (s : State) : (finish w r s).map = s.map := by unfold finish; split <;> simp
@[simp] theorem finish_eng (w : Awaited) (r : CmdResult) (s : State) : (finish w r s).eng = s.eng := by unfold finish; split <;> simp
@[simp] theorem finish_voice (w : Awaited) (r : CmdResult) (s : State) : (finish w r s).voice = s.voice := by unfold finish; split <;> simp
@[simp] theorem finish_tone (w : Awaited) (r : CmdResult) (s : State) : (finish w r s).tone = s.tone := by unfold finish; split <;> simp
@[simp] theorem finish_ctrl (w : Awaited) (r : CmdResult) (s : State) : (finish w r s).ctrl = s.ctrl := by unfold finish; split <;> simp
@[simp] theorem finish_pending (w : Awaited) (r : CmdResult) (s : State) : (finish w r s).pending = s.pending := by unfold finish; split <;> simp

/-! ### leavePending -/

@[simp] theorem leavePending_pins (w : Awaited) (s : State) : (leavePending w s).pins = s.pins := by unfold leavePending; split <;> simp
@[simp] theorem leavePending_ports (w : Awaited) (s : State) : (leavePending w s).ports = s.ports := by unfold leavePending; split <;> simp
@[simp] theorem leavePending_timebase (w : Awaited) (s : State) : (leavePending w s).timebase = s.timebase := by unfold leavePending; split <;> simp
@[simp] theorem leavePending_player (w : Awaited) (s : State) : (leavePending w s).player = s.player := by unfold leavePending; split <;> simp
@[simp] theorem leavePending_arb (w : Awaited) (s : State) : (leavePending w s).arb = s.arb := by unfold leavePending; split <;> simp
@[simp] theorem leavePending_scan (w : Awaited) (s : State) : (leavePending w s).scan = s.scan := by unfold leavePending; split <;> simp
@[simp] theorem leavePending_bellows (w : Awaited) (s : State) : (leavePending w s).bellows = s.bellows := by unfold leavePending; split <;> simp
@[simp] theorem leavePending_map (w : Awaited) (s : State) : (leavePending w s).map = s.map := by unfold leavePending; split <;> simp
@[simp] theorem leavePending_eng (w : Awaited) (s : State) : (leavePending w s).eng = s.eng := by unfold leavePending; split <;> simp
@[simp] theorem leavePending_voice (w : Awaited) (s : State) : (leavePending w s).voice = s.voice := by unfold leavePending; split <;> simp
@[simp] theorem leavePending_tone (w : Awaited) (s : State) : (leavePending w s).tone = s.tone := by unfold leavePending; split <;> simp
@[simp] theorem leavePending_ctrl (w : Awaited) (s : State) : (leavePending w s).ctrl = s.ctrl := by unfold leavePending; split <;> simp
@[simp] theorem leavePending_pending (w : Awaited) (s : State) : (leavePending w s).pending = s.pending := by unfold leavePending; split <;> simp

/-! ### beginSnapshot -/

@[simp] theorem beginSnapshot_pins (s : State) : (beginSnapshot s).pins = s.pins := by simp [beginSnapshot]
@[simp] theorem beginSnapshot_ports (s : State) : (beginSnapshot s).ports = s.ports := by simp [beginSnapshot]
@[simp] theorem beginSnapshot_timebase (s : State) : (beginSnapshot s).timebase = s.timebase := by simp [beginSnapshot]
@[simp] theorem beginSnapshot_player (s : State) : (beginSnapshot s).player = s.player := by simp [beginSnapshot]
@[simp] theorem beginSnapshot_arb (s : State) : (beginSnapshot s).arb = s.arb := by simp [beginSnapshot]
@[simp] theorem beginSnapshot_scan (s : State) : (beginSnapshot s).scan = s.scan := by simp [beginSnapshot]
@[simp] theorem beginSnapshot_bellows (s : State) : (beginSnapshot s).bellows = s.bellows := by simp [beginSnapshot]
@[simp] theorem beginSnapshot_map (s : State) : (beginSnapshot s).map = s.map := by simp [beginSnapshot]
@[simp] theorem beginSnapshot_eng (s : State) : (beginSnapshot s).eng = s.eng := by simp [beginSnapshot]
@[simp] theorem beginSnapshot_voice (s : State) : (beginSnapshot s).voice = s.voice := by simp [beginSnapshot]
@[simp] theorem beginSnapshot_tone (s : State) : (beginSnapshot s).tone = s.tone := by simp [beginSnapshot]
@[simp] theorem beginSnapshot_ctrl (s : State) : (beginSnapshot s).ctrl = s.ctrl := by simp [beginSnapshot]
@[simp] theorem beginSnapshot_pending (s : State) : (beginSnapshot s).pending = s.pending := by simp [beginSnapshot]

end Sys2Proof.Machine
end

