-- ==== Sys2Proof/Laws/FetchFrames.lean ====
section
/-! SUPPORT. The map unit's operations change the map unit, and the choice of an argument read the control unit. -/

namespace Sys2Proof.Machine

/-! ### noteChosen -/

@[simp] theorem noteChosen_pins (k : FetchKind) (s : State) : (noteChosen k s).pins = s.pins := by cases k <;> simp [noteChosen]
@[simp] theorem noteChosen_ports (k : FetchKind) (s : State) : (noteChosen k s).ports = s.ports := by cases k <;> simp [noteChosen]
@[simp] theorem noteChosen_timebase (k : FetchKind) (s : State) : (noteChosen k s).timebase = s.timebase := by cases k <;> simp [noteChosen]
@[simp] theorem noteChosen_player (k : FetchKind) (s : State) : (noteChosen k s).player = s.player := by cases k <;> simp [noteChosen]
@[simp] theorem noteChosen_arb (k : FetchKind) (s : State) : (noteChosen k s).arb = s.arb := by cases k <;> simp [noteChosen]
@[simp] theorem noteChosen_scan (k : FetchKind) (s : State) : (noteChosen k s).scan = s.scan := by cases k <;> simp [noteChosen]
@[simp] theorem noteChosen_bellows (k : FetchKind) (s : State) : (noteChosen k s).bellows = s.bellows := by cases k <;> simp [noteChosen]
@[simp] theorem noteChosen_eng (k : FetchKind) (s : State) : (noteChosen k s).eng = s.eng := by cases k <;> simp [noteChosen]
@[simp] theorem noteChosen_voice (k : FetchKind) (s : State) : (noteChosen k s).voice = s.voice := by cases k <;> simp [noteChosen]
@[simp] theorem noteChosen_tone (k : FetchKind) (s : State) : (noteChosen k s).tone = s.tone := by cases k <;> simp [noteChosen]
@[simp] theorem noteChosen_stat (k : FetchKind) (s : State) : (noteChosen k s).stat = s.stat := by cases k <;> simp [noteChosen]
@[simp] theorem noteChosen_pending (k : FetchKind) (s : State) : (noteChosen k s).pending = s.pending := by cases k <;> simp [noteChosen]

/-! ### chooseFetch -/

@[simp] theorem chooseFetch_pins (s : State) : (chooseFetch s).pins = s.pins := by (unfold chooseFetch; repeat' split) <;> simp
@[simp] theorem chooseFetch_ports (s : State) : (chooseFetch s).ports = s.ports := by (unfold chooseFetch; repeat' split) <;> simp
@[simp] theorem chooseFetch_timebase (s : State) : (chooseFetch s).timebase = s.timebase := by (unfold chooseFetch; repeat' split) <;> simp
@[simp] theorem chooseFetch_player (s : State) : (chooseFetch s).player = s.player := by (unfold chooseFetch; repeat' split) <;> simp
@[simp] theorem chooseFetch_arb (s : State) : (chooseFetch s).arb = s.arb := by (unfold chooseFetch; repeat' split) <;> simp
@[simp] theorem chooseFetch_scan (s : State) : (chooseFetch s).scan = s.scan := by (unfold chooseFetch; repeat' split) <;> simp
@[simp] theorem chooseFetch_bellows (s : State) : (chooseFetch s).bellows = s.bellows := by (unfold chooseFetch; repeat' split) <;> simp
@[simp] theorem chooseFetch_eng (s : State) : (chooseFetch s).eng = s.eng := by (unfold chooseFetch; repeat' split) <;> simp
@[simp] theorem chooseFetch_voice (s : State) : (chooseFetch s).voice = s.voice := by (unfold chooseFetch; repeat' split) <;> simp
@[simp] theorem chooseFetch_tone (s : State) : (chooseFetch s).tone = s.tone := by (unfold chooseFetch; repeat' split) <;> simp
@[simp] theorem chooseFetch_stat (s : State) : (chooseFetch s).stat = s.stat := by (unfold chooseFetch; repeat' split) <;> simp
@[simp] theorem chooseFetch_pending (s : State) : (chooseFetch s).pending = s.pending := by (unfold chooseFetch; repeat' split) <;> simp

/-! ### endFetch -/

@[simp] theorem endFetch_pins (s : State) : (endFetch s).pins = s.pins := by simp [endFetch]
@[simp] theorem endFetch_ports (s : State) : (endFetch s).ports = s.ports := by simp [endFetch]
@[simp] theorem endFetch_timebase (s : State) : (endFetch s).timebase = s.timebase := by simp [endFetch]
@[simp] theorem endFetch_player (s : State) : (endFetch s).player = s.player := by simp [endFetch]
@[simp] theorem endFetch_arb (s : State) : (endFetch s).arb = s.arb := by simp [endFetch]
@[simp] theorem endFetch_scan (s : State) : (endFetch s).scan = s.scan := by simp [endFetch]
@[simp] theorem endFetch_bellows (s : State) : (endFetch s).bellows = s.bellows := by simp [endFetch]
@[simp] theorem endFetch_eng (s : State) : (endFetch s).eng = s.eng := by simp [endFetch]
@[simp] theorem endFetch_voice (s : State) : (endFetch s).voice = s.voice := by simp [endFetch]
@[simp] theorem endFetch_tone (s : State) : (endFetch s).tone = s.tone := by simp [endFetch]
@[simp] theorem endFetch_ctrl (s : State) : (endFetch s).ctrl = s.ctrl := by simp [endFetch]
@[simp] theorem endFetch_stat (s : State) : (endFetch s).stat = s.stat := by simp [endFetch]
@[simp] theorem endFetch_pending (s : State) : (endFetch s).pending = s.pending := by simp [endFetch]

/-! ### overtake -/

@[simp] theorem overtake_pins (w : Bank → Pos → Bool) (s : State) : (overtake w s).pins = s.pins := by (unfold overtake; repeat' split) <;> simp
@[simp] theorem overtake_ports (w : Bank → Pos → Bool) (s : State) : (overtake w s).ports = s.ports := by (unfold overtake; repeat' split) <;> simp
@[simp] theorem overtake_timebase (w : Bank → Pos → Bool) (s : State) : (overtake w s).timebase = s.timebase := by (unfold overtake; repeat' split) <;> simp
@[simp] theorem overtake_player (w : Bank → Pos → Bool) (s : State) : (overtake w s).player = s.player := by (unfold overtake; repeat' split) <;> simp
@[simp] theorem overtake_arb (w : Bank → Pos → Bool) (s : State) : (overtake w s).arb = s.arb := by (unfold overtake; repeat' split) <;> simp
@[simp] theorem overtake_scan (w : Bank → Pos → Bool) (s : State) : (overtake w s).scan = s.scan := by (unfold overtake; repeat' split) <;> simp
@[simp] theorem overtake_bellows (w : Bank → Pos → Bool) (s : State) : (overtake w s).bellows = s.bellows := by (unfold overtake; repeat' split) <;> simp
@[simp] theorem overtake_eng (w : Bank → Pos → Bool) (s : State) : (overtake w s).eng = s.eng := by (unfold overtake; repeat' split) <;> simp
@[simp] theorem overtake_voice (w : Bank → Pos → Bool) (s : State) : (overtake w s).voice = s.voice := by (unfold overtake; repeat' split) <;> simp
@[simp] theorem overtake_tone (w : Bank → Pos → Bool) (s : State) : (overtake w s).tone = s.tone := by (unfold overtake; repeat' split) <;> simp
@[simp] theorem overtake_ctrl (w : Bank → Pos → Bool) (s : State) : (overtake w s).ctrl = s.ctrl := by (unfold overtake; repeat' split) <;> simp
@[simp] theorem overtake_stat (w : Bank → Pos → Bool) (s : State) : (overtake w s).stat = s.stat := by (unfold overtake; repeat' split) <;> simp
@[simp] theorem overtake_pending (w : Bank → Pos → Bool) (s : State) : (overtake w s).pending = s.pending := by (unfold overtake; repeat' split) <;> simp

/-! ### writesEntry -/

@[simp] theorem writesEntry_pins (b : Bank) (p : Pos) (s : State) : (writesEntry b p s).pins = s.pins := by simp [writesEntry]
@[simp] theorem writesEntry_ports (b : Bank) (p : Pos) (s : State) : (writesEntry b p s).ports = s.ports := by simp [writesEntry]
@[simp] theorem writesEntry_timebase (b : Bank) (p : Pos) (s : State) : (writesEntry b p s).timebase = s.timebase := by simp [writesEntry]
@[simp] theorem writesEntry_player (b : Bank) (p : Pos) (s : State) : (writesEntry b p s).player = s.player := by simp [writesEntry]
@[simp] theorem writesEntry_arb (b : Bank) (p : Pos) (s : State) : (writesEntry b p s).arb = s.arb := by simp [writesEntry]
@[simp] theorem writesEntry_scan (b : Bank) (p : Pos) (s : State) : (writesEntry b p s).scan = s.scan := by simp [writesEntry]
@[simp] theorem writesEntry_bellows (b : Bank) (p : Pos) (s : State) : (writesEntry b p s).bellows = s.bellows := by simp [writesEntry]
@[simp] theorem writesEntry_eng (b : Bank) (p : Pos) (s : State) : (writesEntry b p s).eng = s.eng := by simp [writesEntry]
@[simp] theorem writesEntry_voice (b : Bank) (p : Pos) (s : State) : (writesEntry b p s).voice = s.voice := by simp [writesEntry]
@[simp] theorem writesEntry_tone (b : Bank) (p : Pos) (s : State) : (writesEntry b p s).tone = s.tone := by simp [writesEntry]
@[simp] theorem writesEntry_ctrl (b : Bank) (p : Pos) (s : State) : (writesEntry b p s).ctrl = s.ctrl := by simp [writesEntry]
@[simp] theorem writesEntry_stat (b : Bank) (p : Pos) (s : State) : (writesEntry b p s).stat = s.stat := by simp [writesEntry]
@[simp] theorem writesEntry_pending (b : Bank) (p : Pos) (s : State) : (writesEntry b p s).pending = s.pending := by simp [writesEntry]

/-! ### flushCache -/

@[simp] theorem flushCache_pins (s : State) : (flushCache s).pins = s.pins := by simp [flushCache]
@[simp] theorem flushCache_ports (s : State) : (flushCache s).ports = s.ports := by simp [flushCache]
@[simp] theorem flushCache_timebase (s : State) : (flushCache s).timebase = s.timebase := by simp [flushCache]
@[simp] theorem flushCache_player (s : State) : (flushCache s).player = s.player := by simp [flushCache]
@[simp] theorem flushCache_arb (s : State) : (flushCache s).arb = s.arb := by simp [flushCache]
@[simp] theorem flushCache_scan (s : State) : (flushCache s).scan = s.scan := by simp [flushCache]
@[simp] theorem flushCache_bellows (s : State) : (flushCache s).bellows = s.bellows := by simp [flushCache]
@[simp] theorem flushCache_eng (s : State) : (flushCache s).eng = s.eng := by simp [flushCache]
@[simp] theorem flushCache_voice (s : State) : (flushCache s).voice = s.voice := by simp [flushCache]
@[simp] theorem flushCache_tone (s : State) : (flushCache s).tone = s.tone := by simp [flushCache]
@[simp] theorem flushCache_ctrl (s : State) : (flushCache s).ctrl = s.ctrl := by simp [flushCache]
@[simp] theorem flushCache_stat (s : State) : (flushCache s).stat = s.stat := by simp [flushCache]
@[simp] theorem flushCache_pending (s : State) : (flushCache s).pending = s.pending := by simp [flushCache]

end Sys2Proof.Machine
end

