-- ==== Sys2Proof/Laws/VoiceFrames.lean ====
section
/-! SUPPORT. What the voice writer, the held-read slot and a push leave as it is. -/

namespace Sys2Proof.Machine

/-! ### tryFill -/

@[simp] theorem tryFill_pins (s : State) : (tryFill s).pins = s.pins := by (unfold tryFill; repeat' split) <;> simp
@[simp] theorem tryFill_ports (s : State) : (tryFill s).ports = s.ports := by (unfold tryFill; repeat' split) <;> simp
@[simp] theorem tryFill_timebase (s : State) : (tryFill s).timebase = s.timebase := by (unfold tryFill; repeat' split) <;> simp
@[simp] theorem tryFill_player (s : State) : (tryFill s).player = s.player := by (unfold tryFill; repeat' split) <;> simp
@[simp] theorem tryFill_arb (s : State) : (tryFill s).arb = s.arb := by (unfold tryFill; repeat' split) <;> simp
@[simp] theorem tryFill_scan (s : State) : (tryFill s).scan = s.scan := by (unfold tryFill; repeat' split) <;> simp
@[simp] theorem tryFill_bellows (s : State) : (tryFill s).bellows = s.bellows := by (unfold tryFill; repeat' split) <;> simp
@[simp] theorem tryFill_map (s : State) : (tryFill s).map = s.map := by (unfold tryFill; repeat' split) <;> simp
@[simp] theorem tryFill_eng (s : State) : (tryFill s).eng = s.eng := by (unfold tryFill; repeat' split) <;> simp
@[simp] theorem tryFill_voice (s : State) : (tryFill s).voice = s.voice := by (unfold tryFill; repeat' split) <;> simp
@[simp] theorem tryFill_ctrl (s : State) : (tryFill s).ctrl = s.ctrl := by (unfold tryFill; repeat' split) <;> simp
@[simp] theorem tryFill_stat (s : State) : (tryFill s).stat = s.stat := by (unfold tryFill; repeat' split) <;> simp
@[simp] theorem tryFill_pending (s : State) : (tryFill s).pending = s.pending := by (unfold tryFill; repeat' split) <;> simp

/-! ### closeGroups -/

@[simp] theorem closeGroups_pins (s : State) : (closeGroups s).pins = s.pins := by simp [closeGroups]
@[simp] theorem closeGroups_ports (s : State) : (closeGroups s).ports = s.ports := by simp [closeGroups]
@[simp] theorem closeGroups_timebase (s : State) : (closeGroups s).timebase = s.timebase := by simp [closeGroups]
@[simp] theorem closeGroups_player (s : State) : (closeGroups s).player = s.player := by simp [closeGroups]
@[simp] theorem closeGroups_arb (s : State) : (closeGroups s).arb = s.arb := by simp [closeGroups]
@[simp] theorem closeGroups_scan (s : State) : (closeGroups s).scan = s.scan := by simp [closeGroups]
@[simp] theorem closeGroups_bellows (s : State) : (closeGroups s).bellows = s.bellows := by simp [closeGroups]
@[simp] theorem closeGroups_map (s : State) : (closeGroups s).map = s.map := by simp [closeGroups]
@[simp] theorem closeGroups_eng (s : State) : (closeGroups s).eng = s.eng := by simp [closeGroups]
@[simp] theorem closeGroups_ctrl (s : State) : (closeGroups s).ctrl = s.ctrl := by simp [closeGroups]
@[simp] theorem closeGroups_stat (s : State) : (closeGroups s).stat = s.stat := by simp [closeGroups]
@[simp] theorem closeGroups_pending (s : State) : (closeGroups s).pending = s.pending := by simp [closeGroups]

/-! ### endFilling -/

@[simp] theorem endFilling_pins (s : State) : (endFilling s).pins = s.pins := by simp [endFilling]
@[simp] theorem endFilling_ports (s : State) : (endFilling s).ports = s.ports := by simp [endFilling]
@[simp] theorem endFilling_timebase (s : State) : (endFilling s).timebase = s.timebase := by simp [endFilling]
@[simp] theorem endFilling_player (s : State) : (endFilling s).player = s.player := by simp [endFilling]
@[simp] theorem endFilling_arb (s : State) : (endFilling s).arb = s.arb := by simp [endFilling]
@[simp] theorem endFilling_scan (s : State) : (endFilling s).scan = s.scan := by simp [endFilling]
@[simp] theorem endFilling_bellows (s : State) : (endFilling s).bellows = s.bellows := by simp [endFilling]
@[simp] theorem endFilling_map (s : State) : (endFilling s).map = s.map := by simp [endFilling]
@[simp] theorem endFilling_eng (s : State) : (endFilling s).eng = s.eng := by simp [endFilling]
@[simp] theorem endFilling_ctrl (s : State) : (endFilling s).ctrl = s.ctrl := by simp [endFilling]
@[simp] theorem endFilling_stat (s : State) : (endFilling s).stat = s.stat := by simp [endFilling]
@[simp] theorem endFilling_pending (s : State) : (endFilling s).pending = s.pending := by simp [endFilling]

/-! ### doPush -/

@[simp] theorem doPush_pins (p : Push) (s : State) : (doPush p s).pins = s.pins := by unfold doPush; simp only []; split <;> simp
@[simp] theorem doPush_ports (p : Push) (s : State) : (doPush p s).ports = s.ports := by unfold doPush; simp only []; split <;> simp
@[simp] theorem doPush_timebase (p : Push) (s : State) : (doPush p s).timebase = s.timebase := by unfold doPush; simp only []; split <;> simp
@[simp] theorem doPush_player (p : Push) (s : State) : (doPush p s).player = s.player := by unfold doPush; simp only []; split <;> simp
@[simp] theorem doPush_arb (p : Push) (s : State) : (doPush p s).arb = s.arb := by unfold doPush; simp only []; split <;> simp
@[simp] theorem doPush_scan (p : Push) (s : State) : (doPush p s).scan = s.scan := by unfold doPush; simp only []; split <;> simp
@[simp] theorem doPush_bellows (p : Push) (s : State) : (doPush p s).bellows = s.bellows := by unfold doPush; simp only []; split <;> simp
@[simp] theorem doPush_map (p : Push) (s : State) : (doPush p s).map = s.map := by unfold doPush; simp only []; split <;> simp
@[simp] theorem doPush_ctrl (p : Push) (s : State) : (doPush p s).ctrl = s.ctrl := by unfold doPush; simp only []; split <;> simp
@[simp] theorem doPush_pending (p : Push) (s : State) : (doPush p s).pending = s.pending := by unfold doPush; simp only []; split <;> simp

end Sys2Proof.Machine
end

