-- ==== Sys2Proof/Laws/ControlFrames.lean ====
section
/-! SUPPORT. What the operations that reach several blocks leave as it is. -/

namespace Sys2Proof.Machine

/-! ### workOut -/

@[simp] theorem workOut_pins (s : State) : (workOut s).pins = s.pins := by simp [workOut]
@[simp] theorem workOut_ports (s : State) : (workOut s).ports = s.ports := by simp [workOut]
@[simp] theorem workOut_timebase (s : State) : (workOut s).timebase = s.timebase := by simp [workOut]
@[simp] theorem workOut_player (s : State) : (workOut s).player = s.player := by simp [workOut]
@[simp] theorem workOut_arb (s : State) : (workOut s).arb = s.arb := by simp [workOut]
@[simp] theorem workOut_scan (s : State) : (workOut s).scan = s.scan := by simp [workOut]
@[simp] theorem workOut_bellows (s : State) : (workOut s).bellows = s.bellows := by simp [workOut]
@[simp] theorem workOut_map (s : State) : (workOut s).map = s.map := by simp [workOut]
@[simp] theorem workOut_eng (s : State) : (workOut s).eng = s.eng := by simp [workOut]
@[simp] theorem workOut_voice (s : State) : (workOut s).voice = s.voice := by simp [workOut]
@[simp] theorem workOut_tone (s : State) : (workOut s).tone = s.tone := by simp [workOut]
@[simp] theorem workOut_pending (s : State) : (workOut s).pending = s.pending := by simp [workOut]

/-! ### workOutSustain -/

@[simp] theorem workOutSustain_pins (s : State) : (workOutSustain s).pins = s.pins := by unfold workOutSustain; simp only []; split <;> simp
@[simp] theorem workOutSustain_ports (s : State) : (workOutSustain s).ports = s.ports := by unfold workOutSustain; simp only []; split <;> simp
@[simp] theorem workOutSustain_timebase (s : State) : (workOutSustain s).timebase = s.timebase := by unfold workOutSustain; simp only []; split <;> simp
@[simp] theorem workOutSustain_player (s : State) : (workOutSustain s).player = s.player := by unfold workOutSustain; simp only []; split <;> simp
@[simp] theorem workOutSustain_arb (s : State) : (workOutSustain s).arb = s.arb := by unfold workOutSustain; simp only []; split <;> simp
@[simp] theorem workOutSustain_scan (s : State) : (workOutSustain s).scan = s.scan := by unfold workOutSustain; simp only []; split <;> simp
@[simp] theorem workOutSustain_bellows (s : State) : (workOutSustain s).bellows = s.bellows := by unfold workOutSustain; simp only []; split <;> simp
@[simp] theorem workOutSustain_map (s : State) : (workOutSustain s).map = s.map := by unfold workOutSustain; simp only []; split <;> simp
@[simp] theorem workOutSustain_voice (s : State) : (workOutSustain s).voice = s.voice := by unfold workOutSustain; simp only []; split <;> simp
@[simp] theorem workOutSustain_tone (s : State) : (workOutSustain s).tone = s.tone := by unfold workOutSustain; simp only []; split <;> simp
@[simp] theorem workOutSustain_pending (s : State) : (workOutSustain s).pending = s.pending := by unfold workOutSustain; simp only []; split <;> simp

/-! ### setOp -/

@[simp] theorem setOp_pins (o : OpState) (s : State) : (setOp o s).pins = s.pins := by simp [setOp]
@[simp] theorem setOp_ports (o : OpState) (s : State) : (setOp o s).ports = s.ports := by simp [setOp]
@[simp] theorem setOp_timebase (o : OpState) (s : State) : (setOp o s).timebase = s.timebase := by simp [setOp]
@[simp] theorem setOp_player (o : OpState) (s : State) : (setOp o s).player = s.player := by simp [setOp]
@[simp] theorem setOp_arb (o : OpState) (s : State) : (setOp o s).arb = s.arb := by simp [setOp]
@[simp] theorem setOp_scan (o : OpState) (s : State) : (setOp o s).scan = s.scan := by simp [setOp]
@[simp] theorem setOp_bellows (o : OpState) (s : State) : (setOp o s).bellows = s.bellows := by simp [setOp]
@[simp] theorem setOp_map (o : OpState) (s : State) : (setOp o s).map = s.map := by simp [setOp]
@[simp] theorem setOp_eng (o : OpState) (s : State) : (setOp o s).eng = s.eng := by simp [setOp]
@[simp] theorem setOp_voice (o : OpState) (s : State) : (setOp o s).voice = s.voice := by simp [setOp]
@[simp] theorem setOp_tone (o : OpState) (s : State) : (setOp o s).tone = s.tone := by simp [setOp]
@[simp] theorem setOp_pending (o : OpState) (s : State) : (setOp o s).pending = s.pending := by simp [setOp]

/-! ### completeSwap -/

@[simp] theorem completeSwap_pins (s : State) : (completeSwap s).pins = s.pins := by simp [completeSwap]
@[simp] theorem completeSwap_ports (s : State) : (completeSwap s).ports = s.ports := by simp [completeSwap]
@[simp] theorem completeSwap_timebase (s : State) : (completeSwap s).timebase = s.timebase := by simp [completeSwap]
@[simp] theorem completeSwap_player (s : State) : (completeSwap s).player = s.player := by simp [completeSwap]
@[simp] theorem completeSwap_arb (s : State) : (completeSwap s).arb = s.arb := by simp [completeSwap]
@[simp] theorem completeSwap_scan (s : State) : (completeSwap s).scan = s.scan := by simp [completeSwap]
@[simp] theorem completeSwap_bellows (s : State) : (completeSwap s).bellows = s.bellows := by simp [completeSwap]
@[simp] theorem completeSwap_map (s : State) : (completeSwap s).map = s.map := by simp [completeSwap]
@[simp] theorem completeSwap_eng (s : State) : (completeSwap s).eng = s.eng := by simp [completeSwap]
@[simp] theorem completeSwap_voice (s : State) : (completeSwap s).voice = s.voice := by simp [completeSwap]
@[simp] theorem completeSwap_tone (s : State) : (completeSwap s).tone = s.tone := by simp [completeSwap]
@[simp] theorem completeSwap_pending (s : State) : (completeSwap s).pending = s.pending := by simp [completeSwap]

/-! ### takeSwap -/

@[simp] theorem takeSwap_pins (w : Swap) (s : State) : (takeSwap w s).pins = s.pins := by unfold takeSwap; simp only []; split <;> simp
@[simp] theorem takeSwap_ports (w : Swap) (s : State) : (takeSwap w s).ports = s.ports := by unfold takeSwap; simp only []; split <;> simp
@[simp] theorem takeSwap_timebase (w : Swap) (s : State) : (takeSwap w s).timebase = s.timebase := by unfold takeSwap; simp only []; split <;> simp
@[simp] theorem takeSwap_player (w : Swap) (s : State) : (takeSwap w s).player = s.player := by unfold takeSwap; simp only []; split <;> simp
@[simp] theorem takeSwap_arb (w : Swap) (s : State) : (takeSwap w s).arb = s.arb := by unfold takeSwap; simp only []; split <;> simp
@[simp] theorem takeSwap_scan (w : Swap) (s : State) : (takeSwap w s).scan = s.scan := by unfold takeSwap; simp only []; split <;> simp
@[simp] theorem takeSwap_bellows (w : Swap) (s : State) : (takeSwap w s).bellows = s.bellows := by unfold takeSwap; simp only []; split <;> simp
@[simp] theorem takeSwap_map (w : Swap) (s : State) : (takeSwap w s).map = s.map := by unfold takeSwap; simp only []; split <;> simp
@[simp] theorem takeSwap_voice (w : Swap) (s : State) : (takeSwap w s).voice = s.voice := by unfold takeSwap; simp only []; split <;> simp
@[simp] theorem takeSwap_tone (w : Swap) (s : State) : (takeSwap w s).tone = s.tone := by unfold takeSwap; simp only []; split <;> simp
@[simp] theorem takeSwap_pending (w : Swap) (s : State) : (takeSwap w s).pending = s.pending := by unfold takeSwap; simp only []; split <;> simp

/-! ### testSwap -/

@[simp] theorem testSwap_pins (s : State) : (testSwap s).pins = s.pins := by (unfold testSwap; repeat' split) <;> simp
@[simp] theorem testSwap_ports (s : State) : (testSwap s).ports = s.ports := by (unfold testSwap; repeat' split) <;> simp
@[simp] theorem testSwap_timebase (s : State) : (testSwap s).timebase = s.timebase := by (unfold testSwap; repeat' split) <;> simp
@[simp] theorem testSwap_player (s : State) : (testSwap s).player = s.player := by (unfold testSwap; repeat' split) <;> simp
@[simp] theorem testSwap_arb (s : State) : (testSwap s).arb = s.arb := by (unfold testSwap; repeat' split) <;> simp
@[simp] theorem testSwap_scan (s : State) : (testSwap s).scan = s.scan := by (unfold testSwap; repeat' split) <;> simp
@[simp] theorem testSwap_bellows (s : State) : (testSwap s).bellows = s.bellows := by (unfold testSwap; repeat' split) <;> simp
@[simp] theorem testSwap_map (s : State) : (testSwap s).map = s.map := by (unfold testSwap; repeat' split) <;> simp
@[simp] theorem testSwap_voice (s : State) : (testSwap s).voice = s.voice := by (unfold testSwap; repeat' split) <;> simp
@[simp] theorem testSwap_tone (s : State) : (testSwap s).tone = s.tone := by (unfold testSwap; repeat' split) <;> simp
@[simp] theorem testSwap_pending (s : State) : (testSwap s).pending = s.pending := by (unfold testSwap; repeat' split) <;> simp

/-! ### endRestrike -/

@[simp] theorem endRestrike_pins (s : State) : (endRestrike s).pins = s.pins := by unfold endRestrike; split <;> simp
@[simp] theorem endRestrike_ports (s : State) : (endRestrike s).ports = s.ports := by unfold endRestrike; split <;> simp
@[simp] theorem endRestrike_timebase (s : State) : (endRestrike s).timebase = s.timebase := by unfold endRestrike; split <;> simp
@[simp] theorem endRestrike_player (s : State) : (endRestrike s).player = s.player := by unfold endRestrike; split <;> simp
@[simp] theorem endRestrike_arb (s : State) : (endRestrike s).arb = s.arb := by unfold endRestrike; split <;> simp
@[simp] theorem endRestrike_scan (s : State) : (endRestrike s).scan = s.scan := by unfold endRestrike; split <;> simp
@[simp] theorem endRestrike_bellows (s : State) : (endRestrike s).bellows = s.bellows := by unfold endRestrike; split <;> simp
@[simp] theorem endRestrike_map (s : State) : (endRestrike s).map = s.map := by unfold endRestrike; split <;> simp
@[simp] theorem endRestrike_voice (s : State) : (endRestrike s).voice = s.voice := by unfold endRestrike; split <;> simp
@[simp] theorem endRestrike_tone (s : State) : (endRestrike s).tone = s.tone := by unfold endRestrike; split <;> simp
@[simp] theorem endRestrike_pending (s : State) : (endRestrike s).pending = s.pending := by unfold endRestrike; split <;> simp

/-! ### leaveFetch -/

@[simp] theorem leaveFetch_pins (w : Wait) (s : State) : (leaveFetch w s).pins = s.pins := by (unfold leaveFetch; repeat' split) <;> simp
@[simp] theorem leaveFetch_ports (w : Wait) (s : State) : (leaveFetch w s).ports = s.ports := by (unfold leaveFetch; repeat' split) <;> simp
@[simp] theorem leaveFetch_timebase (w : Wait) (s : State) : (leaveFetch w s).timebase = s.timebase := by (unfold leaveFetch; repeat' split) <;> simp
@[simp] theorem leaveFetch_player (w : Wait) (s : State) : (leaveFetch w s).player = s.player := by (unfold leaveFetch; repeat' split) <;> simp
@[simp] theorem leaveFetch_arb (w : Wait) (s : State) : (leaveFetch w s).arb = s.arb := by (unfold leaveFetch; repeat' split) <;> simp
@[simp] theorem leaveFetch_scan (w : Wait) (s : State) : (leaveFetch w s).scan = s.scan := by (unfold leaveFetch; repeat' split) <;> simp
@[simp] theorem leaveFetch_bellows (w : Wait) (s : State) : (leaveFetch w s).bellows = s.bellows := by (unfold leaveFetch; repeat' split) <;> simp
@[simp] theorem leaveFetch_voice (w : Wait) (s : State) : (leaveFetch w s).voice = s.voice := by (unfold leaveFetch; repeat' split) <;> simp
@[simp] theorem leaveFetch_tone (w : Wait) (s : State) : (leaveFetch w s).tone = s.tone := by (unfold leaveFetch; repeat' split) <;> simp
@[simp] theorem leaveFetch_ctrl (w : Wait) (s : State) : (leaveFetch w s).ctrl = s.ctrl := by (unfold leaveFetch; repeat' split) <;> simp
@[simp] theorem leaveFetch_stat (w : Wait) (s : State) : (leaveFetch w s).stat = s.stat := by (unfold leaveFetch; repeat' split) <;> simp
@[simp] theorem leaveFetch_pending (w : Wait) (s : State) : (leaveFetch w s).pending = s.pending := by (unfold leaveFetch; repeat' split) <;> simp

/-! ### endItem -/

@[simp] theorem endItem_pins (s : State) : (endItem s).pins = s.pins := by unfold endItem; split <;> simp
@[simp] theorem endItem_ports (s : State) : (endItem s).ports = s.ports := by unfold endItem; split <;> simp
@[simp] theorem endItem_timebase (s : State) : (endItem s).timebase = s.timebase := by unfold endItem; split <;> simp
@[simp] theorem endItem_player (s : State) : (endItem s).player = s.player := by unfold endItem; split <;> simp
@[simp] theorem endItem_arb (s : State) : (endItem s).arb = s.arb := by unfold endItem; split <;> simp
@[simp] theorem endItem_scan (s : State) : (endItem s).scan = s.scan := by unfold endItem; split <;> simp
@[simp] theorem endItem_bellows (s : State) : (endItem s).bellows = s.bellows := by unfold endItem; split <;> simp
@[simp] theorem endItem_ctrl (s : State) : (endItem s).ctrl = s.ctrl := by unfold endItem; split <;> simp
@[simp] theorem endItem_stat (s : State) : (endItem s).stat = s.stat := by unfold endItem; split <;> simp
@[simp] theorem endItem_pending (s : State) : (endItem s).pending = s.pending := by unfold endItem; split <;> simp

/-! ### endForHush -/

@[simp] theorem endForHush_pins (s : State) : (endForHush s).pins = s.pins := by unfold endForHush; split <;> simp
@[simp] theorem endForHush_ports (s : State) : (endForHush s).ports = s.ports := by unfold endForHush; split <;> simp
@[simp] theorem endForHush_timebase (s : State) : (endForHush s).timebase = s.timebase := by unfold endForHush; split <;> simp
@[simp] theorem endForHush_player (s : State) : (endForHush s).player = s.player := by unfold endForHush; split <;> simp
@[simp] theorem endForHush_arb (s : State) : (endForHush s).arb = s.arb := by unfold endForHush; split <;> simp
@[simp] theorem endForHush_scan (s : State) : (endForHush s).scan = s.scan := by unfold endForHush; split <;> simp
@[simp] theorem endForHush_bellows (s : State) : (endForHush s).bellows = s.bellows := by unfold endForHush; split <;> simp
@[simp] theorem endForHush_ctrl (s : State) : (endForHush s).ctrl = s.ctrl := by unfold endForHush; split <;> simp
@[simp] theorem endForHush_stat (s : State) : (endForHush s).stat = s.stat := by unfold endForHush; split <;> simp
@[simp] theorem endForHush_pending (s : State) : (endForHush s).pending = s.pending := by unfold endForHush; split <;> simp

/-! ### announceHush -/

@[simp] theorem announceHush_pins (s : State) : (announceHush s).pins = s.pins := by simp [announceHush]
@[simp] theorem announceHush_ports (s : State) : (announceHush s).ports = s.ports := by simp [announceHush]
@[simp] theorem announceHush_timebase (s : State) : (announceHush s).timebase = s.timebase := by simp [announceHush]
@[simp] theorem announceHush_player (s : State) : (announceHush s).player = s.player := by simp [announceHush]
@[simp] theorem announceHush_arb (s : State) : (announceHush s).arb = s.arb := by simp [announceHush]
@[simp] theorem announceHush_ctrl (s : State) : (announceHush s).ctrl = s.ctrl := by simp [announceHush]
@[simp] theorem announceHush_pending (s : State) : (announceHush s).pending = s.pending := by simp [announceHush]

/-! ### enterPerforming -/

@[simp] theorem enterPerforming_pins (s : State) : (enterPerforming s).pins = s.pins := by simp [enterPerforming]
@[simp] theorem enterPerforming_ports (s : State) : (enterPerforming s).ports = s.ports := by simp [enterPerforming]
@[simp] theorem enterPerforming_timebase (s : State) : (enterPerforming s).timebase = s.timebase := by simp [enterPerforming]
@[simp] theorem enterPerforming_player (s : State) : (enterPerforming s).player = s.player := by simp [enterPerforming]
@[simp] theorem enterPerforming_arb (s : State) : (enterPerforming s).arb = s.arb := by simp [enterPerforming]
@[simp] theorem enterPerforming_map (s : State) : (enterPerforming s).map = s.map := by simp [enterPerforming]
@[simp] theorem enterPerforming_eng (s : State) : (enterPerforming s).eng = s.eng := by simp [enterPerforming]
@[simp] theorem enterPerforming_voice (s : State) : (enterPerforming s).voice = s.voice := by simp [enterPerforming]
@[simp] theorem enterPerforming_tone (s : State) : (enterPerforming s).tone = s.tone := by simp [enterPerforming]
@[simp] theorem enterPerforming_pending (s : State) : (enterPerforming s).pending = s.pending := by simp [enterPerforming]

/-! ### enterTransparent -/

@[simp] theorem enterTransparent_pins (s : State) : (enterTransparent s).pins = s.pins := by simp [enterTransparent]
@[simp] theorem enterTransparent_ports (s : State) : (enterTransparent s).ports = s.ports := by simp [enterTransparent]
@[simp] theorem enterTransparent_timebase (s : State) : (enterTransparent s).timebase = s.timebase := by simp [enterTransparent]
@[simp] theorem enterTransparent_player (s : State) : (enterTransparent s).player = s.player := by simp [enterTransparent]
@[simp] theorem enterTransparent_arb (s : State) : (enterTransparent s).arb = s.arb := by simp [enterTransparent]
@[simp] theorem enterTransparent_scan (s : State) : (enterTransparent s).scan = s.scan := by simp [enterTransparent]
@[simp] theorem enterTransparent_map (s : State) : (enterTransparent s).map = s.map := by simp [enterTransparent]
@[simp] theorem enterTransparent_voice (s : State) : (enterTransparent s).voice = s.voice := by simp [enterTransparent]
@[simp] theorem enterTransparent_tone (s : State) : (enterTransparent s).tone = s.tone := by simp [enterTransparent]
@[simp] theorem enterTransparent_pending (s : State) : (enterTransparent s).pending = s.pending := by simp [enterTransparent]

/-! ### enterSettling -/

@[simp] theorem enterSettling_pins (s : State) : (enterSettling s).pins = s.pins := by simp [enterSettling]
@[simp] theorem enterSettling_ports (s : State) : (enterSettling s).ports = s.ports := by simp [enterSettling]
@[simp] theorem enterSettling_timebase (s : State) : (enterSettling s).timebase = s.timebase := by simp [enterSettling]
@[simp] theorem enterSettling_player (s : State) : (enterSettling s).player = s.player := by simp [enterSettling]
@[simp] theorem enterSettling_arb (s : State) : (enterSettling s).arb = s.arb := by simp [enterSettling]
@[simp] theorem enterSettling_map (s : State) : (enterSettling s).map = s.map := by simp [enterSettling]
@[simp] theorem enterSettling_voice (s : State) : (enterSettling s).voice = s.voice := by simp [enterSettling]
@[simp] theorem enterSettling_tone (s : State) : (enterSettling s).tone = s.tone := by simp [enterSettling]
@[simp] theorem enterSettling_pending (s : State) : (enterSettling s).pending = s.pending := by simp [enterSettling]

/-! ### endSettling -/

@[simp] theorem endSettling_pins (s : State) : (endSettling s).pins = s.pins := by (unfold endSettling; simp only []; repeat' split) <;> simp
@[simp] theorem endSettling_ports (s : State) : (endSettling s).ports = s.ports := by (unfold endSettling; simp only []; repeat' split) <;> simp
@[simp] theorem endSettling_timebase (s : State) : (endSettling s).timebase = s.timebase := by (unfold endSettling; simp only []; repeat' split) <;> simp
@[simp] theorem endSettling_player (s : State) : (endSettling s).player = s.player := by (unfold endSettling; simp only []; repeat' split) <;> simp
@[simp] theorem endSettling_arb (s : State) : (endSettling s).arb = s.arb := by (unfold endSettling; simp only []; repeat' split) <;> simp
@[simp] theorem endSettling_scan (s : State) : (endSettling s).scan = s.scan := by (unfold endSettling; simp only []; repeat' split) <;> simp
@[simp] theorem endSettling_pending (s : State) : (endSettling s).pending = s.pending := by (unfold endSettling; simp only []; repeat' split) <;> simp

/-! ### beginSettleCut -/

@[simp] theorem beginSettleCut_pins (s : State) : (beginSettleCut s).pins = s.pins := by (unfold beginSettleCut; simp only []; repeat' split) <;> simp
@[simp] theorem beginSettleCut_ports (s : State) : (beginSettleCut s).ports = s.ports := by (unfold beginSettleCut; simp only []; repeat' split) <;> simp
@[simp] theorem beginSettleCut_timebase (s : State) : (beginSettleCut s).timebase = s.timebase := by (unfold beginSettleCut; simp only []; repeat' split) <;> simp
@[simp] theorem beginSettleCut_player (s : State) : (beginSettleCut s).player = s.player := by (unfold beginSettleCut; simp only []; repeat' split) <;> simp
@[simp] theorem beginSettleCut_arb (s : State) : (beginSettleCut s).arb = s.arb := by (unfold beginSettleCut; simp only []; repeat' split) <;> simp
@[simp] theorem beginSettleCut_scan (s : State) : (beginSettleCut s).scan = s.scan := by (unfold beginSettleCut; simp only []; repeat' split) <;> simp
@[simp] theorem beginSettleCut_bellows (s : State) : (beginSettleCut s).bellows = s.bellows := by (unfold beginSettleCut; simp only []; repeat' split) <;> simp
@[simp] theorem beginSettleCut_stat (s : State) : (beginSettleCut s).stat = s.stat := by (unfold beginSettleCut; simp only []; repeat' split) <;> simp
@[simp] theorem beginSettleCut_pending (s : State) : (beginSettleCut s).pending = s.pending := by (unfold beginSettleCut; simp only []; repeat' split) <;> simp

/-! ### frameScan -/

@[simp] theorem frameScan_pins (s : State) : (frameScan s).pins = s.pins := by unfold frameScan; simp only []; split <;> simp
@[simp] theorem frameScan_ports (s : State) : (frameScan s).ports = s.ports := by unfold frameScan; simp only []; split <;> simp
@[simp] theorem frameScan_timebase (s : State) : (frameScan s).timebase = s.timebase := by unfold frameScan; simp only []; split <;> simp
@[simp] theorem frameScan_player (s : State) : (frameScan s).player = s.player := by unfold frameScan; simp only []; split <;> simp
@[simp] theorem frameScan_arb (s : State) : (frameScan s).arb = s.arb := by unfold frameScan; simp only []; split <;> simp
@[simp] theorem frameScan_bellows (s : State) : (frameScan s).bellows = s.bellows := by unfold frameScan; simp only []; split <;> simp
@[simp] theorem frameScan_map (s : State) : (frameScan s).map = s.map := by unfold frameScan; simp only []; split <;> simp
@[simp] theorem frameScan_voice (s : State) : (frameScan s).voice = s.voice := by unfold frameScan; simp only []; split <;> simp
@[simp] theorem frameScan_tone (s : State) : (frameScan s).tone = s.tone := by unfold frameScan; simp only []; split <;> simp
@[simp] theorem frameScan_ctrl (s : State) : (frameScan s).ctrl = s.ctrl := by unfold frameScan; simp only []; split <;> simp
@[simp] theorem frameScan_pending (s : State) : (frameScan s).pending = s.pending := by unfold frameScan; simp only []; split <;> simp

/-! ### frameSettle -/

@[simp] theorem frameSettle_pins (s : State) : (frameSettle s).pins = s.pins := by (unfold frameSettle; simp only []; repeat' split) <;> simp
@[simp] theorem frameSettle_ports (s : State) : (frameSettle s).ports = s.ports := by (unfold frameSettle; simp only []; repeat' split) <;> simp
@[simp] theorem frameSettle_timebase (s : State) : (frameSettle s).timebase = s.timebase := by (unfold frameSettle; simp only []; repeat' split) <;> simp
@[simp] theorem frameSettle_player (s : State) : (frameSettle s).player = s.player := by (unfold frameSettle; simp only []; repeat' split) <;> simp
@[simp] theorem frameSettle_arb (s : State) : (frameSettle s).arb = s.arb := by (unfold frameSettle; simp only []; repeat' split) <;> simp
@[simp] theorem frameSettle_scan (s : State) : (frameSettle s).scan = s.scan := by (unfold frameSettle; simp only []; repeat' split) <;> simp
@[simp] theorem frameSettle_pending (s : State) : (frameSettle s).pending = s.pending := by (unfold frameSettle; simp only []; repeat' split) <;> simp

/-! ### frameControl -/

@[simp] theorem frameControl_pins (s : State) : (frameControl s).pins = s.pins := by unfold frameControl; split <;> simp
@[simp] theorem frameControl_ports (s : State) : (frameControl s).ports = s.ports := by unfold frameControl; split <;> simp
@[simp] theorem frameControl_timebase (s : State) : (frameControl s).timebase = s.timebase := by unfold frameControl; split <;> simp
@[simp] theorem frameControl_player (s : State) : (frameControl s).player = s.player := by unfold frameControl; split <;> simp
@[simp] theorem frameControl_arb (s : State) : (frameControl s).arb = s.arb := by unfold frameControl; split <;> simp
@[simp] theorem frameControl_scan (s : State) : (frameControl s).scan = s.scan := by unfold frameControl; split <;> simp
@[simp] theorem frameControl_pending (s : State) : (frameControl s).pending = s.pending := by unfold frameControl; split <;> simp

/-! ### frameStart -/

@[simp] theorem frameStart_pins (s : State) : (frameStart s).pins = s.pins := by simp [frameStart]
@[simp] theorem frameStart_ports (s : State) : (frameStart s).ports = s.ports := by simp [frameStart]
@[simp] theorem frameStart_timebase (s : State) : (frameStart s).timebase = s.timebase := by simp [frameStart]
@[simp] theorem frameStart_player (s : State) : (frameStart s).player = s.player := by simp [frameStart]
@[simp] theorem frameStart_arb (s : State) : (frameStart s).arb = s.arb := by simp [frameStart]
@[simp] theorem frameStart_pending (s : State) : (frameStart s).pending = s.pending := by simp [frameStart]

/-! ### enterSnapshotPhase -/

@[simp] theorem enterSnapshotPhase_pins (s : State) : (enterSnapshotPhase s).pins = s.pins := by simp [enterSnapshotPhase]
@[simp] theorem enterSnapshotPhase_ports (s : State) : (enterSnapshotPhase s).ports = s.ports := by simp [enterSnapshotPhase]
@[simp] theorem enterSnapshotPhase_timebase (s : State) : (enterSnapshotPhase s).timebase = s.timebase := by simp [enterSnapshotPhase]
@[simp] theorem enterSnapshotPhase_player (s : State) : (enterSnapshotPhase s).player = s.player := by simp [enterSnapshotPhase]
@[simp] theorem enterSnapshotPhase_arb (s : State) : (enterSnapshotPhase s).arb = s.arb := by simp [enterSnapshotPhase]
@[simp] theorem enterSnapshotPhase_scan (s : State) : (enterSnapshotPhase s).scan = s.scan := by simp [enterSnapshotPhase]
@[simp] theorem enterSnapshotPhase_bellows (s : State) : (enterSnapshotPhase s).bellows = s.bellows := by simp [enterSnapshotPhase]
@[simp] theorem enterSnapshotPhase_map (s : State) : (enterSnapshotPhase s).map = s.map := by simp [enterSnapshotPhase]
@[simp] theorem enterSnapshotPhase_eng (s : State) : (enterSnapshotPhase s).eng = s.eng := by simp [enterSnapshotPhase]
@[simp] theorem enterSnapshotPhase_voice (s : State) : (enterSnapshotPhase s).voice = s.voice := by simp [enterSnapshotPhase]
@[simp] theorem enterSnapshotPhase_tone (s : State) : (enterSnapshotPhase s).tone = s.tone := by simp [enterSnapshotPhase]
@[simp] theorem enterSnapshotPhase_pending (s : State) : (enterSnapshotPhase s).pending = s.pending := by simp [enterSnapshotPhase]

/-! ### endInit -/

@[simp] theorem endInit_pins (s : State) : (endInit s).pins = s.pins := by (unfold endInit; simp only []; repeat' split) <;> simp
@[simp] theorem endInit_ports (s : State) : (endInit s).ports = s.ports := by (unfold endInit; simp only []; repeat' split) <;> simp
@[simp] theorem endInit_timebase (s : State) : (endInit s).timebase = s.timebase := by (unfold endInit; simp only []; repeat' split) <;> simp
@[simp] theorem endInit_player (s : State) : (endInit s).player = s.player := by (unfold endInit; simp only []; repeat' split) <;> simp
@[simp] theorem endInit_arb (s : State) : (endInit s).arb = s.arb := by (unfold endInit; simp only []; repeat' split) <;> simp
@[simp] theorem endInit_voice (s : State) : (endInit s).voice = s.voice := by (unfold endInit; simp only []; repeat' split) <;> simp
@[simp] theorem endInit_tone (s : State) : (endInit s).tone = s.tone := by (unfold endInit; simp only []; repeat' split) <;> simp
@[simp] theorem endInit_pending (s : State) : (endInit s).pending = s.pending := by (unfold endInit; simp only []; repeat' split) <;> simp

end Sys2Proof.Machine
end

