-- ==== Sys2Proof/Laws/EngineFrames.lean ====
section
/-! SUPPORT. What the voicing engine's operations leave as it is. -/

namespace Sys2Proof.Machine

/-! ### afterItem -/

@[simp] theorem afterItem_pins (k : ItemKind) (s : State) : (afterItem k s).pins = s.pins := by (unfold afterItem; repeat' split) <;> simp
@[simp] theorem afterItem_ports (k : ItemKind) (s : State) : (afterItem k s).ports = s.ports := by (unfold afterItem; repeat' split) <;> simp
@[simp] theorem afterItem_timebase (k : ItemKind) (s : State) : (afterItem k s).timebase = s.timebase := by (unfold afterItem; repeat' split) <;> simp
@[simp] theorem afterItem_player (k : ItemKind) (s : State) : (afterItem k s).player = s.player := by (unfold afterItem; repeat' split) <;> simp
@[simp] theorem afterItem_arb (k : ItemKind) (s : State) : (afterItem k s).arb = s.arb := by (unfold afterItem; repeat' split) <;> simp
@[simp] theorem afterItem_scan (k : ItemKind) (s : State) : (afterItem k s).scan = s.scan := by (unfold afterItem; repeat' split) <;> simp
@[simp] theorem afterItem_pending (k : ItemKind) (s : State) : (afterItem k s).pending = s.pending := by (unfold afterItem; repeat' split) <;> simp

/-! ### itemEnd -/

@[simp] theorem itemEnd_pins (k : ItemKind) (s : State) : (itemEnd k s).pins = s.pins := by simp [itemEnd]
@[simp] theorem itemEnd_ports (k : ItemKind) (s : State) : (itemEnd k s).ports = s.ports := by simp [itemEnd]
@[simp] theorem itemEnd_timebase (k : ItemKind) (s : State) : (itemEnd k s).timebase = s.timebase := by simp [itemEnd]
@[simp] theorem itemEnd_player (k : ItemKind) (s : State) : (itemEnd k s).player = s.player := by simp [itemEnd]
@[simp] theorem itemEnd_arb (k : ItemKind) (s : State) : (itemEnd k s).arb = s.arb := by simp [itemEnd]
@[simp] theorem itemEnd_scan (k : ItemKind) (s : State) : (itemEnd k s).scan = s.scan := by simp [itemEnd]
@[simp] theorem itemEnd_pending (k : ItemKind) (s : State) : (itemEnd k s).pending = s.pending := by simp [itemEnd]

/-! ### waitFor -/

@[simp] theorem waitFor_pins (k : ItemKind) (w : Wait) (js : List Job) (s : State) : (waitFor k w js s).pins = s.pins := by simp [waitFor]
@[simp] theorem waitFor_ports (k : ItemKind) (w : Wait) (js : List Job) (s : State) : (waitFor k w js s).ports = s.ports := by simp [waitFor]
@[simp] theorem waitFor_timebase (k : ItemKind) (w : Wait) (js : List Job) (s : State) : (waitFor k w js s).timebase = s.timebase := by simp [waitFor]
@[simp] theorem waitFor_player (k : ItemKind) (w : Wait) (js : List Job) (s : State) : (waitFor k w js s).player = s.player := by simp [waitFor]
@[simp] theorem waitFor_arb (k : ItemKind) (w : Wait) (js : List Job) (s : State) : (waitFor k w js s).arb = s.arb := by simp [waitFor]
@[simp] theorem waitFor_scan (k : ItemKind) (w : Wait) (js : List Job) (s : State) : (waitFor k w js s).scan = s.scan := by simp [waitFor]
@[simp] theorem waitFor_bellows (k : ItemKind) (w : Wait) (js : List Job) (s : State) : (waitFor k w js s).bellows = s.bellows := by simp [waitFor]
@[simp] theorem waitFor_map (k : ItemKind) (w : Wait) (js : List Job) (s : State) : (waitFor k w js s).map = s.map := by simp [waitFor]
@[simp] theorem waitFor_voice (k : ItemKind) (w : Wait) (js : List Job) (s : State) : (waitFor k w js s).voice = s.voice := by simp [waitFor]
@[simp] theorem waitFor_tone (k : ItemKind) (w : Wait) (js : List Job) (s : State) : (waitFor k w js s).tone = s.tone := by simp [waitFor]
@[simp] theorem waitFor_ctrl (k : ItemKind) (w : Wait) (js : List Job) (s : State) : (waitFor k w js s).ctrl = s.ctrl := by simp [waitFor]
@[simp] theorem waitFor_stat (k : ItemKind) (w : Wait) (js : List Job) (s : State) : (waitFor k w js s).stat = s.stat := by simp [waitFor]
@[simp] theorem waitFor_pending (k : ItemKind) (w : Wait) (js : List Job) (s : State) : (waitFor k w js s).pending = s.pending := by simp [waitFor]

/-! ### missEntry -/

@[simp] theorem missEntry_pins (k : ItemKind) (b : Bank) (p : Pos) (s : State) : (missEntry k b p s).pins = s.pins := by unfold missEntry; split <;> simp
@[simp] theorem missEntry_ports (k : ItemKind) (b : Bank) (p : Pos) (s : State) : (missEntry k b p s).ports = s.ports := by unfold missEntry; split <;> simp
@[simp] theorem missEntry_timebase (k : ItemKind) (b : Bank) (p : Pos) (s : State) : (missEntry k b p s).timebase = s.timebase := by unfold missEntry; split <;> simp
@[simp] theorem missEntry_player (k : ItemKind) (b : Bank) (p : Pos) (s : State) : (missEntry k b p s).player = s.player := by unfold missEntry; split <;> simp
@[simp] theorem missEntry_arb (k : ItemKind) (b : Bank) (p : Pos) (s : State) : (missEntry k b p s).arb = s.arb := by unfold missEntry; split <;> simp
@[simp] theorem missEntry_scan (k : ItemKind) (b : Bank) (p : Pos) (s : State) : (missEntry k b p s).scan = s.scan := by unfold missEntry; split <;> simp
@[simp] theorem missEntry_bellows (k : ItemKind) (b : Bank) (p : Pos) (s : State) : (missEntry k b p s).bellows = s.bellows := by unfold missEntry; split <;> simp
@[simp] theorem missEntry_voice (k : ItemKind) (b : Bank) (p : Pos) (s : State) : (missEntry k b p s).voice = s.voice := by unfold missEntry; split <;> simp
@[simp] theorem missEntry_tone (k : ItemKind) (b : Bank) (p : Pos) (s : State) : (missEntry k b p s).tone = s.tone := by unfold missEntry; split <;> simp
@[simp] theorem missEntry_ctrl (k : ItemKind) (b : Bank) (p : Pos) (s : State) : (missEntry k b p s).ctrl = s.ctrl := by unfold missEntry; split <;> simp
@[simp] theorem missEntry_stat (k : ItemKind) (b : Bank) (p : Pos) (s : State) : (missEntry k b p s).stat = s.stat := by unfold missEntry; split <;> simp
@[simp] theorem missEntry_pending (k : ItemKind) (b : Bank) (p : Pos) (s : State) : (missEntry k b p s).pending = s.pending := by unfold missEntry; split <;> simp

/-! ### voiceRecord -/

@[simp] theorem voiceRecord_pins (k : ItemKind) (p : Pos) (s : State) : (voiceRecord k p s).pins = s.pins := by (unfold voiceRecord; repeat' split) <;> simp
@[simp] theorem voiceRecord_ports (k : ItemKind) (p : Pos) (s : State) : (voiceRecord k p s).ports = s.ports := by (unfold voiceRecord; repeat' split) <;> simp
@[simp] theorem voiceRecord_timebase (k : ItemKind) (p : Pos) (s : State) : (voiceRecord k p s).timebase = s.timebase := by (unfold voiceRecord; repeat' split) <;> simp
@[simp] theorem voiceRecord_player (k : ItemKind) (p : Pos) (s : State) : (voiceRecord k p s).player = s.player := by (unfold voiceRecord; repeat' split) <;> simp
@[simp] theorem voiceRecord_arb (k : ItemKind) (p : Pos) (s : State) : (voiceRecord k p s).arb = s.arb := by (unfold voiceRecord; repeat' split) <;> simp
@[simp] theorem voiceRecord_scan (k : ItemKind) (p : Pos) (s : State) : (voiceRecord k p s).scan = s.scan := by (unfold voiceRecord; repeat' split) <;> simp
@[simp] theorem voiceRecord_pending (k : ItemKind) (p : Pos) (s : State) : (voiceRecord k p s).pending = s.pending := by (unfold voiceRecord; repeat' split) <;> simp

/-! ### pressEntered -/

@[simp] theorem pressEntered_pins (b : Bank) (p : Pos) (n : EntrySnap) (s : State) : (pressEntered b p n s).pins = s.pins := by (unfold pressEntered; dsimp only []; split) <;> simp
@[simp] theorem pressEntered_ports (b : Bank) (p : Pos) (n : EntrySnap) (s : State) : (pressEntered b p n s).ports = s.ports := by (unfold pressEntered; dsimp only []; split) <;> simp
@[simp] theorem pressEntered_timebase (b : Bank) (p : Pos) (n : EntrySnap) (s : State) : (pressEntered b p n s).timebase = s.timebase := by (unfold pressEntered; dsimp only []; split) <;> simp
@[simp] theorem pressEntered_player (b : Bank) (p : Pos) (n : EntrySnap) (s : State) : (pressEntered b p n s).player = s.player := by (unfold pressEntered; dsimp only []; split) <;> simp
@[simp] theorem pressEntered_arb (b : Bank) (p : Pos) (n : EntrySnap) (s : State) : (pressEntered b p n s).arb = s.arb := by (unfold pressEntered; dsimp only []; split) <;> simp
@[simp] theorem pressEntered_scan (b : Bank) (p : Pos) (n : EntrySnap) (s : State) : (pressEntered b p n s).scan = s.scan := by (unfold pressEntered; dsimp only []; split) <;> simp
@[simp] theorem pressEntered_pending (b : Bank) (p : Pos) (n : EntrySnap) (s : State) : (pressEntered b p n s).pending = s.pending := by (unfold pressEntered; dsimp only []; split) <;> simp

/-! ### allocate (R88, R103) -/

/-- A section with budget 0 is given no slot. -/
theorem allocate_of_budget_zero {s : State} {k : SectNo} (h : (s.map.sects.get k).budget = 0) :
    allocate s k = .drop .budget := by
  simp [allocate, h]

/-- A slot that an allocation takes stands in the list that it leaves: the sounding order when it is stolen, the head of
the free list otherwise. -/
theorem allocate_takes {s : State} {k : SectNo} {i : Slot} {steal : Bool} (h : allocate s k = .take i steal) :
    if steal then i ∈ s.eng.order else s.eng.free.head? = some i := by
  have mem {p : Slot → Bool} {j : Slot} (hj : s.eng.order.find? p = some j) : j ∈ s.eng.order :=
    List.mem_of_find?_eq_some hj
  unfold allocate at h
  dsimp only [] at h
  repeat' split at h
  all_goals cases h
  all_goals first
    | exact mem (by assumption)
    | simp_all

/-! ### The held-button table (R92) -/

/-- A press makes its record where the table can take it. -/
theorem pressEntered_of_canHold {b : Bank} {p : Pos} {n : EntrySnap} {s : State} (h : canHold p s.eng = true) :
    pressEntered b p n s = voiceRecord (.press p) p (report s (s.setEng { s.eng with held := s.eng.held ++ [
      { pos := p, bank := b, snap := n, dir := s.eng.appliedDir, voices := [], sustained := false }] })) := by
  simp [pressEntered, h]

end Sys2Proof.Machine
end

