-- ==== Sys2Proof/Laws/ItemFrames.lean ====
section
/-! SUPPORT. What the requests and the run of an item leave as it is, and what the run does with a layer. -/

namespace Sys2Proof.Machine

/-! ### handEntry -/

@[simp] theorem handEntry_pins (b : Bank) (p : Pos) (w : Word) (s : State) : (handEntry b p w s).2.pins = s.pins := by (unfold handEntry; split) <;> simp
@[simp] theorem handEntry_ports (b : Bank) (p : Pos) (w : Word) (s : State) : (handEntry b p w s).2.ports = s.ports := by (unfold handEntry; split) <;> simp
@[simp] theorem handEntry_timebase (b : Bank) (p : Pos) (w : Word) (s : State) : (handEntry b p w s).2.timebase = s.timebase := by (unfold handEntry; split) <;> simp
@[simp] theorem handEntry_player (b : Bank) (p : Pos) (w : Word) (s : State) : (handEntry b p w s).2.player = s.player := by (unfold handEntry; split) <;> simp
@[simp] theorem handEntry_arb (b : Bank) (p : Pos) (w : Word) (s : State) : (handEntry b p w s).2.arb = s.arb := by (unfold handEntry; split) <;> simp
@[simp] theorem handEntry_scan (b : Bank) (p : Pos) (w : Word) (s : State) : (handEntry b p w s).2.scan = s.scan := by (unfold handEntry; split) <;> simp
@[simp] theorem handEntry_bellows (b : Bank) (p : Pos) (w : Word) (s : State) : (handEntry b p w s).2.bellows = s.bellows := by (unfold handEntry; split) <;> simp
@[simp] theorem handEntry_map (b : Bank) (p : Pos) (w : Word) (s : State) : (handEntry b p w s).2.map = s.map := by (unfold handEntry; split) <;> simp
@[simp] theorem handEntry_eng (b : Bank) (p : Pos) (w : Word) (s : State) : (handEntry b p w s).2.eng = s.eng := by (unfold handEntry; split) <;> simp
@[simp] theorem handEntry_voice (b : Bank) (p : Pos) (w : Word) (s : State) : (handEntry b p w s).2.voice = s.voice := by (unfold handEntry; split) <;> simp
@[simp] theorem handEntry_tone (b : Bank) (p : Pos) (w : Word) (s : State) : (handEntry b p w s).2.tone = s.tone := by (unfold handEntry; split) <;> simp
@[simp] theorem handEntry_ctrl (b : Bank) (p : Pos) (w : Word) (s : State) : (handEntry b p w s).2.ctrl = s.ctrl := by (unfold handEntry; split) <;> simp
@[simp] theorem handEntry_pending (b : Bank) (p : Pos) (w : Word) (s : State) : (handEntry b p w s).2.pending = s.pending := by (unfold handEntry; split) <;> simp

/-! ### hitEntry -/

@[simp] theorem hitEntry_pins (e : CacheEntry) (s : State) : (hitEntry e s).2.pins = s.pins := by simp [hitEntry]
@[simp] theorem hitEntry_ports (e : CacheEntry) (s : State) : (hitEntry e s).2.ports = s.ports := by simp [hitEntry]
@[simp] theorem hitEntry_timebase (e : CacheEntry) (s : State) : (hitEntry e s).2.timebase = s.timebase := by simp [hitEntry]
@[simp] theorem hitEntry_player (e : CacheEntry) (s : State) : (hitEntry e s).2.player = s.player := by simp [hitEntry]
@[simp] theorem hitEntry_arb (e : CacheEntry) (s : State) : (hitEntry e s).2.arb = s.arb := by simp [hitEntry]
@[simp] theorem hitEntry_scan (e : CacheEntry) (s : State) : (hitEntry e s).2.scan = s.scan := by simp [hitEntry]
@[simp] theorem hitEntry_bellows (e : CacheEntry) (s : State) : (hitEntry e s).2.bellows = s.bellows := by simp [hitEntry]
@[simp] theorem hitEntry_eng (e : CacheEntry) (s : State) : (hitEntry e s).2.eng = s.eng := by simp [hitEntry]
@[simp] theorem hitEntry_voice (e : CacheEntry) (s : State) : (hitEntry e s).2.voice = s.voice := by simp [hitEntry]
@[simp] theorem hitEntry_tone (e : CacheEntry) (s : State) : (hitEntry e s).2.tone = s.tone := by simp [hitEntry]
@[simp] theorem hitEntry_ctrl (e : CacheEntry) (s : State) : (hitEntry e s).2.ctrl = s.ctrl := by simp [hitEntry]
@[simp] theorem hitEntry_pending (e : CacheEntry) (s : State) : (hitEntry e s).2.pending = s.pending := by simp [hitEntry]

/-! ### pressRequest -/

@[simp] theorem pressRequest_pins (p : Pos) (s : State) : (pressRequest p s).pins = s.pins := by (unfold pressRequest; simp only []; repeat' split) <;> simp
@[simp] theorem pressRequest_ports (p : Pos) (s : State) : (pressRequest p s).ports = s.ports := by (unfold pressRequest; simp only []; repeat' split) <;> simp
@[simp] theorem pressRequest_timebase (p : Pos) (s : State) : (pressRequest p s).timebase = s.timebase := by (unfold pressRequest; simp only []; repeat' split) <;> simp
@[simp] theorem pressRequest_player (p : Pos) (s : State) : (pressRequest p s).player = s.player := by (unfold pressRequest; simp only []; repeat' split) <;> simp
@[simp] theorem pressRequest_arb (p : Pos) (s : State) : (pressRequest p s).arb = s.arb := by (unfold pressRequest; simp only []; repeat' split) <;> simp
@[simp] theorem pressRequest_scan (p : Pos) (s : State) : (pressRequest p s).scan = s.scan := by (unfold pressRequest; simp only []; repeat' split) <;> simp
@[simp] theorem pressRequest_pending (p : Pos) (s : State) : (pressRequest p s).pending = s.pending := by (unfold pressRequest; simp only []; repeat' split) <;> simp

/-! ### runJobs -/

/-- Everything the run of an item can do: a property that survives each of its moves survives the run. -/
theorem runJobs_keeps {P : State → Prop} {k : ItemKind}
    (hend : ∀ s, P s → P (itemEnd k s))
    (hwait : ∀ w js s, P s → P (waitFor k w js s))
    (hpush : ∀ pu s, canPush s pu = true → P s → P (doPush pu s))
    (hremove : ∀ p s, P s → P (report s (s.setEng (removeRec p s.eng))))
    (hfill : ∀ s, P s → P (endFilling s))
    (hclear : ∀ s, P s → P (report s (s.setEng { s.eng with held := [], revWalk := none })))
    (hpress : ∀ p s, P s → P (pressRequest p s))
    (hvoice : ∀ p s, P s → P (voiceRecord k p s))
    (hdrop : ∀ r s, P s → P (dropFor r s))
    (js : List Job) : ∀ s, P s → P (runJobs k js s) := by
  induction js with
  | nil => intro s h; exact hend s h
  | cons j js ih =>
    intro s h
    cases j with
    | releaseSlot p i =>
      unfold runJobs
      dsimp only []
      split
      · next hp => exact ih _ (hpush _ _ hp h)
      · exact hwait _ _ _ h
    | removeRecord p => exact ih _ (hremove p s h)
    | finishGroup => exact ih _ (hfill s h)
    | pressEntry p => exact hpress p s h
    | voice p => exact hvoice p s h
    | free i g =>
      unfold runJobs
      split
      · next hp => exact ih _ (hpush _ _ hp h)
      · exact hwait _ _ _ h
    | clearTable => exact ih _ (hclear s h)
    | blank i =>
      unfold runJobs
      split
      · next hp => exact ih _ (hpush _ _ hp h)
      · exact hwait _ _ _ h
    | layer p idx l =>
      unfold runJobs
      split
      · exact hend s h
      · dsimp only []
        split
        · exact ih _ (hdrop _ s h)
        · split
          · exact ih _ (hdrop _ s h)
          · split
            · exact hend s h
            · split
              · next hp => exact ih _ (hpush _ _ hp h)
              · exact hwait _ _ _ h

/-! ### What a layer does (R102, R103, R105) -/

theorem runJobs_layer_out_of_range {k : ItemKind} {p : Pos} {idx : Fin 8} {l : Layer} {js : List Job} {s : State}
    {r : HeldRec} (hr : findRec s.eng p = some r) (ho : pitchOk (pitchOf l.note r.snap.transpose) = false) :
    runJobs k (.layer p idx l :: js) s = runJobs k js (dropFor .range s) := by
  simp [runJobs, hr, ho]

theorem runJobs_layer_without_slot {k : ItemKind} {p : Pos} {idx : Fin 8} {l : Layer} {js : List Job} {s : State}
    {r : HeldRec} {reason : DropReason} (hr : findRec s.eng p = some r)
    (ho : pitchOk (pitchOf l.note r.snap.transpose) = true) (ha : allocate s l.sect = .drop reason) :
    runJobs k (.layer p idx l :: js) s = runJobs k js (dropFor reason s) := by
  simp [runJobs, hr, ho, ha]

theorem runJobs_layer_outside_performing {k : ItemKind} {p : Pos} {idx : Fin 8} {l : Layer} {js : List Job} {s : State}
    {r : HeldRec} {i : Slot} {steal : Bool} (hr : findRec s.eng p = some r)
    (ho : pitchOk (pitchOf l.note r.snap.transpose) = true) (ha : allocate s l.sect = .take i steal)
    (hop : s.ctrl.op ≠ .performing) : runJobs k (.layer p idx l :: js) s = itemEnd k s := by
  simp [runJobs, hr, ho, ha, hop]

theorem runJobs_layer_pushed {k : ItemKind} {p : Pos} {idx : Fin 8} {l : Layer} {js : List Job} {s : State}
    {r : HeldRec} {i : Slot} {steal : Bool} (hr : findRec s.eng p = some r)
    (ho : pitchOk (pitchOf l.note r.snap.transpose) = true) (ha : allocate s l.sect = .take i steal)
    (hop : s.ctrl.op = .performing) (hp : canPush s (.full p i steal l idx r.dir) = true) :
    runJobs k (.layer p idx l :: js) s = runJobs k js (doPush (.full p i steal l idx r.dir) s) := by
  simp [runJobs, hr, ho, ha, hop, hp]

/-! ### runJobs -/

@[simp] theorem runJobs_pins (k : ItemKind) (js : List Job) (s : State) : (runJobs k js s).pins = s.pins := by
  refine runJobs_keeps (P := fun t => t.pins = s.pins) ?_ ?_ ?_ ?_ ?_ ?_ ?_ ?_ ?_ js s rfl <;> intros <;> simp_all
@[simp] theorem runJobs_ports (k : ItemKind) (js : List Job) (s : State) : (runJobs k js s).ports = s.ports := by
  refine runJobs_keeps (P := fun t => t.ports = s.ports) ?_ ?_ ?_ ?_ ?_ ?_ ?_ ?_ ?_ js s rfl <;> intros <;> simp_all
@[simp] theorem runJobs_timebase (k : ItemKind) (js : List Job) (s : State) : (runJobs k js s).timebase = s.timebase := by
  refine runJobs_keeps (P := fun t => t.timebase = s.timebase) ?_ ?_ ?_ ?_ ?_ ?_ ?_ ?_ ?_ js s rfl <;> intros <;> simp_all
@[simp] theorem runJobs_player (k : ItemKind) (js : List Job) (s : State) : (runJobs k js s).player = s.player := by
  refine runJobs_keeps (P := fun t => t.player = s.player) ?_ ?_ ?_ ?_ ?_ ?_ ?_ ?_ ?_ js s rfl <;> intros <;> simp_all
@[simp] theorem runJobs_arb (k : ItemKind) (js : List Job) (s : State) : (runJobs k js s).arb = s.arb := by
  refine runJobs_keeps (P := fun t => t.arb = s.arb) ?_ ?_ ?_ ?_ ?_ ?_ ?_ ?_ ?_ js s rfl <;> intros <;> simp_all
@[simp] theorem runJobs_scan (k : ItemKind) (js : List Job) (s : State) : (runJobs k js s).scan = s.scan := by
  refine runJobs_keeps (P := fun t => t.scan = s.scan) ?_ ?_ ?_ ?_ ?_ ?_ ?_ ?_ ?_ js s rfl <;> intros <;> simp_all
@[simp] theorem runJobs_pending (k : ItemKind) (js : List Job) (s : State) : (runJobs k js s).pending = s.pending := by
  refine runJobs_keeps (P := fun t => t.pending = s.pending) ?_ ?_ ?_ ?_ ?_ ?_ ?_ ?_ ?_ js s rfl <;> intros <;> simp_all


/-! ### resumePush -/

@[simp] theorem resumePush_pins (it : Item) (pu : Push) (s : State) : (resumePush it pu s).pins = s.pins := by (unfold resumePush; repeat' split) <;> simp
@[simp] theorem resumePush_ports (it : Item) (pu : Push) (s : State) : (resumePush it pu s).ports = s.ports := by (unfold resumePush; repeat' split) <;> simp
@[simp] theorem resumePush_timebase (it : Item) (pu : Push) (s : State) : (resumePush it pu s).timebase = s.timebase := by (unfold resumePush; repeat' split) <;> simp
@[simp] theorem resumePush_player (it : Item) (pu : Push) (s : State) : (resumePush it pu s).player = s.player := by (unfold resumePush; repeat' split) <;> simp
@[simp] theorem resumePush_arb (it : Item) (pu : Push) (s : State) : (resumePush it pu s).arb = s.arb := by (unfold resumePush; repeat' split) <;> simp
@[simp] theorem resumePush_scan (it : Item) (pu : Push) (s : State) : (resumePush it pu s).scan = s.scan := by (unfold resumePush; repeat' split) <;> simp
@[simp] theorem resumePush_pending (it : Item) (pu : Push) (s : State) : (resumePush it pu s).pending = s.pending := by (unfold resumePush; repeat' split) <;> simp

/-! ### restrikeEntered -/

@[simp] theorem restrikeEntered_pins (b : Bank) (p : Pos) (n : EntrySnap) (s : State) : (restrikeEntered b p n s).pins = s.pins := by (unfold restrikeEntered; simp only []; repeat' split) <;> simp
@[simp] theorem restrikeEntered_ports (b : Bank) (p : Pos) (n : EntrySnap) (s : State) : (restrikeEntered b p n s).ports = s.ports := by (unfold restrikeEntered; simp only []; repeat' split) <;> simp
@[simp] theorem restrikeEntered_timebase (b : Bank) (p : Pos) (n : EntrySnap) (s : State) : (restrikeEntered b p n s).timebase = s.timebase := by (unfold restrikeEntered; simp only []; repeat' split) <;> simp
@[simp] theorem restrikeEntered_player (b : Bank) (p : Pos) (n : EntrySnap) (s : State) : (restrikeEntered b p n s).player = s.player := by (unfold restrikeEntered; simp only []; repeat' split) <;> simp
@[simp] theorem restrikeEntered_arb (b : Bank) (p : Pos) (n : EntrySnap) (s : State) : (restrikeEntered b p n s).arb = s.arb := by (unfold restrikeEntered; simp only []; repeat' split) <;> simp
@[simp] theorem restrikeEntered_scan (b : Bank) (p : Pos) (n : EntrySnap) (s : State) : (restrikeEntered b p n s).scan = s.scan := by (unfold restrikeEntered; simp only []; repeat' split) <;> simp
@[simp] theorem restrikeEntered_pending (b : Bank) (p : Pos) (n : EntrySnap) (s : State) : (restrikeEntered b p n s).pending = s.pending := by (unfold restrikeEntered; simp only []; repeat' split) <;> simp

/-! ### entryGiven -/

@[simp] theorem entryGiven_pins (k : ItemKind) (b : Bank) (p : Pos) (n : EntrySnap) (s : State) : (entryGiven k b p n s).pins = s.pins := by (unfold entryGiven; repeat' split) <;> simp
@[simp] theorem entryGiven_ports (k : ItemKind) (b : Bank) (p : Pos) (n : EntrySnap) (s : State) : (entryGiven k b p n s).ports = s.ports := by (unfold entryGiven; repeat' split) <;> simp
@[simp] theorem entryGiven_timebase (k : ItemKind) (b : Bank) (p : Pos) (n : EntrySnap) (s : State) : (entryGiven k b p n s).timebase = s.timebase := by (unfold entryGiven; repeat' split) <;> simp
@[simp] theorem entryGiven_player (k : ItemKind) (b : Bank) (p : Pos) (n : EntrySnap) (s : State) : (entryGiven k b p n s).player = s.player := by (unfold entryGiven; repeat' split) <;> simp
@[simp] theorem entryGiven_arb (k : ItemKind) (b : Bank) (p : Pos) (n : EntrySnap) (s : State) : (entryGiven k b p n s).arb = s.arb := by (unfold entryGiven; repeat' split) <;> simp
@[simp] theorem entryGiven_scan (k : ItemKind) (b : Bank) (p : Pos) (n : EntrySnap) (s : State) : (entryGiven k b p n s).scan = s.scan := by (unfold entryGiven; repeat' split) <;> simp
@[simp] theorem entryGiven_pending (k : ItemKind) (b : Bank) (p : Pos) (n : EntrySnap) (s : State) : (entryGiven k b p n s).pending = s.pending := by (unfold entryGiven; repeat' split) <;> simp

/-! ### requestEntry -/

@[simp] theorem requestEntry_pins (k : ItemKind) (b : Bank) (p : Pos) (s : State) : (requestEntry k b p s).pins = s.pins := by (unfold requestEntry; simp only []; repeat' split) <;> simp
@[simp] theorem requestEntry_ports (k : ItemKind) (b : Bank) (p : Pos) (s : State) : (requestEntry k b p s).ports = s.ports := by (unfold requestEntry; simp only []; repeat' split) <;> simp
@[simp] theorem requestEntry_timebase (k : ItemKind) (b : Bank) (p : Pos) (s : State) : (requestEntry k b p s).timebase = s.timebase := by (unfold requestEntry; simp only []; repeat' split) <;> simp
@[simp] theorem requestEntry_player (k : ItemKind) (b : Bank) (p : Pos) (s : State) : (requestEntry k b p s).player = s.player := by (unfold requestEntry; simp only []; repeat' split) <;> simp
@[simp] theorem requestEntry_arb (k : ItemKind) (b : Bank) (p : Pos) (s : State) : (requestEntry k b p s).arb = s.arb := by (unfold requestEntry; simp only []; repeat' split) <;> simp
@[simp] theorem requestEntry_scan (k : ItemKind) (b : Bank) (p : Pos) (s : State) : (requestEntry k b p s).scan = s.scan := by (unfold requestEntry; simp only []; repeat' split) <;> simp
@[simp] theorem requestEntry_pending (k : ItemKind) (b : Bank) (p : Pos) (s : State) : (requestEntry k b p s).pending = s.pending := by (unfold requestEntry; simp only []; repeat' split) <;> simp

/-! ### deliverEntry -/

@[simp] theorem deliverEntry_pins (b : Bank) (p : Pos) (n : EntrySnap) (s : State) : (deliverEntry b p n s).pins = s.pins := by (unfold deliverEntry; repeat' split) <;> simp
@[simp] theorem deliverEntry_ports (b : Bank) (p : Pos) (n : EntrySnap) (s : State) : (deliverEntry b p n s).ports = s.ports := by (unfold deliverEntry; repeat' split) <;> simp
@[simp] theorem deliverEntry_timebase (b : Bank) (p : Pos) (n : EntrySnap) (s : State) : (deliverEntry b p n s).timebase = s.timebase := by (unfold deliverEntry; repeat' split) <;> simp
@[simp] theorem deliverEntry_player (b : Bank) (p : Pos) (n : EntrySnap) (s : State) : (deliverEntry b p n s).player = s.player := by (unfold deliverEntry; repeat' split) <;> simp
@[simp] theorem deliverEntry_arb (b : Bank) (p : Pos) (n : EntrySnap) (s : State) : (deliverEntry b p n s).arb = s.arb := by (unfold deliverEntry; repeat' split) <;> simp
@[simp] theorem deliverEntry_scan (b : Bank) (p : Pos) (n : EntrySnap) (s : State) : (deliverEntry b p n s).scan = s.scan := by (unfold deliverEntry; repeat' split) <;> simp
@[simp] theorem deliverEntry_pending (b : Bank) (p : Pos) (n : EntrySnap) (s : State) : (deliverEntry b p n s).pending = s.pending := by (unfold deliverEntry; repeat' split) <;> simp

/-! ### deliverProgram -/

@[simp] theorem deliverProgram_pins (l : List (Fin 8 × Layer)) (s : State) : (deliverProgram l s).pins = s.pins := by (unfold deliverProgram; repeat' split) <;> simp
@[simp] theorem deliverProgram_ports (l : List (Fin 8 × Layer)) (s : State) : (deliverProgram l s).ports = s.ports := by (unfold deliverProgram; repeat' split) <;> simp
@[simp] theorem deliverProgram_timebase (l : List (Fin 8 × Layer)) (s : State) : (deliverProgram l s).timebase = s.timebase := by (unfold deliverProgram; repeat' split) <;> simp
@[simp] theorem deliverProgram_player (l : List (Fin 8 × Layer)) (s : State) : (deliverProgram l s).player = s.player := by (unfold deliverProgram; repeat' split) <;> simp
@[simp] theorem deliverProgram_arb (l : List (Fin 8 × Layer)) (s : State) : (deliverProgram l s).arb = s.arb := by (unfold deliverProgram; repeat' split) <;> simp
@[simp] theorem deliverProgram_scan (l : List (Fin 8 × Layer)) (s : State) : (deliverProgram l s).scan = s.scan := by (unfold deliverProgram; repeat' split) <;> simp
@[simp] theorem deliverProgram_pending (l : List (Fin 8 × Layer)) (s : State) : (deliverProgram l s).pending = s.pending := by (unfold deliverProgram; repeat' split) <;> simp

end Sys2Proof.Machine
end

