-- ==== Sys2Proof/Laws/CommandFrames.lean ====
section
/-! SUPPORT. What taking a command and its action leave as they are. -/

namespace Sys2Proof.Machine

/-! ### answer -/

@[simp] theorem answer_pins (r : CmdResult) (s : State) : (answer r s).pins = s.pins := by simp [answer]
@[simp] theorem answer_ports (r : CmdResult) (s : State) : (answer r s).ports = s.ports := by simp [answer]
@[simp] theorem answer_timebase (r : CmdResult) (s : State) : (answer r s).timebase = s.timebase := by simp [answer]
@[simp] theorem answer_player (r : CmdResult) (s : State) : (answer r s).player = s.player := by simp [answer]
@[simp] theorem answer_arb (r : CmdResult) (s : State) : (answer r s).arb = s.arb := by simp [answer]
@[simp] theorem answer_scan (r : CmdResult) (s : State) : (answer r s).scan = s.scan := by simp [answer]
@[simp] theorem answer_bellows (r : CmdResult) (s : State) : (answer r s).bellows = s.bellows := by simp [answer]
@[simp] theorem answer_map (r : CmdResult) (s : State) : (answer r s).map = s.map := by simp [answer]
@[simp] theorem answer_eng (r : CmdResult) (s : State) : (answer r s).eng = s.eng := by simp [answer]
@[simp] theorem answer_voice (r : CmdResult) (s : State) : (answer r s).voice = s.voice := by simp [answer]
@[simp] theorem answer_tone (r : CmdResult) (s : State) : (answer r s).tone = s.tone := by simp [answer]
@[simp] theorem answer_ctrl (r : CmdResult) (s : State) : (answer r s).ctrl = s.ctrl := by simp [answer]
@[simp] theorem answer_pending (r : CmdResult) (s : State) : (answer r s).pending = s.pending := by simp [answer]

/-! ### takeReinit -/

@[simp] theorem takeReinit_pins (s : State) : (takeReinit s).pins = s.pins := by simp [takeReinit]
@[simp] theorem takeReinit_timebase (s : State) : (takeReinit s).timebase = s.timebase := by simp [takeReinit]
@[simp] theorem takeReinit_player (s : State) : (takeReinit s).player = s.player := by simp [takeReinit]
@[simp] theorem takeReinit_pending (s : State) : (takeReinit s).pending = s.pending := by simp [takeReinit]

/-! ### actPerform -/

@[simp] theorem actPerform_pins (s : State) : (actPerform s).pins = s.pins := by (unfold actPerform; repeat' split) <;> simp
@[simp] theorem actPerform_ports (s : State) : (actPerform s).ports = s.ports := by (unfold actPerform; repeat' split) <;> simp
@[simp] theorem actPerform_timebase (s : State) : (actPerform s).timebase = s.timebase := by (unfold actPerform; repeat' split) <;> simp
@[simp] theorem actPerform_player (s : State) : (actPerform s).player = s.player := by (unfold actPerform; repeat' split) <;> simp
@[simp] theorem actPerform_arb (s : State) : (actPerform s).arb = s.arb := by (unfold actPerform; repeat' split) <;> simp
@[simp] theorem actPerform_map (s : State) : (actPerform s).map = s.map := by (unfold actPerform; repeat' split) <;> simp
@[simp] theorem actPerform_eng (s : State) : (actPerform s).eng = s.eng := by (unfold actPerform; repeat' split) <;> simp
@[simp] theorem actPerform_voice (s : State) : (actPerform s).voice = s.voice := by (unfold actPerform; repeat' split) <;> simp
@[simp] theorem actPerform_tone (s : State) : (actPerform s).tone = s.tone := by (unfold actPerform; repeat' split) <;> simp
@[simp] theorem actPerform_pending (s : State) : (actPerform s).pending = s.pending := by (unfold actPerform; repeat' split) <;> simp

/-! ### actSettle -/

@[simp] theorem actSettle_pins (s : State) : (actSettle s).pins = s.pins := by (unfold actSettle; split) <;> simp
@[simp] theorem actSettle_ports (s : State) : (actSettle s).ports = s.ports := by (unfold actSettle; split) <;> simp
@[simp] theorem actSettle_timebase (s : State) : (actSettle s).timebase = s.timebase := by (unfold actSettle; split) <;> simp
@[simp] theorem actSettle_player (s : State) : (actSettle s).player = s.player := by (unfold actSettle; split) <;> simp
@[simp] theorem actSettle_arb (s : State) : (actSettle s).arb = s.arb := by (unfold actSettle; split) <;> simp
@[simp] theorem actSettle_map (s : State) : (actSettle s).map = s.map := by (unfold actSettle; split) <;> simp
@[simp] theorem actSettle_voice (s : State) : (actSettle s).voice = s.voice := by (unfold actSettle; split) <;> simp
@[simp] theorem actSettle_tone (s : State) : (actSettle s).tone = s.tone := by (unfold actSettle; split) <;> simp
@[simp] theorem actSettle_pending (s : State) : (actSettle s).pending = s.pending := by (unfold actSettle; split) <;> simp

/-! ### actCut -/

@[simp] theorem actCut_pins (s : State) : (actCut s).pins = s.pins := by (unfold actCut; split) <;> simp
@[simp] theorem actCut_ports (s : State) : (actCut s).ports = s.ports := by (unfold actCut; split) <;> simp
@[simp] theorem actCut_timebase (s : State) : (actCut s).timebase = s.timebase := by (unfold actCut; split) <;> simp
@[simp] theorem actCut_player (s : State) : (actCut s).player = s.player := by (unfold actCut; split) <;> simp
@[simp] theorem actCut_arb (s : State) : (actCut s).arb = s.arb := by (unfold actCut; split) <;> simp
@[simp] theorem actCut_pending (s : State) : (actCut s).pending = s.pending := by (unfold actCut; split) <;> simp

/-! ### actSwap -/

@[simp] theorem actSwap_pins (m : SwapMode) (s : State) : (actSwap m s).pins = s.pins := by (unfold actSwap; simp only []; repeat' split) <;> simp
@[simp] theorem actSwap_ports (m : SwapMode) (s : State) : (actSwap m s).ports = s.ports := by (unfold actSwap; simp only []; repeat' split) <;> simp
@[simp] theorem actSwap_timebase (m : SwapMode) (s : State) : (actSwap m s).timebase = s.timebase := by (unfold actSwap; simp only []; repeat' split) <;> simp
@[simp] theorem actSwap_player (m : SwapMode) (s : State) : (actSwap m s).player = s.player := by (unfold actSwap; simp only []; repeat' split) <;> simp
@[simp] theorem actSwap_arb (m : SwapMode) (s : State) : (actSwap m s).arb = s.arb := by (unfold actSwap; simp only []; repeat' split) <;> simp
@[simp] theorem actSwap_scan (m : SwapMode) (s : State) : (actSwap m s).scan = s.scan := by (unfold actSwap; simp only []; repeat' split) <;> simp
@[simp] theorem actSwap_bellows (m : SwapMode) (s : State) : (actSwap m s).bellows = s.bellows := by (unfold actSwap; simp only []; repeat' split) <;> simp
@[simp] theorem actSwap_map (m : SwapMode) (s : State) : (actSwap m s).map = s.map := by (unfold actSwap; simp only []; repeat' split) <;> simp
@[simp] theorem actSwap_voice (m : SwapMode) (s : State) : (actSwap m s).voice = s.voice := by (unfold actSwap; simp only []; repeat' split) <;> simp
@[simp] theorem actSwap_tone (m : SwapMode) (s : State) : (actSwap m s).tone = s.tone := by (unfold actSwap; simp only []; repeat' split) <;> simp
@[simp] theorem actSwap_pending (m : SwapMode) (s : State) : (actSwap m s).pending = s.pending := by (unfold actSwap; simp only []; repeat' split) <;> simp

/-! ### actSustain -/

@[simp] theorem actSustain_pins (b : Bool) (s : State) : (actSustain b s).pins = s.pins := by simp [actSustain]
@[simp] theorem actSustain_ports (b : Bool) (s : State) : (actSustain b s).ports = s.ports := by simp [actSustain]
@[simp] theorem actSustain_timebase (b : Bool) (s : State) : (actSustain b s).timebase = s.timebase := by simp [actSustain]
@[simp] theorem actSustain_player (b : Bool) (s : State) : (actSustain b s).player = s.player := by simp [actSustain]
@[simp] theorem actSustain_arb (b : Bool) (s : State) : (actSustain b s).arb = s.arb := by simp [actSustain]
@[simp] theorem actSustain_scan (b : Bool) (s : State) : (actSustain b s).scan = s.scan := by simp [actSustain]
@[simp] theorem actSustain_bellows (b : Bool) (s : State) : (actSustain b s).bellows = s.bellows := by simp [actSustain]
@[simp] theorem actSustain_map (b : Bool) (s : State) : (actSustain b s).map = s.map := by simp [actSustain]
@[simp] theorem actSustain_voice (b : Bool) (s : State) : (actSustain b s).voice = s.voice := by simp [actSustain]
@[simp] theorem actSustain_tone (b : Bool) (s : State) : (actSustain b s).tone = s.tone := by simp [actSustain]
@[simp] theorem actSustain_pending (b : Bool) (s : State) : (actSustain b s).pending = s.pending := by simp [actSustain]

/-! ### actGuard -/

@[simp] theorem actGuard_pins (a : Word) (s : State) : (actGuard a s).pins = s.pins := by (unfold actGuard; repeat' split) <;> simp
@[simp] theorem actGuard_ports (a : Word) (s : State) : (actGuard a s).ports = s.ports := by (unfold actGuard; repeat' split) <;> simp
@[simp] theorem actGuard_timebase (a : Word) (s : State) : (actGuard a s).timebase = s.timebase := by (unfold actGuard; repeat' split) <;> simp
@[simp] theorem actGuard_player (a : Word) (s : State) : (actGuard a s).player = s.player := by (unfold actGuard; repeat' split) <;> simp
@[simp] theorem actGuard_arb (a : Word) (s : State) : (actGuard a s).arb = s.arb := by (unfold actGuard; repeat' split) <;> simp
@[simp] theorem actGuard_scan (a : Word) (s : State) : (actGuard a s).scan = s.scan := by (unfold actGuard; repeat' split) <;> simp
@[simp] theorem actGuard_bellows (a : Word) (s : State) : (actGuard a s).bellows = s.bellows := by (unfold actGuard; repeat' split) <;> simp
@[simp] theorem actGuard_map (a : Word) (s : State) : (actGuard a s).map = s.map := by (unfold actGuard; repeat' split) <;> simp
@[simp] theorem actGuard_eng (a : Word) (s : State) : (actGuard a s).eng = s.eng := by (unfold actGuard; repeat' split) <;> simp
@[simp] theorem actGuard_voice (a : Word) (s : State) : (actGuard a s).voice = s.voice := by (unfold actGuard; repeat' split) <;> simp
@[simp] theorem actGuard_tone (a : Word) (s : State) : (actGuard a s).tone = s.tone := by (unfold actGuard; repeat' split) <;> simp
@[simp] theorem actGuard_pending (a : Word) (s : State) : (actGuard a s).pending = s.pending := by (unfold actGuard; repeat' split) <;> simp

/-! ### actGuardLock -/

@[simp] theorem actGuardLock_pins (s : State) : (actGuardLock s).pins = s.pins := by simp [actGuardLock]
@[simp] theorem actGuardLock_ports (s : State) : (actGuardLock s).ports = s.ports := by simp [actGuardLock]
@[simp] theorem actGuardLock_timebase (s : State) : (actGuardLock s).timebase = s.timebase := by simp [actGuardLock]
@[simp] theorem actGuardLock_player (s : State) : (actGuardLock s).player = s.player := by simp [actGuardLock]
@[simp] theorem actGuardLock_arb (s : State) : (actGuardLock s).arb = s.arb := by simp [actGuardLock]
@[simp] theorem actGuardLock_scan (s : State) : (actGuardLock s).scan = s.scan := by simp [actGuardLock]
@[simp] theorem actGuardLock_bellows (s : State) : (actGuardLock s).bellows = s.bellows := by simp [actGuardLock]
@[simp] theorem actGuardLock_map (s : State) : (actGuardLock s).map = s.map := by simp [actGuardLock]
@[simp] theorem actGuardLock_eng (s : State) : (actGuardLock s).eng = s.eng := by simp [actGuardLock]
@[simp] theorem actGuardLock_voice (s : State) : (actGuardLock s).voice = s.voice := by simp [actGuardLock]
@[simp] theorem actGuardLock_tone (s : State) : (actGuardLock s).tone = s.tone := by simp [actGuardLock]
@[simp] theorem actGuardLock_pending (s : State) : (actGuardLock s).pending = s.pending := by simp [actGuardLock]

/-! ### actPlain -/

@[simp] theorem actPlain_pins (o : Opcode) (s : State) : (actPlain o s).pins = s.pins := by cases o <;> simp [actPlain]
@[simp] theorem actPlain_timebase (o : Opcode) (s : State) : (actPlain o s).timebase = s.timebase := by cases o <;> simp [actPlain]
@[simp] theorem actPlain_player (o : Opcode) (s : State) : (actPlain o s).player = s.player := by cases o <;> simp [actPlain]
@[simp] theorem actPlain_pending (o : Opcode) (s : State) : (actPlain o s).pending = s.pending := by cases o <;> simp [actPlain]

/-! ### actWith -/

@[simp] theorem actWith_pins (o : Opcode) (a : Word) (s : State) : (actWith o a s).pins = s.pins := by (unfold actWith; repeat' split) <;> simp
@[simp] theorem actWith_timebase (o : Opcode) (a : Word) (s : State) : (actWith o a s).timebase = s.timebase := by (unfold actWith; repeat' split) <;> simp
@[simp] theorem actWith_player (o : Opcode) (a : Word) (s : State) : (actWith o a s).player = s.player := by (unfold actWith; repeat' split) <;> simp
@[simp] theorem actWith_pending (o : Opcode) (a : Word) (s : State) : (actWith o a s).pending = s.pending := by (unfold actWith; repeat' split) <;> simp

/-! ### requestArgument -/

@[simp] theorem requestArgument_pins (o : Opcode) (n : Nat) (s : State) : (requestArgument o n s).pins = s.pins := by simp [requestArgument]
@[simp] theorem requestArgument_ports (o : Opcode) (n : Nat) (s : State) : (requestArgument o n s).ports = s.ports := by simp [requestArgument]
@[simp] theorem requestArgument_timebase (o : Opcode) (n : Nat) (s : State) : (requestArgument o n s).timebase = s.timebase := by simp [requestArgument]
@[simp] theorem requestArgument_player (o : Opcode) (n : Nat) (s : State) : (requestArgument o n s).player = s.player := by simp [requestArgument]
@[simp] theorem requestArgument_arb (o : Opcode) (n : Nat) (s : State) : (requestArgument o n s).arb = s.arb := by simp [requestArgument]
@[simp] theorem requestArgument_scan (o : Opcode) (n : Nat) (s : State) : (requestArgument o n s).scan = s.scan := by simp [requestArgument]
@[simp] theorem requestArgument_bellows (o : Opcode) (n : Nat) (s : State) : (requestArgument o n s).bellows = s.bellows := by simp [requestArgument]
@[simp] theorem requestArgument_map (o : Opcode) (n : Nat) (s : State) : (requestArgument o n s).map = s.map := by simp [requestArgument]
@[simp] theorem requestArgument_eng (o : Opcode) (n : Nat) (s : State) : (requestArgument o n s).eng = s.eng := by simp [requestArgument]
@[simp] theorem requestArgument_voice (o : Opcode) (n : Nat) (s : State) : (requestArgument o n s).voice = s.voice := by simp [requestArgument]
@[simp] theorem requestArgument_tone (o : Opcode) (n : Nat) (s : State) : (requestArgument o n s).tone = s.tone := by simp [requestArgument]
@[simp] theorem requestArgument_stat (o : Opcode) (n : Nat) (s : State) : (requestArgument o n s).stat = s.stat := by simp [requestArgument]
@[simp] theorem requestArgument_pending (o : Opcode) (n : Nat) (s : State) : (requestArgument o n s).pending = s.pending := by simp [requestArgument]

/-! ### takeCommand -/

@[simp] theorem takeCommand_pins (w : Word) (a : Option Word) (n : Nat) (s : State) : (takeCommand w a n s).pins = s.pins := by (unfold takeCommand; simp only []; repeat' split) <;> simp
@[simp] theorem takeCommand_timebase (w : Word) (a : Option Word) (n : Nat) (s : State) : (takeCommand w a n s).timebase = s.timebase := by (unfold takeCommand; simp only []; repeat' split) <;> simp
@[simp] theorem takeCommand_player (w : Word) (a : Option Word) (n : Nat) (s : State) : (takeCommand w a n s).player = s.player := by (unfold takeCommand; simp only []; repeat' split) <;> simp
@[simp] theorem takeCommand_pending (w : Word) (a : Option Word) (n : Nat) (s : State) : (takeCommand w a n s).pending = s.pending := by (unfold takeCommand; simp only []; repeat' split) <;> simp

end Sys2Proof.Machine
end

