-- ==== Sys2Proof/Laws/BusFrames.lean ====
section
/-! SUPPORT. What the requests of the two ports leave as it is. -/

namespace Sys2Proof.Machine

/-- A property that survives each step of a fold survives the fold. -/
theorem foldl_keeps {α : Type} {P : State → Prop} (f : State → α → State) (l : List α)
    (h : ∀ t x, P t → P (f t x)) : ∀ s, P s → P (l.foldl f s) := by
  induction l with
  | nil => intro s hs; exact hs
  | cons x l ih => intro s hs; exact ih _ (h s x hs)


/-! ### answerP -/

@[simp] theorem answerP_pins (a : Answer) (s : State) : (answerP a s).pins = s.pins := by simp [answerP]
@[simp] theorem answerP_timebase (a : Answer) (s : State) : (answerP a s).timebase = s.timebase := by simp [answerP]
@[simp] theorem answerP_player (a : Answer) (s : State) : (answerP a s).player = s.player := by simp [answerP]
@[simp] theorem answerP_arb (a : Answer) (s : State) : (answerP a s).arb = s.arb := by simp [answerP]
@[simp] theorem answerP_scan (a : Answer) (s : State) : (answerP a s).scan = s.scan := by simp [answerP]
@[simp] theorem answerP_bellows (a : Answer) (s : State) : (answerP a s).bellows = s.bellows := by simp [answerP]
@[simp] theorem answerP_map (a : Answer) (s : State) : (answerP a s).map = s.map := by simp [answerP]
@[simp] theorem answerP_eng (a : Answer) (s : State) : (answerP a s).eng = s.eng := by simp [answerP]
@[simp] theorem answerP_voice (a : Answer) (s : State) : (answerP a s).voice = s.voice := by simp [answerP]
@[simp] theorem answerP_tone (a : Answer) (s : State) : (answerP a s).tone = s.tone := by simp [answerP]
@[simp] theorem answerP_ctrl (a : Answer) (s : State) : (answerP a s).ctrl = s.ctrl := by simp [answerP]
@[simp] theorem answerP_stat (a : Answer) (s : State) : (answerP a s).stat = s.stat := by simp [answerP]
@[simp] theorem answerP_pending (a : Answer) (s : State) : (answerP a s).pending = s.pending := by simp [answerP]

/-! ### answerT -/

@[simp] theorem answerT_pins (a : Answer) (s : State) : (answerT a s).pins = s.pins := by simp [answerT]
@[simp] theorem answerT_timebase (a : Answer) (s : State) : (answerT a s).timebase = s.timebase := by simp [answerT]
@[simp] theorem answerT_player (a : Answer) (s : State) : (answerT a s).player = s.player := by simp [answerT]
@[simp] theorem answerT_arb (a : Answer) (s : State) : (answerT a s).arb = s.arb := by simp [answerT]
@[simp] theorem answerT_scan (a : Answer) (s : State) : (answerT a s).scan = s.scan := by simp [answerT]
@[simp] theorem answerT_bellows (a : Answer) (s : State) : (answerT a s).bellows = s.bellows := by simp [answerT]
@[simp] theorem answerT_map (a : Answer) (s : State) : (answerT a s).map = s.map := by simp [answerT]
@[simp] theorem answerT_eng (a : Answer) (s : State) : (answerT a s).eng = s.eng := by simp [answerT]
@[simp] theorem answerT_voice (a : Answer) (s : State) : (answerT a s).voice = s.voice := by simp [answerT]
@[simp] theorem answerT_tone (a : Answer) (s : State) : (answerT a s).tone = s.tone := by simp [answerT]
@[simp] theorem answerT_ctrl (a : Answer) (s : State) : (answerT a s).ctrl = s.ctrl := by simp [answerT]
@[simp] theorem answerT_stat (a : Answer) (s : State) : (answerT a s).stat = s.stat := by simp [answerT]
@[simp] theorem answerT_pending (a : Answer) (s : State) : (answerT a s).pending = s.pending := by simp [answerT]

/-! ### announcements -/

@[simp] theorem announceScan_pins (ws : List NamedWord) (s : State) : (announceScan ws s).pins = s.pins := by
  unfold announceScan
  dsimp only []
  split <;> (try simp only [report_pins, State.setBellows_pins]) <;>
    exact foldl_keeps (P := fun t => t.pins = s.pins) _ _ (by intro t x h; simpa using h) _ rfl
@[simp] theorem announceScan_ports (ws : List NamedWord) (s : State) : (announceScan ws s).ports = s.ports := by
  unfold announceScan
  dsimp only []
  split <;> (try simp only [report_ports, State.setBellows_ports]) <;>
    exact foldl_keeps (P := fun t => t.ports = s.ports) _ _ (by intro t x h; simpa using h) _ rfl
@[simp] theorem announceScan_timebase (ws : List NamedWord) (s : State) : (announceScan ws s).timebase = s.timebase := by
  unfold announceScan
  dsimp only []
  split <;> (try simp only [report_timebase, State.setBellows_timebase]) <;>
    exact foldl_keeps (P := fun t => t.timebase = s.timebase) _ _ (by intro t x h; simpa using h) _ rfl
@[simp] theorem announceScan_player (ws : List NamedWord) (s : State) : (announceScan ws s).player = s.player := by
  unfold announceScan
  dsimp only []
  split <;> (try simp only [report_player, State.setBellows_player]) <;>
    exact foldl_keeps (P := fun t => t.player = s.player) _ _ (by intro t x h; simpa using h) _ rfl
@[simp] theorem announceScan_arb (ws : List NamedWord) (s : State) : (announceScan ws s).arb = s.arb := by
  unfold announceScan
  dsimp only []
  split <;> (try simp only [report_arb, State.setBellows_arb]) <;>
    exact foldl_keeps (P := fun t => t.arb = s.arb) _ _ (by intro t x h; simpa using h) _ rfl
@[simp] theorem announceScan_map (ws : List NamedWord) (s : State) : (announceScan ws s).map = s.map := by
  unfold announceScan
  dsimp only []
  split <;> (try simp only [report_map, State.setBellows_map]) <;>
    exact foldl_keeps (P := fun t => t.map = s.map) _ _ (by intro t x h; simpa using h) _ rfl
@[simp] theorem announceScan_eng (ws : List NamedWord) (s : State) : (announceScan ws s).eng = s.eng := by
  unfold announceScan
  dsimp only []
  split <;> (try simp only [report_eng, State.setBellows_eng]) <;>
    exact foldl_keeps (P := fun t => t.eng = s.eng) _ _ (by intro t x h; simpa using h) _ rfl
@[simp] theorem announceScan_voice (ws : List NamedWord) (s : State) : (announceScan ws s).voice = s.voice := by
  unfold announceScan
  dsimp only []
  split <;> (try simp only [report_voice, State.setBellows_voice]) <;>
    exact foldl_keeps (P := fun t => t.voice = s.voice) _ _ (by intro t x h; simpa using h) _ rfl
@[simp] theorem announceScan_tone (ws : List NamedWord) (s : State) : (announceScan ws s).tone = s.tone := by
  unfold announceScan
  dsimp only []
  split <;> (try simp only [report_tone, State.setBellows_tone]) <;>
    exact foldl_keeps (P := fun t => t.tone = s.tone) _ _ (by intro t x h; simpa using h) _ rfl
@[simp] theorem announceScan_ctrl (ws : List NamedWord) (s : State) : (announceScan ws s).ctrl = s.ctrl := by
  unfold announceScan
  dsimp only []
  split <;> (try simp only [report_ctrl, State.setBellows_ctrl]) <;>
    exact foldl_keeps (P := fun t => t.ctrl = s.ctrl) _ _ (by intro t x h; simpa using h) _ rfl
@[simp] theorem announceScan_pending (ws : List NamedWord) (s : State) : (announceScan ws s).pending = s.pending := by
  unfold announceScan
  dsimp only []
  split <;> (try simp only [report_pending, State.setBellows_pending]) <;>
    exact foldl_keeps (P := fun t => t.pending = s.pending) _ _ (by intro t x h; simpa using h) _ rfl
@[simp] theorem announceMap_pins (b : Bank) (ws : List NamedWord) (s : State) : (announceMap b ws s).pins = s.pins := by
  unfold announceMap
  split
  · rfl
  · exact foldl_keeps (P := fun t => t.pins = s.pins) _ _ (by intro t x h; simpa using h) _ rfl
@[simp] theorem announceMap_ports (b : Bank) (ws : List NamedWord) (s : State) : (announceMap b ws s).ports = s.ports := by
  unfold announceMap
  split
  · rfl
  · exact foldl_keeps (P := fun t => t.ports = s.ports) _ _ (by intro t x h; simpa using h) _ rfl
@[simp] theorem announceMap_timebase (b : Bank) (ws : List NamedWord) (s : State) : (announceMap b ws s).timebase = s.timebase := by
  unfold announceMap
  split
  · rfl
  · exact foldl_keeps (P := fun t => t.timebase = s.timebase) _ _ (by intro t x h; simpa using h) _ rfl
@[simp] theorem announceMap_player (b : Bank) (ws : List NamedWord) (s : State) : (announceMap b ws s).player = s.player := by
  unfold announceMap
  split
  · rfl
  · exact foldl_keeps (P := fun t => t.player = s.player) _ _ (by intro t x h; simpa using h) _ rfl
@[simp] theorem announceMap_arb (b : Bank) (ws : List NamedWord) (s : State) : (announceMap b ws s).arb = s.arb := by
  unfold announceMap
  split
  · rfl
  · exact foldl_keeps (P := fun t => t.arb = s.arb) _ _ (by intro t x h; simpa using h) _ rfl
@[simp] theorem announceMap_scan (b : Bank) (ws : List NamedWord) (s : State) : (announceMap b ws s).scan = s.scan := by
  unfold announceMap
  split
  · rfl
  · exact foldl_keeps (P := fun t => t.scan = s.scan) _ _ (by intro t x h; simpa using h) _ rfl
@[simp] theorem announceMap_bellows (b : Bank) (ws : List NamedWord) (s : State) : (announceMap b ws s).bellows = s.bellows := by
  unfold announceMap
  split
  · rfl
  · exact foldl_keeps (P := fun t => t.bellows = s.bellows) _ _ (by intro t x h; simpa using h) _ rfl
@[simp] theorem announceMap_eng (b : Bank) (ws : List NamedWord) (s : State) : (announceMap b ws s).eng = s.eng := by
  unfold announceMap
  split
  · rfl
  · exact foldl_keeps (P := fun t => t.eng = s.eng) _ _ (by intro t x h; simpa using h) _ rfl
@[simp] theorem announceMap_voice (b : Bank) (ws : List NamedWord) (s : State) : (announceMap b ws s).voice = s.voice := by
  unfold announceMap
  split
  · rfl
  · exact foldl_keeps (P := fun t => t.voice = s.voice) _ _ (by intro t x h; simpa using h) _ rfl
@[simp] theorem announceMap_tone (b : Bank) (ws : List NamedWord) (s : State) : (announceMap b ws s).tone = s.tone := by
  unfold announceMap
  split
  · rfl
  · exact foldl_keeps (P := fun t => t.tone = s.tone) _ _ (by intro t x h; simpa using h) _ rfl
@[simp] theorem announceMap_ctrl (b : Bank) (ws : List NamedWord) (s : State) : (announceMap b ws s).ctrl = s.ctrl := by
  unfold announceMap
  split
  · rfl
  · exact foldl_keeps (P := fun t => t.ctrl = s.ctrl) _ _ (by intro t x h; simpa using h) _ rfl
@[simp] theorem announceMap_stat (b : Bank) (ws : List NamedWord) (s : State) : (announceMap b ws s).stat = s.stat := by
  unfold announceMap
  split
  · rfl
  · exact foldl_keeps (P := fun t => t.stat = s.stat) _ _ (by intro t x h; simpa using h) _ rfl
@[simp] theorem announceMap_pending (b : Bank) (ws : List NamedWord) (s : State) : (announceMap b ws s).pending = s.pending := by
  unfold announceMap
  split
  · rfl
  · exact foldl_keeps (P := fun t => t.pending = s.pending) _ _ (by intro t x h; simpa using h) _ rfl
@[simp] theorem announceSections_pins (ws : List NamedWord) (s : State) : (announceSections ws s).pins = s.pins := by
  unfold announceSections
  split
  · rfl
  · exact foldl_keeps (P := fun t => t.pins = s.pins) _ _ (by intro t x h; simpa using h) _ rfl
@[simp] theorem announceSections_ports (ws : List NamedWord) (s : State) : (announceSections ws s).ports = s.ports := by
  unfold announceSections
  split
  · rfl
  · exact foldl_keeps (P := fun t => t.ports = s.ports) _ _ (by intro t x h; simpa using h) _ rfl
@[simp] theorem announceSections_timebase (ws : List NamedWord) (s : State) : (announceSections ws s).timebase = s.timebase := by
  unfold announceSections
  split
  · rfl
  · exact foldl_keeps (P := fun t => t.timebase = s.timebase) _ _ (by intro t x h; simpa using h) _ rfl
@[simp] theorem announceSections_player (ws : List NamedWord) (s : State) : (announceSections ws s).player = s.player := by
  unfold announceSections
  split
  · rfl
  · exact foldl_keeps (P := fun t => t.player = s.player) _ _ (by intro t x h; simpa using h) _ rfl
@[simp] theorem announceSections_arb (ws : List NamedWord) (s : State) : (announceSections ws s).arb = s.arb := by
  unfold announceSections
  split
  · rfl
  · exact foldl_keeps (P := fun t => t.arb = s.arb) _ _ (by intro t x h; simpa using h) _ rfl
@[simp] theorem announceSections_scan (ws : List NamedWord) (s : State) : (announceSections ws s).scan = s.scan := by
  unfold announceSections
  split
  · rfl
  · exact foldl_keeps (P := fun t => t.scan = s.scan) _ _ (by intro t x h; simpa using h) _ rfl
@[simp] theorem announceSections_bellows (ws : List NamedWord) (s : State) : (announceSections ws s).bellows = s.bellows := by
  unfold announceSections
  split
  · rfl
  · exact foldl_keeps (P := fun t => t.bellows = s.bellows) _ _ (by intro t x h; simpa using h) _ rfl
@[simp] theorem announceSections_eng (ws : List NamedWord) (s : State) : (announceSections ws s).eng = s.eng := by
  unfold announceSections
  split
  · rfl
  · exact foldl_keeps (P := fun t => t.eng = s.eng) _ _ (by intro t x h; simpa using h) _ rfl
@[simp] theorem announceSections_voice (ws : List NamedWord) (s : State) : (announceSections ws s).voice = s.voice := by
  unfold announceSections
  split
  · rfl
  · exact foldl_keeps (P := fun t => t.voice = s.voice) _ _ (by intro t x h; simpa using h) _ rfl
@[simp] theorem announceSections_tone (ws : List NamedWord) (s : State) : (announceSections ws s).tone = s.tone := by
  unfold announceSections
  split
  · rfl
  · exact foldl_keeps (P := fun t => t.tone = s.tone) _ _ (by intro t x h; simpa using h) _ rfl
@[simp] theorem announceSections_ctrl (ws : List NamedWord) (s : State) : (announceSections ws s).ctrl = s.ctrl := by
  unfold announceSections
  split
  · rfl
  · exact foldl_keeps (P := fun t => t.ctrl = s.ctrl) _ _ (by intro t x h; simpa using h) _ rfl
@[simp] theorem announceSections_stat (ws : List NamedWord) (s : State) : (announceSections ws s).stat = s.stat := by
  unfold announceSections
  split
  · rfl
  · exact foldl_keeps (P := fun t => t.stat = s.stat) _ _ (by intro t x h; simpa using h) _ rfl
@[simp] theorem announceSections_pending (ws : List NamedWord) (s : State) : (announceSections ws s).pending = s.pending := by
  unfold announceSections
  split
  · rfl
  · exact foldl_keeps (P := fun t => t.pending = s.pending) _ _ (by intro t x h; simpa using h) _ rfl


/-! ### announceCommand -/

@[simp] theorem announceCommand_pins (ws : List NamedWord) (s : State) : (announceCommand ws s).pins = s.pins := by (unfold announceCommand; simp only []; split) <;> simp
@[simp] theorem announceCommand_timebase (ws : List NamedWord) (s : State) : (announceCommand ws s).timebase = s.timebase := by (unfold announceCommand; simp only []; split) <;> simp
@[simp] theorem announceCommand_player (ws : List NamedWord) (s : State) : (announceCommand ws s).player = s.player := by (unfold announceCommand; simp only []; split) <;> simp
@[simp] theorem announceCommand_pending (ws : List NamedWord) (s : State) : (announceCommand ws s).pending = s.pending := by (unfold announceCommand; simp only []; split) <;> simp

/-! ### announce -/

@[simp] theorem announce_pins (x : Area) (ws : List NamedWord) (s : State) : (announce x ws s).pins = s.pins := by cases x <;> simp [announce]
@[simp] theorem announce_timebase (x : Area) (ws : List NamedWord) (s : State) : (announce x ws s).timebase = s.timebase := by cases x <;> simp [announce]
@[simp] theorem announce_player (x : Area) (ws : List NamedWord) (s : State) : (announce x ws s).player = s.player := by cases x <;> simp [announce]
@[simp] theorem announce_pending (x : Area) (ws : List NamedWord) (s : State) : (announce x ws s).pending = s.pending := by cases x <;> simp [announce]

@[simp] theorem acceptPWrite_pins (w : WriteReq) (s : State) : (acceptPWrite w s).pins = s.pins := by
  unfold acceptPWrite
  dsimp only []
  rw [chooseFetch_pins]
  exact foldl_keeps (P := fun t => t.pins = s.pins) _ _ (by intro t x h; simpa using h) _ (by simp)
@[simp] theorem acceptPWrite_timebase (w : WriteReq) (s : State) : (acceptPWrite w s).timebase = s.timebase := by
  unfold acceptPWrite
  dsimp only []
  rw [chooseFetch_timebase]
  exact foldl_keeps (P := fun t => t.timebase = s.timebase) _ _ (by intro t x h; simpa using h) _ (by simp)
@[simp] theorem acceptPWrite_pending (w : WriteReq) (s : State) : (acceptPWrite w s).pending = s.pending := by
  unfold acceptPWrite
  dsimp only []
  rw [chooseFetch_pending]
  exact foldl_keeps (P := fun t => t.pending = s.pending) _ _ (by intro t x h; simpa using h) _ (by simp)


/-! ### pWrite -/

@[simp] theorem pWrite_pins (w : WriteReq) (s : State) : (pWrite w s).pins = s.pins := by (unfold pWrite; repeat' split) <;> simp
@[simp] theorem pWrite_timebase (w : WriteReq) (s : State) : (pWrite w s).timebase = s.timebase := by (unfold pWrite; repeat' split) <;> simp
@[simp] theorem pWrite_pending (w : WriteReq) (s : State) : (pWrite w s).pending = s.pending := by (unfold pWrite; repeat' split) <;> simp

/-! ### requestSnapshot -/

@[simp] theorem requestSnapshot_pins (s : State) : (requestSnapshot s).pins = s.pins := by (unfold requestSnapshot; split) <;> simp
@[simp] theorem requestSnapshot_ports (s : State) : (requestSnapshot s).ports = s.ports := by (unfold requestSnapshot; split) <;> simp
@[simp] theorem requestSnapshot_timebase (s : State) : (requestSnapshot s).timebase = s.timebase := by (unfold requestSnapshot; split) <;> simp
@[simp] theorem requestSnapshot_player (s : State) : (requestSnapshot s).player = s.player := by (unfold requestSnapshot; split) <;> simp
@[simp] theorem requestSnapshot_arb (s : State) : (requestSnapshot s).arb = s.arb := by (unfold requestSnapshot; split) <;> simp
@[simp] theorem requestSnapshot_scan (s : State) : (requestSnapshot s).scan = s.scan := by (unfold requestSnapshot; split) <;> simp
@[simp] theorem requestSnapshot_bellows (s : State) : (requestSnapshot s).bellows = s.bellows := by (unfold requestSnapshot; split) <;> simp
@[simp] theorem requestSnapshot_map (s : State) : (requestSnapshot s).map = s.map := by (unfold requestSnapshot; split) <;> simp
@[simp] theorem requestSnapshot_eng (s : State) : (requestSnapshot s).eng = s.eng := by (unfold requestSnapshot; split) <;> simp
@[simp] theorem requestSnapshot_voice (s : State) : (requestSnapshot s).voice = s.voice := by (unfold requestSnapshot; split) <;> simp
@[simp] theorem requestSnapshot_tone (s : State) : (requestSnapshot s).tone = s.tone := by (unfold requestSnapshot; split) <;> simp
@[simp] theorem requestSnapshot_ctrl (s : State) : (requestSnapshot s).ctrl = s.ctrl := by (unfold requestSnapshot; split) <;> simp
@[simp] theorem requestSnapshot_pending (s : State) : (requestSnapshot s).pending = s.pending := by (unfold requestSnapshot; split) <;> simp

/-! ### acceptPRead -/

@[simp] theorem acceptPRead_pins (r : ReadReq) (s : State) : (acceptPRead r s).pins = s.pins := by (unfold acceptPRead; simp only []; split) <;> simp
@[simp] theorem acceptPRead_timebase (r : ReadReq) (s : State) : (acceptPRead r s).timebase = s.timebase := by (unfold acceptPRead; simp only []; split) <;> simp
@[simp] theorem acceptPRead_arb (r : ReadReq) (s : State) : (acceptPRead r s).arb = s.arb := by (unfold acceptPRead; simp only []; split) <;> simp
@[simp] theorem acceptPRead_scan (r : ReadReq) (s : State) : (acceptPRead r s).scan = s.scan := by (unfold acceptPRead; simp only []; split) <;> simp
@[simp] theorem acceptPRead_bellows (r : ReadReq) (s : State) : (acceptPRead r s).bellows = s.bellows := by (unfold acceptPRead; simp only []; split) <;> simp
@[simp] theorem acceptPRead_map (r : ReadReq) (s : State) : (acceptPRead r s).map = s.map := by (unfold acceptPRead; simp only []; split) <;> simp
@[simp] theorem acceptPRead_eng (r : ReadReq) (s : State) : (acceptPRead r s).eng = s.eng := by (unfold acceptPRead; simp only []; split) <;> simp
@[simp] theorem acceptPRead_voice (r : ReadReq) (s : State) : (acceptPRead r s).voice = s.voice := by (unfold acceptPRead; simp only []; split) <;> simp
@[simp] theorem acceptPRead_tone (r : ReadReq) (s : State) : (acceptPRead r s).tone = s.tone := by (unfold acceptPRead; simp only []; split) <;> simp
@[simp] theorem acceptPRead_ctrl (r : ReadReq) (s : State) : (acceptPRead r s).ctrl = s.ctrl := by (unfold acceptPRead; simp only []; split) <;> simp
@[simp] theorem acceptPRead_pending (r : ReadReq) (s : State) : (acceptPRead r s).pending = s.pending := by (unfold acceptPRead; simp only []; split) <;> simp

/-! ### pRead -/

@[simp] theorem pRead_pins (r : ReadReq) (s : State) : (pRead r s).pins = s.pins := by (unfold pRead; repeat' split) <;> simp
@[simp] theorem pRead_timebase (r : ReadReq) (s : State) : (pRead r s).timebase = s.timebase := by (unfold pRead; repeat' split) <;> simp
@[simp] theorem pRead_arb (r : ReadReq) (s : State) : (pRead r s).arb = s.arb := by (unfold pRead; repeat' split) <;> simp
@[simp] theorem pRead_scan (r : ReadReq) (s : State) : (pRead r s).scan = s.scan := by (unfold pRead; repeat' split) <;> simp
@[simp] theorem pRead_bellows (r : ReadReq) (s : State) : (pRead r s).bellows = s.bellows := by (unfold pRead; repeat' split) <;> simp
@[simp] theorem pRead_map (r : ReadReq) (s : State) : (pRead r s).map = s.map := by (unfold pRead; repeat' split) <;> simp
@[simp] theorem pRead_eng (r : ReadReq) (s : State) : (pRead r s).eng = s.eng := by (unfold pRead; repeat' split) <;> simp
@[simp] theorem pRead_voice (r : ReadReq) (s : State) : (pRead r s).voice = s.voice := by (unfold pRead; repeat' split) <;> simp
@[simp] theorem pRead_tone (r : ReadReq) (s : State) : (pRead r s).tone = s.tone := by (unfold pRead; repeat' split) <;> simp
@[simp] theorem pRead_ctrl (r : ReadReq) (s : State) : (pRead r s).ctrl = s.ctrl := by (unfold pRead; repeat' split) <;> simp
@[simp] theorem pRead_pending (r : ReadReq) (s : State) : (pRead r s).pending = s.pending := by (unfold pRead; repeat' split) <;> simp

/-! ### serveT -/

@[simp] theorem serveT_pins (q : ToneReq) (s : State) : (serveT q s).pins = s.pins := by simp [serveT]
@[simp] theorem serveT_timebase (q : ToneReq) (s : State) : (serveT q s).timebase = s.timebase := by simp [serveT]
@[simp] theorem serveT_player (q : ToneReq) (s : State) : (serveT q s).player = s.player := by simp [serveT]
@[simp] theorem serveT_arb (q : ToneReq) (s : State) : (serveT q s).arb = s.arb := by simp [serveT]
@[simp] theorem serveT_scan (q : ToneReq) (s : State) : (serveT q s).scan = s.scan := by simp [serveT]
@[simp] theorem serveT_bellows (q : ToneReq) (s : State) : (serveT q s).bellows = s.bellows := by simp [serveT]
@[simp] theorem serveT_map (q : ToneReq) (s : State) : (serveT q s).map = s.map := by simp [serveT]
@[simp] theorem serveT_eng (q : ToneReq) (s : State) : (serveT q s).eng = s.eng := by simp [serveT]
@[simp] theorem serveT_voice (q : ToneReq) (s : State) : (serveT q s).voice = s.voice := by simp [serveT]
@[simp] theorem serveT_ctrl (q : ToneReq) (s : State) : (serveT q s).ctrl = s.ctrl := by simp [serveT]
@[simp] theorem serveT_stat (q : ToneReq) (s : State) : (serveT q s).stat = s.stat := by simp [serveT]
@[simp] theorem serveT_pending (q : ToneReq) (s : State) : (serveT q s).pending = s.pending := by simp [serveT]

/-! ### answerTRead -/

@[simp] theorem answerTRead_pins (r : ReadReq) (d : Tbl 8 Word) (s : State) : (answerTRead r d s).pins = s.pins := by (unfold answerTRead; simp only []; split) <;> simp
@[simp] theorem answerTRead_timebase (r : ReadReq) (d : Tbl 8 Word) (s : State) : (answerTRead r d s).timebase = s.timebase := by (unfold answerTRead; simp only []; split) <;> simp
@[simp] theorem answerTRead_player (r : ReadReq) (d : Tbl 8 Word) (s : State) : (answerTRead r d s).player = s.player := by (unfold answerTRead; simp only []; split) <;> simp
@[simp] theorem answerTRead_arb (r : ReadReq) (d : Tbl 8 Word) (s : State) : (answerTRead r d s).arb = s.arb := by (unfold answerTRead; simp only []; split) <;> simp
@[simp] theorem answerTRead_pending (r : ReadReq) (d : Tbl 8 Word) (s : State) : (answerTRead r d s).pending = s.pending := by (unfold answerTRead; simp only []; split) <;> simp

/-! ### tRead -/

@[simp] theorem tRead_pins (r : ReadReq) (s : State) : (tRead r s).pins = s.pins := by (unfold tRead; repeat' split) <;> simp
@[simp] theorem tRead_timebase (r : ReadReq) (s : State) : (tRead r s).timebase = s.timebase := by (unfold tRead; repeat' split) <;> simp
@[simp] theorem tRead_player (r : ReadReq) (s : State) : (tRead r s).player = s.player := by (unfold tRead; repeat' split) <;> simp
@[simp] theorem tRead_arb (r : ReadReq) (s : State) : (tRead r s).arb = s.arb := by (unfold tRead; repeat' split) <;> simp
@[simp] theorem tRead_pending (r : ReadReq) (s : State) : (tRead r s).pending = s.pending := by (unfold tRead; repeat' split) <;> simp

/-! ### tWrite -/

@[simp] theorem tWrite_pins (w : WriteReq) (s : State) : (tWrite w s).pins = s.pins := by (unfold tWrite; repeat' split) <;> simp
@[simp] theorem tWrite_timebase (w : WriteReq) (s : State) : (tWrite w s).timebase = s.timebase := by (unfold tWrite; repeat' split) <;> simp
@[simp] theorem tWrite_player (w : WriteReq) (s : State) : (tWrite w s).player = s.player := by (unfold tWrite; repeat' split) <;> simp
@[simp] theorem tWrite_arb (w : WriteReq) (s : State) : (tWrite w s).arb = s.arb := by (unfold tWrite; repeat' split) <;> simp
@[simp] theorem tWrite_scan (w : WriteReq) (s : State) : (tWrite w s).scan = s.scan := by (unfold tWrite; repeat' split) <;> simp
@[simp] theorem tWrite_bellows (w : WriteReq) (s : State) : (tWrite w s).bellows = s.bellows := by (unfold tWrite; repeat' split) <;> simp
@[simp] theorem tWrite_map (w : WriteReq) (s : State) : (tWrite w s).map = s.map := by (unfold tWrite; repeat' split) <;> simp
@[simp] theorem tWrite_eng (w : WriteReq) (s : State) : (tWrite w s).eng = s.eng := by (unfold tWrite; repeat' split) <;> simp
@[simp] theorem tWrite_voice (w : WriteReq) (s : State) : (tWrite w s).voice = s.voice := by (unfold tWrite; repeat' split) <;> simp
@[simp] theorem tWrite_ctrl (w : WriteReq) (s : State) : (tWrite w s).ctrl = s.ctrl := by (unfold tWrite; repeat' split) <;> simp
@[simp] theorem tWrite_pending (w : WriteReq) (s : State) : (tWrite w s).pending = s.pending := by (unfold tWrite; repeat' split) <;> simp

end Sys2Proof.Machine
end

