-- ==== Sys2Proof/Laws/Fetch.lean ====
section
/-! SUPPORT. What the choice of a fetch and the map unit's operations do. -/

namespace Sys2Proof.Machine

/-- An empty P write queue makes every fetch eligible (R38, R83). -/
theorem eligible_of_empty (s : State) (f : Fetch) (h : s.player.writes = []) : eligible s f = true := by
  simp [eligible, holdsWord, h]

/-- The choice of a fetch changes the control unit's argument read at most. -/
theorem chooseFetch_ctrl (s : State) :
    (chooseFetch s).ctrl = { s.ctrl with argRead := (chooseFetch s).ctrl.argRead } := by
  unfold chooseFetch
  split
  · rfl
  · split
    · rfl
    · next k _ => cases k <;> simp [noteChosen]

@[simp] theorem chooseFetch_ctrl_op (s : State) : (chooseFetch s).ctrl.op = s.ctrl.op := by rw [chooseFetch_ctrl]
@[simp] theorem chooseFetch_ctrl_phase (s : State) : (chooseFetch s).ctrl.phase = s.ctrl.phase := by rw [chooseFetch_ctrl]
@[simp] theorem chooseFetch_ctrl_dsel (s : State) : (chooseFetch s).ctrl.dsel = s.ctrl.dsel := by rw [chooseFetch_ctrl]
@[simp] theorem chooseFetch_ctrl_boot (s : State) : (chooseFetch s).ctrl.boot = s.ctrl.boot := by rw [chooseFetch_ctrl]
@[simp] theorem chooseFetch_ctrl_desc (s : State) : (chooseFetch s).ctrl.desc = s.ctrl.desc := by rw [chooseFetch_ctrl]
@[simp] theorem chooseFetch_ctrl_valid (s : State) : (chooseFetch s).ctrl.valid = s.ctrl.valid := by rw [chooseFetch_ctrl]
@[simp] theorem chooseFetch_ctrl_command (s : State) : (chooseFetch s).ctrl.command = s.ctrl.command := by rw [chooseFetch_ctrl]
@[simp] theorem chooseFetch_ctrl_argAhead (s : State) : (chooseFetch s).ctrl.argAhead = s.ctrl.argAhead := by rw [chooseFetch_ctrl]
@[simp] theorem chooseFetch_ctrl_settleFrames (s : State) : (chooseFetch s).ctrl.settleFrames = s.ctrl.settleFrames := by rw [chooseFetch_ctrl]
@[simp] theorem chooseFetch_ctrl_settleTimer (s : State) : (chooseFetch s).ctrl.settleTimer = s.ctrl.settleTimer := by rw [chooseFetch_ctrl]
@[simp] theorem chooseFetch_ctrl_settleCut (s : State) : (chooseFetch s).ctrl.settleCut = s.ctrl.settleCut := by rw [chooseFetch_ctrl]
@[simp] theorem chooseFetch_ctrl_bank (s : State) : (chooseFetch s).ctrl.bank = s.ctrl.bank := by rw [chooseFetch_ctrl]
@[simp] theorem chooseFetch_ctrl_swap (s : State) : (chooseFetch s).ctrl.swap = s.ctrl.swap := by rw [chooseFetch_ctrl]
@[simp] theorem chooseFetch_ctrl_sustainFlag (s : State) : (chooseFetch s).ctrl.sustainFlag = s.ctrl.sustainFlag := by rw [chooseFetch_ctrl]
@[simp] theorem chooseFetch_ctrl_sustReading (s : State) : (chooseFetch s).ctrl.sustReading = s.ctrl.sustReading := by rw [chooseFetch_ctrl]
@[simp] theorem chooseFetch_ctrl_hushReading (s : State) : (chooseFetch s).ctrl.hushReading = s.ctrl.hushReading := by rw [chooseFetch_ctrl]
@[simp] theorem chooseFetch_ctrl_sustain (s : State) : (chooseFetch s).ctrl.sustain = s.ctrl.sustain := by rw [chooseFetch_ctrl]
@[simp] theorem chooseFetch_ctrl_hushEffective (s : State) : (chooseFetch s).ctrl.hushEffective = s.ctrl.hushEffective := by rw [chooseFetch_ctrl]
@[simp] theorem chooseFetch_ctrl_guard (s : State) : (chooseFetch s).ctrl.guard = s.ctrl.guard := by rw [chooseFetch_ctrl]

/-- The choice of a fetch leaves the map cache as it is. -/
@[simp] theorem chooseFetch_cache (s : State) : (chooseFetch s).map.cache = s.map.cache := by
  unfold chooseFetch
  split
  · rfl
  · split
    · rfl
    · next k _ => cases k <;> simp [noteChosen]

/-- The choice of a fetch leaves the section cache as it is. -/
@[simp] theorem chooseFetch_sects (s : State) : (chooseFetch s).map.sects = s.map.sects := by
  unfold chooseFetch
  split
  · rfl
  · split
    · rfl
    · next k _ => cases k <;> simp [noteChosen]

/-- A fetch in flight keeps the fetcher (R82). -/
theorem chooseFetch_busy {s : State} (h : s.map.fetch.isSome = true) : chooseFetch s = s := by
  unfold chooseFetch
  split
  · rfl
  · next hn => simp [hn] at h

/-- With nothing requested nothing is chosen (R82). -/
theorem chooseFetch_idle {s : State} (h : requested s = []) : chooseFetch s = s := by
  unfold chooseFetch
  split
  · rfl
  · simp [h]

/-- With an empty P write queue the first requested fetch is chosen (R82). -/
theorem chooseFetch_head {s : State} {k : FetchKind} (hf : s.map.fetch = none) (hr : (requested s).head? = some k)
    (hw : s.player.writes = []) :
    chooseFetch s = (noteChosen k s).setMap { (noteChosen k s).map with fetch := some (Fetch.begin k) } := by
  unfold chooseFetch
  rw [hf]
  have : (requested s).find? (fun k => eligible s (Fetch.begin k)) = some k := by
    cases h : requested s with
    | nil => simp [h] at hr
    | cons a l => simp [h] at hr; subst hr; simp [eligible_of_empty, hw]
  simp [this]

/-- A fetch that the fetcher chose is one that was requested. -/
theorem chooseFetch_fetch {s : State} {f : Fetch} (hf : s.map.fetch = none) (h : (chooseFetch s).map.fetch = some f) :
    f.kind ∈ requested s ∧ eligible s (Fetch.begin f.kind) = true := by
  unfold chooseFetch at h
  rw [hf] at h
  dsimp only [] at h
  split at h
  · simp [hf] at h
  · next k hk =>
    have hmem := List.mem_of_find?_eq_some hk
    have hel := List.find?_some hk
    simp only [State.setMap_map, Option.some.injEq] at h
    subst h
    exact ⟨hmem, hel⟩

end Sys2Proof.Machine
end

