-- ==== Sys2Proof/Laws/Status.lean ====
section
/-! SUPPORT. What the status unit's operations do to each of its fields. -/

namespace Sys2Proof.Machine

/-! ### report -/

@[simp] theorem report_stat_flags (a b : State) : (report a b).stat.flags = b.stat.flags := by unfold report; split <;> rfl
@[simp] theorem report_stat_faultLog (a b : State) : (report a b).stat.faultLog = b.stat.faultLog := by unfold report; split <;> rfl
@[simp] theorem report_stat_moreFaults (a b : State) : (report a b).stat.moreFaults = b.stat.moreFaults := by unfold report; split <;> rfl
@[simp] theorem report_stat_faultCount (a b : State) : (report a b).stat.faultCount = b.stat.faultCount := by unfold report; split <;> rfl
@[simp] theorem report_stat_counters (a b : State) : (report a b).stat.counters = b.stat.counters := by unfold report; split <;> rfl
@[simp] theorem report_stat_lastOpcode (a b : State) : (report a b).stat.lastOpcode = b.stat.lastOpcode := by unfold report; split <;> rfl
@[simp] theorem report_stat_result (a b : State) : (report a b).stat.result = b.stat.result := by unfold report; split <;> rfl
@[simp] theorem report_stat_cmdCount (a b : State) : (report a b).stat.cmdCount = b.stat.cmdCount := by unfold report; split <;> rfl
@[simp] theorem report_stat_awaited (a b : State) : (report a b).stat.awaited = b.stat.awaited := by unfold report; split <;> rfl
@[simp] theorem report_stat_freshPass (a b : State) : (report a b).stat.freshPass = b.stat.freshPass := by unfold report; split <;> rfl
@[simp] theorem report_stat_snapshot (a b : State) : (report a b).stat.snapshot = b.stat.snapshot := by unfold report; split <;> rfl

/-- A change of a status field sets the stale mark (R179). -/
theorem report_stale_of_change {a b : State} (h : statusView a ≠ statusView b) : (report a b).stat.stale = true := by
  unfold report; rw [if_neg h]; rfl

/-- A change of a status field sets the change-since-image mark (R180). -/
theorem report_changed_of_change {a b : State} (h : statusView a ≠ statusView b) :
    (report a b).stat.changed = true := by
  unfold report; rw [if_neg h]; rfl

/-- A report that leaves every field at its value is no change (R177). -/
theorem report_same {a b : State} (h : statusView a = statusView b) : report a b = b := by
  unfold report; rw [if_pos h]

/-- The stale mark, once set, stays set through a report. -/
theorem report_stale {a b : State} (h : b.stat.stale = true) : (report a b).stat.stale = true := by
  unfold report; split
  · exact h
  · rfl

/-! ### raiseFlag -/

@[simp] theorem raiseFlag_stat_flags (f : BitVec 7) (s : State) : (raiseFlag f s).stat.flags = s.stat.flags ||| f := by simp [raiseFlag]
@[simp] theorem raiseFlag_stat_faultLog (f : BitVec 7) (s : State) : (raiseFlag f s).stat.faultLog = s.stat.faultLog := by simp [raiseFlag]
@[simp] theorem raiseFlag_stat_moreFaults (f : BitVec 7) (s : State) : (raiseFlag f s).stat.moreFaults = s.stat.moreFaults := by simp [raiseFlag]
@[simp] theorem raiseFlag_stat_faultCount (f : BitVec 7) (s : State) : (raiseFlag f s).stat.faultCount = s.stat.faultCount := by simp [raiseFlag]
@[simp] theorem raiseFlag_stat_counters (f : BitVec 7) (s : State) : (raiseFlag f s).stat.counters = s.stat.counters := by simp [raiseFlag]
@[simp] theorem raiseFlag_stat_lastOpcode (f : BitVec 7) (s : State) : (raiseFlag f s).stat.lastOpcode = s.stat.lastOpcode := by simp [raiseFlag]
@[simp] theorem raiseFlag_stat_result (f : BitVec 7) (s : State) : (raiseFlag f s).stat.result = s.stat.result := by simp [raiseFlag]
@[simp] theorem raiseFlag_stat_cmdCount (f : BitVec 7) (s : State) : (raiseFlag f s).stat.cmdCount = s.stat.cmdCount := by simp [raiseFlag]
@[simp] theorem raiseFlag_stat_awaited (f : BitVec 7) (s : State) : (raiseFlag f s).stat.awaited = s.stat.awaited := by simp [raiseFlag]
@[simp] theorem raiseFlag_stat_freshPass (f : BitVec 7) (s : State) : (raiseFlag f s).stat.freshPass = s.stat.freshPass := by simp [raiseFlag]
@[simp] theorem raiseFlag_stat_snapshot (f : BitVec 7) (s : State) : (raiseFlag f s).stat.snapshot = s.stat.snapshot := by simp [raiseFlag]

/-! ### logFault -/

@[simp] theorem logFault_stat_flags (k : FaultKind) (p : PortId) (a : Addr) (s : State) : (logFault k p a s).stat.flags = s.stat.flags ||| 1 := by unfold logFault; cases h : s.stat.faultLog <;> simp [h, flagFault]
@[simp] theorem logFault_stat_faultLog (k : FaultKind) (p : PortId) (a : Addr) (s : State) : (logFault k p a s).stat.faultLog = some (s.stat.faultLog.getD { kind := k, port := p, addr := a }) := by unfold logFault; cases h : s.stat.faultLog <;> simp [h, flagFault]
@[simp] theorem logFault_stat_moreFaults (k : FaultKind) (p : PortId) (a : Addr) (s : State) : (logFault k p a s).stat.moreFaults = s.stat.faultLog.isSome := by unfold logFault; cases h : s.stat.faultLog <;> simp [h, flagFault]
@[simp] theorem logFault_stat_faultCount (k : FaultKind) (p : PortId) (a : Addr) (s : State) : (logFault k p a s).stat.faultCount = bump s.stat.faultCount := by unfold logFault; cases h : s.stat.faultLog <;> simp [h, flagFault]
@[simp] theorem logFault_stat_counters (k : FaultKind) (p : PortId) (a : Addr) (s : State) : (logFault k p a s).stat.counters = s.stat.counters := by unfold logFault; cases h : s.stat.faultLog <;> simp [h, flagFault]
@[simp] theorem logFault_stat_lastOpcode (k : FaultKind) (p : PortId) (a : Addr) (s : State) : (logFault k p a s).stat.lastOpcode = s.stat.lastOpcode := by unfold logFault; cases h : s.stat.faultLog <;> simp [h, flagFault]
@[simp] theorem logFault_stat_result (k : FaultKind) (p : PortId) (a : Addr) (s : State) : (logFault k p a s).stat.result = s.stat.result := by unfold logFault; cases h : s.stat.faultLog <;> simp [h, flagFault]
@[simp] theorem logFault_stat_cmdCount (k : FaultKind) (p : PortId) (a : Addr) (s : State) : (logFault k p a s).stat.cmdCount = s.stat.cmdCount := by unfold logFault; cases h : s.stat.faultLog <;> simp [h, flagFault]
@[simp] theorem logFault_stat_awaited (k : FaultKind) (p : PortId) (a : Addr) (s : State) : (logFault k p a s).stat.awaited = s.stat.awaited := by unfold logFault; cases h : s.stat.faultLog <;> simp [h, flagFault]
@[simp] theorem logFault_stat_freshPass (k : FaultKind) (p : PortId) (a : Addr) (s : State) : (logFault k p a s).stat.freshPass = s.stat.freshPass := by unfold logFault; cases h : s.stat.faultLog <;> simp [h, flagFault]
@[simp] theorem logFault_stat_snapshot (k : FaultKind) (p : PortId) (a : Addr) (s : State) : (logFault k p a s).stat.snapshot = s.stat.snapshot := by unfold logFault; cases h : s.stat.faultLog <;> simp [h, flagFault]

/-! ### setCounters -/

@[simp] theorem setCounters_stat_flags (g : Counters → Counters) (s : State) : (setCounters g s).stat.flags = s.stat.flags := by simp [setCounters]
@[simp] theorem setCounters_stat_faultLog (g : Counters → Counters) (s : State) : (setCounters g s).stat.faultLog = s.stat.faultLog := by simp [setCounters]
@[simp] theorem setCounters_stat_moreFaults (g : Counters → Counters) (s : State) : (setCounters g s).stat.moreFaults = s.stat.moreFaults := by simp [setCounters]
@[simp] theorem setCounters_stat_faultCount (g : Counters → Counters) (s : State) : (setCounters g s).stat.faultCount = s.stat.faultCount := by simp [setCounters]
@[simp] theorem setCounters_stat_counters (g : Counters → Counters) (s : State) : (setCounters g s).stat.counters = g s.stat.counters := by simp [setCounters]
@[simp] theorem setCounters_stat_lastOpcode (g : Counters → Counters) (s : State) : (setCounters g s).stat.lastOpcode = s.stat.lastOpcode := by simp [setCounters]
@[simp] theorem setCounters_stat_result (g : Counters → Counters) (s : State) : (setCounters g s).stat.result = s.stat.result := by simp [setCounters]
@[simp] theorem setCounters_stat_cmdCount (g : Counters → Counters) (s : State) : (setCounters g s).stat.cmdCount = s.stat.cmdCount := by simp [setCounters]
@[simp] theorem setCounters_stat_awaited (g : Counters → Counters) (s : State) : (setCounters g s).stat.awaited = s.stat.awaited := by simp [setCounters]
@[simp] theorem setCounters_stat_freshPass (g : Counters → Counters) (s : State) : (setCounters g s).stat.freshPass = s.stat.freshPass := by simp [setCounters]
@[simp] theorem setCounters_stat_snapshot (g : Counters → Counters) (s : State) : (setCounters g s).stat.snapshot = s.stat.snapshot := by simp [setCounters]

/-! ### takeOpcode -/

@[simp] theorem takeOpcode_stat_flags (o : Byte) (s : State) : (takeOpcode o s).stat.flags = s.stat.flags := by simp [takeOpcode]
@[simp] theorem takeOpcode_stat_faultLog (o : Byte) (s : State) : (takeOpcode o s).stat.faultLog = s.stat.faultLog := by simp [takeOpcode]
@[simp] theorem takeOpcode_stat_moreFaults (o : Byte) (s : State) : (takeOpcode o s).stat.moreFaults = s.stat.moreFaults := by simp [takeOpcode]
@[simp] theorem takeOpcode_stat_faultCount (o : Byte) (s : State) : (takeOpcode o s).stat.faultCount = s.stat.faultCount := by simp [takeOpcode]
@[simp] theorem takeOpcode_stat_counters (o : Byte) (s : State) : (takeOpcode o s).stat.counters = s.stat.counters := by simp [takeOpcode]
@[simp] theorem takeOpcode_stat_lastOpcode (o : Byte) (s : State) : (takeOpcode o s).stat.lastOpcode = o := by simp [takeOpcode]
@[simp] theorem takeOpcode_stat_result (o : Byte) (s : State) : (takeOpcode o s).stat.result = .pending := by simp [takeOpcode]
@[simp] theorem takeOpcode_stat_cmdCount (o : Byte) (s : State) : (takeOpcode o s).stat.cmdCount = s.stat.cmdCount + 1 := by simp [takeOpcode]
@[simp] theorem takeOpcode_stat_awaited (o : Byte) (s : State) : (takeOpcode o s).stat.awaited = .command := by simp [takeOpcode]
@[simp] theorem takeOpcode_stat_freshPass (o : Byte) (s : State) : (takeOpcode o s).stat.freshPass = s.stat.freshPass := by simp [takeOpcode]
@[simp] theorem takeOpcode_stat_snapshot (o : Byte) (s : State) : (takeOpcode o s).stat.snapshot = s.stat.snapshot := by simp [takeOpcode]

/-! ### finish -/

@[simp] theorem finish_stat_flags (w : Awaited) (r : CmdResult) (s : State) : (finish w r s).stat.flags = s.stat.flags := by unfold finish; split <;> simp
@[simp] theorem finish_stat_faultLog (w : Awaited) (r : CmdResult) (s : State) : (finish w r s).stat.faultLog = s.stat.faultLog := by unfold finish; split <;> simp
@[simp] theorem finish_stat_moreFaults (w : Awaited) (r : CmdResult) (s : State) : (finish w r s).stat.moreFaults = s.stat.moreFaults := by unfold finish; split <;> simp
@[simp] theorem finish_stat_faultCount (w : Awaited) (r : CmdResult) (s : State) : (finish w r s).stat.faultCount = s.stat.faultCount := by unfold finish; split <;> simp
@[simp] theorem finish_stat_counters (w : Awaited) (r : CmdResult) (s : State) : (finish w r s).stat.counters = s.stat.counters := by unfold finish; split <;> simp
@[simp] theorem finish_stat_lastOpcode (w : Awaited) (r : CmdResult) (s : State) : (finish w r s).stat.lastOpcode = s.stat.lastOpcode := by unfold finish; split <;> simp
theorem finish_stat_result (w : Awaited) (r : CmdResult) (s : State) :
    (finish w r s).stat.result = if s.stat.awaited = w then r else s.stat.result := by unfold finish; split <;> simp
@[simp] theorem finish_stat_cmdCount (w : Awaited) (r : CmdResult) (s : State) : (finish w r s).stat.cmdCount = s.stat.cmdCount := by unfold finish; split <;> simp
theorem finish_stat_awaited (w : Awaited) (r : CmdResult) (s : State) :
    (finish w r s).stat.awaited = if s.stat.awaited = w then .none else s.stat.awaited := by unfold finish; split <;> simp
@[simp] theorem finish_stat_freshPass (w : Awaited) (r : CmdResult) (s : State) : (finish w r s).stat.freshPass = s.stat.freshPass := by unfold finish; split <;> simp
@[simp] theorem finish_stat_snapshot (w : Awaited) (r : CmdResult) (s : State) : (finish w r s).stat.snapshot = s.stat.snapshot := by unfold finish; split <;> simp

/-! ### leavePending -/

@[simp] theorem leavePending_stat_flags (w : Awaited) (s : State) : (leavePending w s).stat.flags = s.stat.flags := by unfold leavePending; split <;> simp
@[simp] theorem leavePending_stat_faultLog (w : Awaited) (s : State) : (leavePending w s).stat.faultLog = s.stat.faultLog := by unfold leavePending; split <;> simp
@[simp] theorem leavePending_stat_moreFaults (w : Awaited) (s : State) : (leavePending w s).stat.moreFaults = s.stat.moreFaults := by unfold leavePending; split <;> simp
@[simp] theorem leavePending_stat_faultCount (w : Awaited) (s : State) : (leavePending w s).stat.faultCount = s.stat.faultCount := by unfold leavePending; split <;> simp
@[simp] theorem leavePending_stat_counters (w : Awaited) (s : State) : (leavePending w s).stat.counters = s.stat.counters := by unfold leavePending; split <;> simp
@[simp] theorem leavePending_stat_lastOpcode (w : Awaited) (s : State) : (leavePending w s).stat.lastOpcode = s.stat.lastOpcode := by unfold leavePending; split <;> simp
@[simp] theorem leavePending_stat_result (w : Awaited) (s : State) : (leavePending w s).stat.result = s.stat.result := by unfold leavePending; split <;> simp
@[simp] theorem leavePending_stat_cmdCount (w : Awaited) (s : State) : (leavePending w s).stat.cmdCount = s.stat.cmdCount := by unfold leavePending; split <;> simp
theorem leavePending_stat_awaited (w : Awaited) (s : State) :
    (leavePending w s).stat.awaited = if s.stat.awaited = .command then w else s.stat.awaited := by
  unfold leavePending; split <;> simp
@[simp] theorem leavePending_stat_stale (w : Awaited) (s : State) : (leavePending w s).stat.stale = s.stat.stale := by unfold leavePending; split <;> simp
@[simp] theorem leavePending_stat_freshPass (w : Awaited) (s : State) : (leavePending w s).stat.freshPass = s.stat.freshPass := by unfold leavePending; split <;> simp
@[simp] theorem leavePending_stat_changed (w : Awaited) (s : State) : (leavePending w s).stat.changed = s.stat.changed := by unfold leavePending; split <;> simp
@[simp] theorem leavePending_stat_snapshot (w : Awaited) (s : State) : (leavePending w s).stat.snapshot = s.stat.snapshot := by unfold leavePending; split <;> simp

/-! ### beginSnapshot -/

@[simp] theorem beginSnapshot_stat_flags (s : State) : (beginSnapshot s).stat.flags = s.stat.flags := by simp [beginSnapshot]
@[simp] theorem beginSnapshot_stat_faultLog (s : State) : (beginSnapshot s).stat.faultLog = s.stat.faultLog := by simp [beginSnapshot]
@[simp] theorem beginSnapshot_stat_moreFaults (s : State) : (beginSnapshot s).stat.moreFaults = s.stat.moreFaults := by simp [beginSnapshot]
@[simp] theorem beginSnapshot_stat_faultCount (s : State) : (beginSnapshot s).stat.faultCount = s.stat.faultCount := by simp [beginSnapshot]
@[simp] theorem beginSnapshot_stat_counters (s : State) : (beginSnapshot s).stat.counters = s.stat.counters := by simp [beginSnapshot]
@[simp] theorem beginSnapshot_stat_lastOpcode (s : State) : (beginSnapshot s).stat.lastOpcode = s.stat.lastOpcode := by simp [beginSnapshot]
@[simp] theorem beginSnapshot_stat_result (s : State) : (beginSnapshot s).stat.result = s.stat.result := by simp [beginSnapshot]
@[simp] theorem beginSnapshot_stat_cmdCount (s : State) : (beginSnapshot s).stat.cmdCount = s.stat.cmdCount := by simp [beginSnapshot]
@[simp] theorem beginSnapshot_stat_awaited (s : State) : (beginSnapshot s).stat.awaited = s.stat.awaited := by simp [beginSnapshot]
@[simp] theorem beginSnapshot_stat_stale (s : State) : (beginSnapshot s).stat.stale = s.stat.stale := by simp [beginSnapshot]
@[simp] theorem beginSnapshot_stat_freshPass (s : State) : (beginSnapshot s).stat.freshPass = s.stat.freshPass := by simp [beginSnapshot]
@[simp] theorem beginSnapshot_stat_changed (s : State) : (beginSnapshot s).stat.changed = false := by simp [beginSnapshot]
@[simp] theorem beginSnapshot_stat_snapshot (s : State) : (beginSnapshot s).stat.snapshot = some { image := statusView s, next := 0 } := by simp [beginSnapshot]

end Sys2Proof.Machine
end

