-- ==== Sys2Proof/Laws/Requests.lean ====
section
/-! SUPPORT. What the judging of a request comes to: one-word requests, and the P writes that carry commands. -/

namespace Sys2Proof.Machine

/-- A request of length 1 names its start address alone, in either order of an aligned start. -/
theorem namedAddrs_one {r : ReadReq} (h : r.more = 0) (ha : badStart r.start = false) : namedAddrs r = [r.start] := by
  have hlen : r.len = 1 := by simp [ReadReq.len, h]
  have h4 : r.start.toNat % 4 = 0 := by simpa [badStart] using ha
  have hw : wordAddr r 0 = r.start := by
    unfold wordAddr
    cases r.order
    · simp
    · have : r.start.toNat / 32 * 32 + r.start.toNat % 32 = r.start.toNat := by omega
      simp [this]
  simp [namedAddrs, hlen, hw]

/-- A write of length 1 names one word, with its mask. -/
theorem namedWords_one {w : WriteReq} (h : w.more = 0) (ha : badStart w.start = false) :
    namedWords w = [{ addr := w.start, data := w.data.get 0, mask := w.mask }] := by
  have hn := namedAddrs_one (r := w.toReadReq) h ha
  have hlen : w.toReadReq.len = 1 := by simp [ReadReq.len, h]
  simp only [namedAddrs, hlen] at hn
  have hw : wordAddr w.toReadReq 0 = w.start := by simpa using hn
  have hd : w.data.cells.getD 0 0 = w.data.get 0 := by
    simp [Tbl.get, List.getD_eq_getElem?_getD, List.getElem?_eq_getElem (l := w.data.cells) (i := 0) (by simp [w.data.size])]
  simp [namedWords, hlen, hw, h]
  simpa using hd

/-! ### Command writes -/

/-- The words of the command slot lie where their offsets say. -/
theorem controlAddr_command (c : Control) :
    areaOf c (controlAddr c 0x080) = .command ∧ areaOf c (controlAddr c 0x084) = .command ∧
    badStart (controlAddr c 0x080) = false ∧ controlAddr c 0x080 + 4 = controlAddr c 0x084 ∧
    controlAddr c 0x080 ≠ controlAddr c 0x084 := by
  have h : ∀ d : BitVec 2,
      (BitVec.ofNat 24 (controlBase d + 0x080)).toNat = controlBase d + 0x080 ∧
      (BitVec.ofNat 24 (controlBase d + 0x084)).toNat = controlBase d + 0x084 ∧ controlBase d % 4 = 0 ∧
      BitVec.ofNat 24 (controlBase d + 0x080) + 4 = BitVec.ofNat 24 (controlBase d + 0x084) ∧
      BitVec.ofNat 24 (controlBase d + 0x080) ≠ BitVec.ofNat 24 (controlBase d + 0x084) := by decide
  obtain ⟨h1, h2, h3, h4, h5⟩ := h c.dsel
  refine ⟨?_, ?_, ?_, h4, h5⟩
  · simp [areaOf, controlAddr, h1, within, controlPart, Config.controlSize]
  · simp [areaOf, controlAddr, h2, within, controlPart, Config.controlSize]
  · simp only [badStart, controlAddr, h1]; simp; omega

/-- The words a command write names. -/
theorem namedAddrs_command (c : Control) (opcode : Byte) (w : CmdWrite) :
    namedAddrs (commandRequest c opcode w).toReadReq =
      controlAddr c 0x080 :: (match w.arg with
        | none => []
        | some _ => [controlAddr c 0x084]) := by
  obtain ⟨-, -, -, h, -⟩ := controlAddr_command c
  cases ha : w.arg with
  | none =>
    simp [commandRequest, ha, namedAddrs, ReadReq.len, wordAddr, Config.commandOffset]
  | some a =>
    simp [commandRequest, ha, namedAddrs, ReadReq.len, wordAddr, Config.commandOffset, List.range_succ]
    simpa using h

theorem namedWords_command (c : Control) (opcode : Byte) (w : CmdWrite) :
    namedWords (commandRequest c opcode w) =
      { addr := controlAddr c 0x080, data := w.high ++ opcode, mask := 0xF } :: (match w.arg with
        | none => []
        | some a => [{ addr := controlAddr c 0x084, data := a, mask := 0xF }]) := by
  obtain ⟨-, -, -, h, -⟩ := controlAddr_command c
  cases ha : w.arg with
  | none =>
    simp [commandRequest, ha, namedWords, ReadReq.len, wordAddr, Config.commandOffset]
  | some a =>
    simp [commandRequest, ha, namedWords, ReadReq.len, wordAddr, Config.commandOffset, List.range_succ]
    simpa using h

/-- A command write that is accepted is posted, answered ACCEPT and taken, and the fetcher may choose (R22, R165). -/
theorem commandWrite_taken {s : State} (hw : s.ctrl.op.working = true) (hr : s.player.read = none)
    (hq : s.player.writes.length < 8) (opcode : Byte) (c : CmdWrite) :
    commandWrite opcode c s =
      chooseFetch (takeCommand (c.high ++ opcode) c.arg s.player.writes.length
        (answerP (.accept []) (s.setPlayer
          { s.player with writes := s.player.writes ++ [commandRequest s.ctrl opcode c] }))) := by
  obtain ⟨hc0, hc4, hal, -, hne⟩ := controlAddr_command s.ctrl
  have hbad : badForm (commandRequest s.ctrl opcode c) = false := by
    have : (commandRequest s.ctrl opcode c).start = controlAddr s.ctrl 0x080 := by
      cases h : c.arg <;> simp [commandRequest, h, Config.commandOffset]
    have h2 : (commandRequest s.ctrl opcode c).mask = 0xF := by cases h : c.arg <;> simp [commandRequest, h]
    simp [badForm, this, hal, h2]
  have hfr : firstRefused (refusesPWrite s.ctrl) (namedAddrs (commandRequest s.ctrl opcode c).toReadReq) = none := by
    rw [namedAddrs_command]
    cases c.arg <;> simp [firstRefused, refusesPWrite, hc0, hc4]
  have hsd : scanDefers s (namedWords (commandRequest s.ctrl opcode c)) = false := by
    have : partOf s.ctrl .scan (namedWords (commandRequest s.ctrl opcode c)) = [] := by
      rw [namedWords_command]
      cases c.arg <;> simp [partOf, hc0, hc4]
    simp [scanDefers, this, buttonChanges, sortByAddr, eventCount]
  have hacc : commandWrite opcode c s = acceptPWrite (commandRequest s.ctrl opcode c) s := by
    simp only [commandWrite, pWrite]
    simp [hw, hr, hbad, hfr, hsd, Config.pQueueMax, hq]
  rw [hacc]
  have hareas : areasInOrder s.ctrl ((namedWords (commandRequest s.ctrl opcode c)).map (·.addr)) = [.command] := by
    rw [namedWords_command]
    cases c.arg <;> simp [areasInOrder, hc0, hc4]
  have hpart : partOf s.ctrl .command (namedWords (commandRequest s.ctrl opcode c)) =
      namedWords (commandRequest s.ctrl opcode c) := by
    rw [namedWords_command]
    cases c.arg <;> simp [partOf, hc0, hc4]
  simp only [acceptPWrite, hareas, List.foldl_cons, List.foldl_nil, hpart, announce]
  rw [namedWords_command]
  congr 1
  have hctrl : (answerP (.accept []) (s.setPlayer
      { s.player with writes := s.player.writes ++ [commandRequest s.ctrl opcode c] })).ctrl = s.ctrl := by simp
  have hpl : (answerP (.accept []) (s.setPlayer
      { s.player with writes := s.player.writes ++ [commandRequest s.ctrl opcode c] })).player.writes.length - 1 =
        s.player.writes.length := by simp
  simp only [announceCommand, hctrl, hpl, Config.commandOffset]
  cases c.arg with
  | none => simp [hne]
  | some a => simp [hne]

/-- The opcode of a command write is the low byte of its word 0 (R165). -/
theorem byteAt_commandWord (h : BitVec 24) (opcode : Byte) : byteAt (h ++ opcode) 0 = opcode := by
  apply BitVec.eq_of_getLsbD_eq
  intro i hi
  simp [byteAt, bitsAt, hi]
  rw [BitVec.getLsbD_append]
  simp [hi]

end Sys2Proof.Machine
end

