-- ==== Sys2Proof/Laws/Tables.lean ====
section
/-! SUPPORT. What reading a table gives after each way of building one. -/

namespace Sys2Proof.Tbl

variable {n : Nat} {α β : Type}

/-- Two tables with the same things are the same table. -/
theorem ext_get {t u : Tbl n α} (h : ∀ i, t.get i = u.get i) : t = u := by
  obtain ⟨tc, ht⟩ := t
  obtain ⟨uc, hu⟩ := u
  have hc : tc = uc := by
    apply List.ext_getElem (ht.trans hu.symm)
    intro i h₁ h₂
    exact h ⟨i, ht ▸ h₁⟩
  subst hc
  rfl

@[simp] theorem get_set_same (t : Tbl n α) (i : Fin n) (x : α) : (t.set i x).get i = x := by
  simp [get, set]

theorem get_set_other (t : Tbl n α) {i j : Fin n} (x : α) (h : i ≠ j) : (t.set i x).get j = t.get j := by
  have : i.val ≠ j.val := fun e => h (Fin.ext e)
  simp [get, set, this]

/-- Reading after one replacement. -/
theorem get_set (t : Tbl n α) (i j : Fin n) (x : α) : (t.set i x).get j = if i = j then x else t.get j := by
  split
  · next h => subst h; simp
  · next h => exact get_set_other t x h

@[simp] theorem get_map (f : α → β) (t : Tbl n α) (i : Fin n) : (t.map f).get i = f (t.get i) := by
  simp [get, map]

@[simp] theorem get_fill (x : α) (i : Fin n) : (fill n x).get i = x := by
  simp [get, fill]

@[simp] theorem get_ofFn (f : Fin n → α) (i : Fin n) : (ofFn f).get i = f i := by
  simp [get, ofFn]

end Sys2Proof.Tbl
end

