-- ==== Sys2Proof/Laws/Transitions.lean ====
section
/-! SUPPORT. What the transitions among the operating states, the swaps and a hush do to the control unit, the status
unit and the blocks that follow them. -/

namespace Sys2Proof.Machine

/-! ### workOut and setOp -/

@[simp] theorem workOut_ctrl (s : State) :
    (workOut s).ctrl = { s.ctrl with sustain := sustainValue s.ctrl, hushEffective := hushValue s.ctrl } := by
  simp [workOut]

@[simp] theorem setOp_ctrl (o : OpState) (s : State) : (setOp o s).ctrl = { s.ctrl with op := o } := by simp [setOp]

@[simp] theorem workOut_stat_flags (s : State) : (workOut s).stat.flags = s.stat.flags := by simp [workOut]
@[simp] theorem workOut_stat_faultLog (s : State) : (workOut s).stat.faultLog = s.stat.faultLog := by simp [workOut]
@[simp] theorem workOut_stat_moreFaults (s : State) : (workOut s).stat.moreFaults = s.stat.moreFaults := by simp [workOut]
@[simp] theorem workOut_stat_faultCount (s : State) : (workOut s).stat.faultCount = s.stat.faultCount := by simp [workOut]
@[simp] theorem workOut_stat_counters (s : State) : (workOut s).stat.counters = s.stat.counters := by simp [workOut]
@[simp] theorem workOut_stat_lastOpcode (s : State) : (workOut s).stat.lastOpcode = s.stat.lastOpcode := by simp [workOut]
@[simp] theorem workOut_stat_result (s : State) : (workOut s).stat.result = s.stat.result := by simp [workOut]
@[simp] theorem workOut_stat_cmdCount (s : State) : (workOut s).stat.cmdCount = s.stat.cmdCount := by simp [workOut]
@[simp] theorem workOut_stat_awaited (s : State) : (workOut s).stat.awaited = s.stat.awaited := by simp [workOut]
@[simp] theorem workOut_stat_freshPass (s : State) : (workOut s).stat.freshPass = s.stat.freshPass := by simp [workOut]
@[simp] theorem workOut_stat_snapshot (s : State) : (workOut s).stat.snapshot = s.stat.snapshot := by simp [workOut]
@[simp] theorem setOp_stat_flags (o : OpState) (s : State) : (setOp o s).stat.flags = s.stat.flags := by simp [setOp]
@[simp] theorem setOp_stat_faultLog (o : OpState) (s : State) : (setOp o s).stat.faultLog = s.stat.faultLog := by simp [setOp]
@[simp] theorem setOp_stat_moreFaults (o : OpState) (s : State) : (setOp o s).stat.moreFaults = s.stat.moreFaults := by simp [setOp]
@[simp] theorem setOp_stat_faultCount (o : OpState) (s : State) : (setOp o s).stat.faultCount = s.stat.faultCount := by simp [setOp]
@[simp] theorem setOp_stat_counters (o : OpState) (s : State) : (setOp o s).stat.counters = s.stat.counters := by simp [setOp]
@[simp] theorem setOp_stat_lastOpcode (o : OpState) (s : State) : (setOp o s).stat.lastOpcode = s.stat.lastOpcode := by simp [setOp]
@[simp] theorem setOp_stat_result (o : OpState) (s : State) : (setOp o s).stat.result = s.stat.result := by simp [setOp]
@[simp] theorem setOp_stat_cmdCount (o : OpState) (s : State) : (setOp o s).stat.cmdCount = s.stat.cmdCount := by simp [setOp]
@[simp] theorem setOp_stat_awaited (o : OpState) (s : State) : (setOp o s).stat.awaited = s.stat.awaited := by simp [setOp]
@[simp] theorem setOp_stat_freshPass (o : OpState) (s : State) : (setOp o s).stat.freshPass = s.stat.freshPass := by simp [setOp]
@[simp] theorem setOp_stat_snapshot (o : OpState) (s : State) : (setOp o s).stat.snapshot = s.stat.snapshot := by simp [setOp]

/-- What a change of an input of sustain does: both values are worked out afresh (R157, R158). -/
@[simp] theorem workOutSustain_ctrl (s : State) : (workOutSustain s).ctrl = (workOut s).ctrl := by
  unfold workOutSustain; simp only []; split <;> rfl

/-- The sustain-off walk starts at a change from on to off in PERFORMING (R143), and nothing else of the engine
changes. -/
theorem workOutSustain_eng (s : State) :
    (workOutSustain s).eng = { s.eng with sustainWalk := s.eng.sustainWalk ||
      (s.ctrl.sustain && !sustainValue s.ctrl && decide (s.ctrl.op = .performing)) } := by
  unfold workOutSustain
  simp only [workOut_ctrl, workOut_eng]
  split
  · next h => simp [h]
  · next h => simp [Bool.eq_false_iff.mpr h]

@[simp] theorem workOutSustain_stat_flags (s : State) : (workOutSustain s).stat.flags = s.stat.flags := by unfold workOutSustain; simp only []; split <;> simp
@[simp] theorem workOutSustain_stat_faultLog (s : State) : (workOutSustain s).stat.faultLog = s.stat.faultLog := by unfold workOutSustain; simp only []; split <;> simp
@[simp] theorem workOutSustain_stat_moreFaults (s : State) : (workOutSustain s).stat.moreFaults = s.stat.moreFaults := by unfold workOutSustain; simp only []; split <;> simp
@[simp] theorem workOutSustain_stat_faultCount (s : State) : (workOutSustain s).stat.faultCount = s.stat.faultCount := by unfold workOutSustain; simp only []; split <;> simp
@[simp] theorem workOutSustain_stat_counters (s : State) : (workOutSustain s).stat.counters = s.stat.counters := by unfold workOutSustain; simp only []; split <;> simp
@[simp] theorem workOutSustain_stat_lastOpcode (s : State) : (workOutSustain s).stat.lastOpcode = s.stat.lastOpcode := by unfold workOutSustain; simp only []; split <;> simp
@[simp] theorem workOutSustain_stat_result (s : State) : (workOutSustain s).stat.result = s.stat.result := by unfold workOutSustain; simp only []; split <;> simp
@[simp] theorem workOutSustain_stat_cmdCount (s : State) : (workOutSustain s).stat.cmdCount = s.stat.cmdCount := by unfold workOutSustain; simp only []; split <;> simp
@[simp] theorem workOutSustain_stat_awaited (s : State) : (workOutSustain s).stat.awaited = s.stat.awaited := by unfold workOutSustain; simp only []; split <;> simp
@[simp] theorem workOutSustain_stat_freshPass (s : State) : (workOutSustain s).stat.freshPass = s.stat.freshPass := by unfold workOutSustain; simp only []; split <;> simp
@[simp] theorem workOutSustain_stat_snapshot (s : State) : (workOutSustain s).stat.snapshot = s.stat.snapshot := by unfold workOutSustain; simp only []; split <;> simp

/-! ### Entry to PERFORMING -/

@[simp] theorem enterPerforming_scan (s : State) : (enterPerforming s).scan = s.scan.enterPerforming := by
  simp [enterPerforming]

@[simp] theorem enterPerforming_bellows (s : State) : (enterPerforming s).bellows = s.bellows.enterPerforming := by
  simp [enterPerforming]

theorem enterPerforming_ctrl (s : State) :
    (enterPerforming s).ctrl = { s.ctrl with
      op := .performing
      sustain := sustainValue { s.ctrl with op := .performing }
      hushEffective := hushValue { s.ctrl with op := .performing } } := by
  simp [enterPerforming]

@[simp] theorem enterPerforming_stat_flags (s : State) : (enterPerforming s).stat.flags = s.stat.flags := by simp [enterPerforming]
@[simp] theorem enterPerforming_stat_faultLog (s : State) : (enterPerforming s).stat.faultLog = s.stat.faultLog := by simp [enterPerforming]
@[simp] theorem enterPerforming_stat_moreFaults (s : State) : (enterPerforming s).stat.moreFaults = s.stat.moreFaults := by simp [enterPerforming]
@[simp] theorem enterPerforming_stat_faultCount (s : State) : (enterPerforming s).stat.faultCount = s.stat.faultCount := by simp [enterPerforming]
@[simp] theorem enterPerforming_stat_counters (s : State) : (enterPerforming s).stat.counters = s.stat.counters := by simp [enterPerforming]
@[simp] theorem enterPerforming_stat_lastOpcode (s : State) : (enterPerforming s).stat.lastOpcode = s.stat.lastOpcode := by simp [enterPerforming]
@[simp] theorem enterPerforming_stat_result (s : State) : (enterPerforming s).stat.result = s.stat.result := by simp [enterPerforming]
@[simp] theorem enterPerforming_stat_cmdCount (s : State) : (enterPerforming s).stat.cmdCount = s.stat.cmdCount := by simp [enterPerforming]
@[simp] theorem enterPerforming_stat_awaited (s : State) : (enterPerforming s).stat.awaited = s.stat.awaited := by simp [enterPerforming]
@[simp] theorem enterPerforming_stat_freshPass (s : State) : (enterPerforming s).stat.freshPass = s.stat.freshPass := by simp [enterPerforming]
@[simp] theorem enterPerforming_stat_snapshot (s : State) : (enterPerforming s).stat.snapshot = s.stat.snapshot := by simp [enterPerforming]

/-! ### Swaps -/

@[simp] theorem completeSwap_ctrl (s : State) : (completeSwap s).ctrl = { s.ctrl with swap := none } := by
  simp [completeSwap]

@[simp] theorem completeSwap_stat_flags (s : State) : (completeSwap s).stat.flags = s.stat.flags ||| 2 := by
  simp [completeSwap, flagSwapDone]

theorem completeSwap_stat_result (s : State) :
    (completeSwap s).stat.result = if s.stat.awaited = .swap then .done else s.stat.result := by
  simp [completeSwap, finish_stat_result]

@[simp] theorem completeSwap_stat_faultLog (s : State) : (completeSwap s).stat.faultLog = s.stat.faultLog := by simp [completeSwap]
@[simp] theorem completeSwap_stat_moreFaults (s : State) : (completeSwap s).stat.moreFaults = s.stat.moreFaults := by simp [completeSwap]
@[simp] theorem completeSwap_stat_faultCount (s : State) : (completeSwap s).stat.faultCount = s.stat.faultCount := by simp [completeSwap]
@[simp] theorem completeSwap_stat_counters (s : State) : (completeSwap s).stat.counters = s.stat.counters := by simp [completeSwap]
@[simp] theorem completeSwap_stat_lastOpcode (s : State) : (completeSwap s).stat.lastOpcode = s.stat.lastOpcode := by simp [completeSwap]
@[simp] theorem completeSwap_stat_cmdCount (s : State) : (completeSwap s).stat.cmdCount = s.stat.cmdCount := by simp [completeSwap]
@[simp] theorem completeSwap_stat_freshPass (s : State) : (completeSwap s).stat.freshPass = s.stat.freshPass := by simp [completeSwap]
@[simp] theorem completeSwap_stat_snapshot (s : State) : (completeSwap s).stat.snapshot = s.stat.snapshot := by simp [completeSwap]
@[simp] theorem takeSwap_stat_faultLog (w : Swap) (s : State) : (takeSwap w s).stat.faultLog = s.stat.faultLog := by unfold takeSwap; simp only []; split <;> simp
@[simp] theorem takeSwap_stat_moreFaults (w : Swap) (s : State) : (takeSwap w s).stat.moreFaults = s.stat.moreFaults := by unfold takeSwap; simp only []; split <;> simp
@[simp] theorem takeSwap_stat_faultCount (w : Swap) (s : State) : (takeSwap w s).stat.faultCount = s.stat.faultCount := by unfold takeSwap; simp only []; split <;> simp
@[simp] theorem takeSwap_stat_counters (w : Swap) (s : State) : (takeSwap w s).stat.counters = s.stat.counters := by unfold takeSwap; simp only []; split <;> simp
@[simp] theorem takeSwap_stat_lastOpcode (w : Swap) (s : State) : (takeSwap w s).stat.lastOpcode = s.stat.lastOpcode := by unfold takeSwap; simp only []; split <;> simp
@[simp] theorem takeSwap_stat_cmdCount (w : Swap) (s : State) : (takeSwap w s).stat.cmdCount = s.stat.cmdCount := by unfold takeSwap; simp only []; split <;> simp
@[simp] theorem takeSwap_stat_freshPass (w : Swap) (s : State) : (takeSwap w s).stat.freshPass = s.stat.freshPass := by unfold takeSwap; simp only []; split <;> simp
@[simp] theorem takeSwap_stat_snapshot (w : Swap) (s : State) : (takeSwap w s).stat.snapshot = s.stat.snapshot := by unfold takeSwap; simp only []; split <;> simp
@[simp] theorem takeSwap_ctrl_op (w : Swap) (s : State) : (takeSwap w s).ctrl.op = s.ctrl.op := by unfold takeSwap; simp only []; split <;> simp
@[simp] theorem takeSwap_ctrl_phase (w : Swap) (s : State) : (takeSwap w s).ctrl.phase = s.ctrl.phase := by unfold takeSwap; simp only []; split <;> simp
@[simp] theorem takeSwap_ctrl_dsel (w : Swap) (s : State) : (takeSwap w s).ctrl.dsel = s.ctrl.dsel := by unfold takeSwap; simp only []; split <;> simp
@[simp] theorem takeSwap_ctrl_boot (w : Swap) (s : State) : (takeSwap w s).ctrl.boot = s.ctrl.boot := by unfold takeSwap; simp only []; split <;> simp
@[simp] theorem takeSwap_ctrl_desc (w : Swap) (s : State) : (takeSwap w s).ctrl.desc = s.ctrl.desc := by unfold takeSwap; simp only []; split <;> simp
@[simp] theorem takeSwap_ctrl_valid (w : Swap) (s : State) : (takeSwap w s).ctrl.valid = s.ctrl.valid := by unfold takeSwap; simp only []; split <;> simp
@[simp] theorem takeSwap_ctrl_command (w : Swap) (s : State) : (takeSwap w s).ctrl.command = s.ctrl.command := by unfold takeSwap; simp only []; split <;> simp
@[simp] theorem takeSwap_ctrl_argRead (w : Swap) (s : State) : (takeSwap w s).ctrl.argRead = s.ctrl.argRead := by unfold takeSwap; simp only []; split <;> simp
@[simp] theorem takeSwap_ctrl_argAhead (w : Swap) (s : State) : (takeSwap w s).ctrl.argAhead = s.ctrl.argAhead := by unfold takeSwap; simp only []; split <;> simp
@[simp] theorem takeSwap_ctrl_settleFrames (w : Swap) (s : State) : (takeSwap w s).ctrl.settleFrames = s.ctrl.settleFrames := by unfold takeSwap; simp only []; split <;> simp
@[simp] theorem takeSwap_ctrl_settleTimer (w : Swap) (s : State) : (takeSwap w s).ctrl.settleTimer = s.ctrl.settleTimer := by unfold takeSwap; simp only []; split <;> simp
@[simp] theorem takeSwap_ctrl_settleCut (w : Swap) (s : State) : (takeSwap w s).ctrl.settleCut = s.ctrl.settleCut := by unfold takeSwap; simp only []; split <;> simp
@[simp] theorem takeSwap_ctrl_sustainFlag (w : Swap) (s : State) : (takeSwap w s).ctrl.sustainFlag = s.ctrl.sustainFlag := by unfold takeSwap; simp only []; split <;> simp
@[simp] theorem takeSwap_ctrl_sustReading (w : Swap) (s : State) : (takeSwap w s).ctrl.sustReading = s.ctrl.sustReading := by unfold takeSwap; simp only []; split <;> simp
@[simp] theorem takeSwap_ctrl_hushReading (w : Swap) (s : State) : (takeSwap w s).ctrl.hushReading = s.ctrl.hushReading := by unfold takeSwap; simp only []; split <;> simp
@[simp] theorem takeSwap_ctrl_sustain (w : Swap) (s : State) : (takeSwap w s).ctrl.sustain = s.ctrl.sustain := by unfold takeSwap; simp only []; split <;> simp
@[simp] theorem takeSwap_ctrl_hushEffective (w : Swap) (s : State) : (takeSwap w s).ctrl.hushEffective = s.ctrl.hushEffective := by unfold takeSwap; simp only []; split <;> simp
@[simp] theorem takeSwap_ctrl_guard (w : Swap) (s : State) : (takeSwap w s).ctrl.guard = s.ctrl.guard := by unfold takeSwap; simp only []; split <;> simp
@[simp] theorem takeSwap_ctrl_bank (w : Swap) (s : State) : (takeSwap w s).ctrl.bank = w.incoming := by
  unfold takeSwap; simp only []; split <;> simp

/-- With no swap pending a test does nothing. -/
theorem testSwap_none {s : State} (h : s.ctrl.swap = none) : testSwap s = s := by simp [testSwap, h]

@[simp] theorem testSwap_stat_faultLog (s : State) : (testSwap s).stat.faultLog = s.stat.faultLog := by unfold testSwap; split <;> [split <;> simp; rfl]
@[simp] theorem testSwap_stat_moreFaults (s : State) : (testSwap s).stat.moreFaults = s.stat.moreFaults := by unfold testSwap; split <;> [split <;> simp; rfl]
@[simp] theorem testSwap_stat_faultCount (s : State) : (testSwap s).stat.faultCount = s.stat.faultCount := by unfold testSwap; split <;> [split <;> simp; rfl]
@[simp] theorem testSwap_stat_counters (s : State) : (testSwap s).stat.counters = s.stat.counters := by unfold testSwap; split <;> [split <;> simp; rfl]
@[simp] theorem testSwap_stat_lastOpcode (s : State) : (testSwap s).stat.lastOpcode = s.stat.lastOpcode := by unfold testSwap; split <;> [split <;> simp; rfl]
@[simp] theorem testSwap_stat_cmdCount (s : State) : (testSwap s).stat.cmdCount = s.stat.cmdCount := by unfold testSwap; split <;> [split <;> simp; rfl]
@[simp] theorem testSwap_stat_freshPass (s : State) : (testSwap s).stat.freshPass = s.stat.freshPass := by unfold testSwap; split <;> [split <;> simp; rfl]
@[simp] theorem testSwap_stat_snapshot (s : State) : (testSwap s).stat.snapshot = s.stat.snapshot := by unfold testSwap; split <;> [split <;> simp; rfl]
@[simp] theorem testSwap_ctrl_op (s : State) : (testSwap s).ctrl.op = s.ctrl.op := by unfold testSwap; split <;> [split <;> simp; rfl]
@[simp] theorem testSwap_ctrl_phase (s : State) : (testSwap s).ctrl.phase = s.ctrl.phase := by unfold testSwap; split <;> [split <;> simp; rfl]
@[simp] theorem testSwap_ctrl_dsel (s : State) : (testSwap s).ctrl.dsel = s.ctrl.dsel := by unfold testSwap; split <;> [split <;> simp; rfl]
@[simp] theorem testSwap_ctrl_boot (s : State) : (testSwap s).ctrl.boot = s.ctrl.boot := by unfold testSwap; split <;> [split <;> simp; rfl]
@[simp] theorem testSwap_ctrl_desc (s : State) : (testSwap s).ctrl.desc = s.ctrl.desc := by unfold testSwap; split <;> [split <;> simp; rfl]
@[simp] theorem testSwap_ctrl_valid (s : State) : (testSwap s).ctrl.valid = s.ctrl.valid := by unfold testSwap; split <;> [split <;> simp; rfl]
@[simp] theorem testSwap_ctrl_command (s : State) : (testSwap s).ctrl.command = s.ctrl.command := by unfold testSwap; split <;> [split <;> simp; rfl]
@[simp] theorem testSwap_ctrl_argRead (s : State) : (testSwap s).ctrl.argRead = s.ctrl.argRead := by unfold testSwap; split <;> [split <;> simp; rfl]
@[simp] theorem testSwap_ctrl_argAhead (s : State) : (testSwap s).ctrl.argAhead = s.ctrl.argAhead := by unfold testSwap; split <;> [split <;> simp; rfl]
@[simp] theorem testSwap_ctrl_settleFrames (s : State) : (testSwap s).ctrl.settleFrames = s.ctrl.settleFrames := by unfold testSwap; split <;> [split <;> simp; rfl]
@[simp] theorem testSwap_ctrl_settleTimer (s : State) : (testSwap s).ctrl.settleTimer = s.ctrl.settleTimer := by unfold testSwap; split <;> [split <;> simp; rfl]
@[simp] theorem testSwap_ctrl_settleCut (s : State) : (testSwap s).ctrl.settleCut = s.ctrl.settleCut := by unfold testSwap; split <;> [split <;> simp; rfl]
@[simp] theorem testSwap_ctrl_sustainFlag (s : State) : (testSwap s).ctrl.sustainFlag = s.ctrl.sustainFlag := by unfold testSwap; split <;> [split <;> simp; rfl]
@[simp] theorem testSwap_ctrl_sustReading (s : State) : (testSwap s).ctrl.sustReading = s.ctrl.sustReading := by unfold testSwap; split <;> [split <;> simp; rfl]
@[simp] theorem testSwap_ctrl_hushReading (s : State) : (testSwap s).ctrl.hushReading = s.ctrl.hushReading := by unfold testSwap; split <;> [split <;> simp; rfl]
@[simp] theorem testSwap_ctrl_sustain (s : State) : (testSwap s).ctrl.sustain = s.ctrl.sustain := by unfold testSwap; split <;> [split <;> simp; rfl]
@[simp] theorem testSwap_ctrl_hushEffective (s : State) : (testSwap s).ctrl.hushEffective = s.ctrl.hushEffective := by unfold testSwap; split <;> [split <;> simp; rfl]
@[simp] theorem testSwap_ctrl_guard (s : State) : (testSwap s).ctrl.guard = s.ctrl.guard := by unfold testSwap; split <;> [split <;> simp; rfl]
@[simp] theorem endRestrike_stat_faultLog (s : State) : (endRestrike s).stat.faultLog = s.stat.faultLog := by unfold endRestrike; split <;> simp
@[simp] theorem endRestrike_stat_moreFaults (s : State) : (endRestrike s).stat.moreFaults = s.stat.moreFaults := by unfold endRestrike; split <;> simp
@[simp] theorem endRestrike_stat_faultCount (s : State) : (endRestrike s).stat.faultCount = s.stat.faultCount := by unfold endRestrike; split <;> simp
@[simp] theorem endRestrike_stat_counters (s : State) : (endRestrike s).stat.counters = s.stat.counters := by unfold endRestrike; split <;> simp
@[simp] theorem endRestrike_stat_lastOpcode (s : State) : (endRestrike s).stat.lastOpcode = s.stat.lastOpcode := by unfold endRestrike; split <;> simp
@[simp] theorem endRestrike_stat_cmdCount (s : State) : (endRestrike s).stat.cmdCount = s.stat.cmdCount := by unfold endRestrike; split <;> simp
@[simp] theorem endRestrike_stat_freshPass (s : State) : (endRestrike s).stat.freshPass = s.stat.freshPass := by unfold endRestrike; split <;> simp
@[simp] theorem endRestrike_stat_snapshot (s : State) : (endRestrike s).stat.snapshot = s.stat.snapshot := by unfold endRestrike; split <;> simp
@[simp] theorem endRestrike_ctrl_op (s : State) : (endRestrike s).ctrl.op = s.ctrl.op := by unfold endRestrike; split <;> simp
@[simp] theorem endRestrike_ctrl_phase (s : State) : (endRestrike s).ctrl.phase = s.ctrl.phase := by unfold endRestrike; split <;> simp
@[simp] theorem endRestrike_ctrl_dsel (s : State) : (endRestrike s).ctrl.dsel = s.ctrl.dsel := by unfold endRestrike; split <;> simp
@[simp] theorem endRestrike_ctrl_boot (s : State) : (endRestrike s).ctrl.boot = s.ctrl.boot := by unfold endRestrike; split <;> simp
@[simp] theorem endRestrike_ctrl_desc (s : State) : (endRestrike s).ctrl.desc = s.ctrl.desc := by unfold endRestrike; split <;> simp
@[simp] theorem endRestrike_ctrl_valid (s : State) : (endRestrike s).ctrl.valid = s.ctrl.valid := by unfold endRestrike; split <;> simp
@[simp] theorem endRestrike_ctrl_command (s : State) : (endRestrike s).ctrl.command = s.ctrl.command := by unfold endRestrike; split <;> simp
@[simp] theorem endRestrike_ctrl_argRead (s : State) : (endRestrike s).ctrl.argRead = s.ctrl.argRead := by unfold endRestrike; split <;> simp
@[simp] theorem endRestrike_ctrl_argAhead (s : State) : (endRestrike s).ctrl.argAhead = s.ctrl.argAhead := by unfold endRestrike; split <;> simp
@[simp] theorem endRestrike_ctrl_settleFrames (s : State) : (endRestrike s).ctrl.settleFrames = s.ctrl.settleFrames := by unfold endRestrike; split <;> simp
@[simp] theorem endRestrike_ctrl_settleTimer (s : State) : (endRestrike s).ctrl.settleTimer = s.ctrl.settleTimer := by unfold endRestrike; split <;> simp
@[simp] theorem endRestrike_ctrl_settleCut (s : State) : (endRestrike s).ctrl.settleCut = s.ctrl.settleCut := by unfold endRestrike; split <;> simp
@[simp] theorem endRestrike_ctrl_sustainFlag (s : State) : (endRestrike s).ctrl.sustainFlag = s.ctrl.sustainFlag := by unfold endRestrike; split <;> simp
@[simp] theorem endRestrike_ctrl_sustReading (s : State) : (endRestrike s).ctrl.sustReading = s.ctrl.sustReading := by unfold endRestrike; split <;> simp
@[simp] theorem endRestrike_ctrl_hushReading (s : State) : (endRestrike s).ctrl.hushReading = s.ctrl.hushReading := by unfold endRestrike; split <;> simp
@[simp] theorem endRestrike_ctrl_sustain (s : State) : (endRestrike s).ctrl.sustain = s.ctrl.sustain := by unfold endRestrike; split <;> simp
@[simp] theorem endRestrike_ctrl_hushEffective (s : State) : (endRestrike s).ctrl.hushEffective = s.ctrl.hushEffective := by unfold endRestrike; split <;> simp
@[simp] theorem endRestrike_ctrl_guard (s : State) : (endRestrike s).ctrl.guard = s.ctrl.guard := by unfold endRestrike; split <;> simp
@[simp] theorem endRestrike_ctrl_bank (s : State) : (endRestrike s).ctrl.bank = s.ctrl.bank := by unfold endRestrike; split <;> simp

/-! ### Entry to TRANSPARENT -/

@[simp] theorem enterTransparent_bellows (s : State) :
    (enterTransparent s).bellows = { s.bellows with levelNotice := none } := by
  simp [enterTransparent]

@[simp] theorem enterTransparent_ctrl_op (s : State) : (enterTransparent s).ctrl.op = .transparent := by
  simp [enterTransparent]

@[simp] theorem enterTransparent_ctrl_sustain (s : State) :
    (enterTransparent s).ctrl.sustain = sustainValue { s.ctrl with op := .transparent } := by
  simp [enterTransparent]

@[simp] theorem enterTransparent_ctrl_hushEffective (s : State) :
    (enterTransparent s).ctrl.hushEffective = hushValue { s.ctrl with op := .transparent } := by
  simp [enterTransparent]

@[simp] theorem enterTransparent_ctrl_phase (s : State) : (enterTransparent s).ctrl.phase = s.ctrl.phase := by simp [enterTransparent]
@[simp] theorem enterTransparent_ctrl_dsel (s : State) : (enterTransparent s).ctrl.dsel = s.ctrl.dsel := by simp [enterTransparent]
@[simp] theorem enterTransparent_ctrl_boot (s : State) : (enterTransparent s).ctrl.boot = s.ctrl.boot := by simp [enterTransparent]
@[simp] theorem enterTransparent_ctrl_desc (s : State) : (enterTransparent s).ctrl.desc = s.ctrl.desc := by simp [enterTransparent]
@[simp] theorem enterTransparent_ctrl_valid (s : State) : (enterTransparent s).ctrl.valid = s.ctrl.valid := by simp [enterTransparent]
@[simp] theorem enterTransparent_ctrl_command (s : State) : (enterTransparent s).ctrl.command = s.ctrl.command := by simp [enterTransparent]
@[simp] theorem enterTransparent_ctrl_argRead (s : State) : (enterTransparent s).ctrl.argRead = s.ctrl.argRead := by simp [enterTransparent]
@[simp] theorem enterTransparent_ctrl_argAhead (s : State) : (enterTransparent s).ctrl.argAhead = s.ctrl.argAhead := by simp [enterTransparent]
@[simp] theorem enterTransparent_ctrl_settleFrames (s : State) : (enterTransparent s).ctrl.settleFrames = s.ctrl.settleFrames := by simp [enterTransparent]
@[simp] theorem enterTransparent_ctrl_settleTimer (s : State) : (enterTransparent s).ctrl.settleTimer = s.ctrl.settleTimer := by simp [enterTransparent]
@[simp] theorem enterTransparent_ctrl_settleCut (s : State) : (enterTransparent s).ctrl.settleCut = s.ctrl.settleCut := by simp [enterTransparent]
@[simp] theorem enterTransparent_ctrl_sustainFlag (s : State) : (enterTransparent s).ctrl.sustainFlag = s.ctrl.sustainFlag := by simp [enterTransparent]
@[simp] theorem enterTransparent_ctrl_sustReading (s : State) : (enterTransparent s).ctrl.sustReading = s.ctrl.sustReading := by simp [enterTransparent]
@[simp] theorem enterTransparent_ctrl_hushReading (s : State) : (enterTransparent s).ctrl.hushReading = s.ctrl.hushReading := by simp [enterTransparent]
@[simp] theorem enterTransparent_ctrl_guard (s : State) : (enterTransparent s).ctrl.guard = s.ctrl.guard := by simp [enterTransparent]
@[simp] theorem enterTransparent_stat_faultLog (s : State) : (enterTransparent s).stat.faultLog = s.stat.faultLog := by simp [enterTransparent]
@[simp] theorem enterTransparent_stat_moreFaults (s : State) : (enterTransparent s).stat.moreFaults = s.stat.moreFaults := by simp [enterTransparent]
@[simp] theorem enterTransparent_stat_faultCount (s : State) : (enterTransparent s).stat.faultCount = s.stat.faultCount := by simp [enterTransparent]
@[simp] theorem enterTransparent_stat_counters (s : State) : (enterTransparent s).stat.counters = s.stat.counters := by simp [enterTransparent]
@[simp] theorem enterTransparent_stat_lastOpcode (s : State) : (enterTransparent s).stat.lastOpcode = s.stat.lastOpcode := by simp [enterTransparent]
@[simp] theorem enterTransparent_stat_cmdCount (s : State) : (enterTransparent s).stat.cmdCount = s.stat.cmdCount := by simp [enterTransparent]
@[simp] theorem enterTransparent_stat_freshPass (s : State) : (enterTransparent s).stat.freshPass = s.stat.freshPass := by simp [enterTransparent]
@[simp] theorem enterTransparent_stat_snapshot (s : State) : (enterTransparent s).stat.snapshot = s.stat.snapshot := by simp [enterTransparent]

end Sys2Proof.Machine
end

