-- ==== Sys2Proof/Laws/Commands.lean ====
section
/-! SUPPORT. What the taking of a command comes to. -/

namespace Sys2Proof.Machine

/-- A command of the player firmware is the write that carries it (assumption 3). -/
theorem exec_commandOf {i : Instr} {op : Byte} {c : CmdWrite} (h : commandOf i = some (op, c)) (s : State) :
    exec i s = .next (commandWrite op c s) := by
  cases i <;> simp [commandOf] at h <;> obtain ⟨rfl, rfl⟩ := h <;> rfl

/-- The state in which a command that has just been taken is judged. -/
def posted (op : Byte) (c : CmdWrite) (s : State) : State :=
  takeOpcode op (answerP (.accept []) (s.setPlayer
    { s.player with writes := s.player.writes ++ [commandRequest s.ctrl op c] }))

@[simp] theorem posted_ctrl (op : Byte) (c : CmdWrite) (s : State) : (posted op c s).ctrl = s.ctrl := by simp [posted]
@[simp] theorem posted_eng (op : Byte) (c : CmdWrite) (s : State) : (posted op c s).eng = s.eng := by simp [posted]
@[simp] theorem posted_map (op : Byte) (c : CmdWrite) (s : State) : (posted op c s).map = s.map := by simp [posted]
@[simp] theorem posted_scan (op : Byte) (c : CmdWrite) (s : State) : (posted op c s).scan = s.scan := by simp [posted]
@[simp] theorem posted_bellows (op : Byte) (c : CmdWrite) (s : State) : (posted op c s).bellows = s.bellows := by
  simp [posted]
@[simp] theorem posted_tone (op : Byte) (c : CmdWrite) (s : State) : (posted op c s).tone = s.tone := by simp [posted]
@[simp] theorem posted_voice (op : Byte) (c : CmdWrite) (s : State) : (posted op c s).voice = s.voice := by
  simp [posted]
@[simp] theorem posted_arb (op : Byte) (c : CmdWrite) (s : State) : (posted op c s).arb = s.arb := by simp [posted]
@[simp] theorem posted_pins (op : Byte) (c : CmdWrite) (s : State) : (posted op c s).pins = s.pins := by simp [posted]
@[simp] theorem posted_timebase (op : Byte) (c : CmdWrite) (s : State) : (posted op c s).timebase = s.timebase := by
  simp [posted]
@[simp] theorem posted_player (op : Byte) (c : CmdWrite) (s : State) :
    (posted op c s).player = { s.player with writes := s.player.writes ++ [commandRequest s.ctrl op c] } := by
  simp [posted]
@[simp] theorem posted_ports (op : Byte) (c : CmdWrite) (s : State) :
    (posted op c s).ports = { s.ports with pAnswer := some (.accept []) } := by
  simp [posted, answerP]
@[simp] theorem posted_stat_flags (op : Byte) (c : CmdWrite) (s : State) :
    (posted op c s).stat.flags = s.stat.flags := by simp [posted]
@[simp] theorem posted_stat_faultLog (op : Byte) (c : CmdWrite) (s : State) :
    (posted op c s).stat.faultLog = s.stat.faultLog := by simp [posted]
@[simp] theorem posted_stat_moreFaults (op : Byte) (c : CmdWrite) (s : State) :
    (posted op c s).stat.moreFaults = s.stat.moreFaults := by simp [posted]
@[simp] theorem posted_stat_faultCount (op : Byte) (c : CmdWrite) (s : State) :
    (posted op c s).stat.faultCount = s.stat.faultCount := by simp [posted]
@[simp] theorem posted_stat_counters (op : Byte) (c : CmdWrite) (s : State) :
    (posted op c s).stat.counters = s.stat.counters := by simp [posted]
@[simp] theorem posted_stat_lastOpcode (op : Byte) (c : CmdWrite) (s : State) :
    (posted op c s).stat.lastOpcode = op := by simp [posted]
@[simp] theorem posted_stat_result (op : Byte) (c : CmdWrite) (s : State) :
    (posted op c s).stat.result = .pending := by simp [posted]
@[simp] theorem posted_stat_cmdCount (op : Byte) (c : CmdWrite) (s : State) :
    (posted op c s).stat.cmdCount = s.stat.cmdCount + 1 := by simp [posted]
@[simp] theorem posted_stat_awaited (op : Byte) (c : CmdWrite) (s : State) :
    (posted op c s).stat.awaited = .command := by simp [posted]

/-- The taking of a command makes the status record stale (R166). -/
@[simp] theorem posted_stale (op : Byte) (c : CmdWrite) (s : State) : (posted op c s).stat.stale = true := by
  unfold posted takeOpcode
  apply report_stale_of_change
  intro h
  have := congrArg StatusView.cmdCount h
  simp [statusView] at this

/-- What becomes of an accepted command write, step by step of R167. -/
theorem commandWrite_posted {s : State} (h : CommandAccepted s) (op : Byte) (c : CmdWrite) :
    commandWrite op c s = chooseFetch
      (match opcodeOf op with
      | none => answer .bad (posted op c s)
      | some o =>
        if s.ctrl.command.isSome ∧ o ≠ .panic ∧ o ≠ .reinit then answer .busy (posted op c s)
        else if s.ctrl.valid = false ∧ o.anyDescriptor = false then answer .refused (posted op c s)
        else if o.hasArg then
          match c.arg with
          | some a => actWith o a (posted op c s)
          | none => requestArgument o s.player.writes.length (posted op c s)
        else actPlain o (posted op c s)) := by
  rw [commandWrite_taken h.1 h.2.1 h.2.2]
  have hc : (takeOpcode op (answerP (.accept []) (s.setPlayer
      { s.player with writes := s.player.writes ++ [commandRequest s.ctrl op c] }))).ctrl = s.ctrl := by simp
  simp only [takeCommand, byteAt_commandWord, hc]
  rfl

/-- A result given leaves the status record stale if it was. -/
theorem finish_stale {w : Awaited} {r : CmdResult} {s : State} (h : s.stat.stale = true) :
    (finish w r s).stat.stale = true := by
  unfold finish
  split
  · exact report_stale h
  · exact h

/-- Raising a flag leaves the status record stale if it was. -/
theorem raiseFlag_stale {f : BitVec 7} {s : State} (h : s.stat.stale = true) : (raiseFlag f s).stat.stale = true :=
  report_stale h

/-- The fetcher's choice changes the argument read alone in the control unit. -/
theorem controlKept_chooseFetch {s u : State} (h : u.ctrl = s.ctrl) : ControlKept s (chooseFetch u) := by
  unfold ControlKept
  rw [chooseFetch_ctrl, h]

/-- A result given at the taking changes nothing but the status fields of R166. -/
theorem answer_posted_turnedAway (op : Byte) (c : CmdWrite) (r : CmdResult) (s : State) :
    TurnedAway op c r s (chooseFetch (answer r (posted op c s))) := by
  refine ⟨⟨?_, ?_, ?_, ?_, ?_, ?_⟩, controlKept_chooseFetch (by simp [answer]), ?_, ?_, ?_, ?_, ?_, ?_⟩
  all_goals simp [answer, finish_stat_result, PortsKept, CachesKept, StatusKept]
  exact finish_stale (posted_stale _ _ _)

/-- The mode code of a STANDBY stands in the low two bits of its argument (12.3). -/
theorem fieldAt_mode (h : BitVec 30) (m : BitVec 2) : fieldAt (h ++ m) 0 2 = m.toNat := by
  unfold fieldAt
  congr 1
  apply BitVec.eq_of_getLsbD_eq
  intro i hi
  simp [bitsAt, hi]
  rw [BitVec.getLsbD_append]
  simp [hi]

end Sys2Proof.Machine
end

