-- ==== Sys2Proof/Laws/Stale.lean ====
section
/-! SUPPORT. A stale status record stays stale through everything that a command does to it (R179). -/

namespace Sys2Proof.Machine

theorem workOut_stale {s : State} (h : s.stat.stale = true) : (workOut s).stat.stale = true := report_stale h

theorem workOutSustain_stale {s : State} (h : s.stat.stale = true) : (workOutSustain s).stat.stale = true := by
  unfold workOutSustain
  simp only []
  split
  · exact workOut_stale h
  · exact workOut_stale h

theorem setOp_stale {o : OpState} {s : State} (h : s.stat.stale = true) : (setOp o s).stat.stale = true :=
  report_stale h

theorem completeSwap_stale {s : State} (h : s.stat.stale = true) : (completeSwap s).stat.stale = true :=
  finish_stale (raiseFlag_stale (report_stale h))

theorem takeSwap_stale {w : Swap} {s : State} (h : s.stat.stale = true) : (takeSwap w s).stat.stale = true := by
  unfold takeSwap
  simp only []
  split
  · exact report_stale h
  · exact completeSwap_stale (report_stale h)

theorem testSwap_stale {s : State} (h : s.stat.stale = true) : (testSwap s).stat.stale = true := by
  unfold testSwap
  split
  · split
    · exact takeSwap_stale h
    · exact h
  · exact h

theorem endRestrike_stale {s : State} (h : s.stat.stale = true) : (endRestrike s).stat.stale = true := by
  unfold endRestrike
  split
  · exact completeSwap_stale h
  · exact h

theorem endForHush_stale {s : State} (h : s.stat.stale = true) : (endForHush s).stat.stale = true := by simpa using h

theorem announceHush_stale {s : State} (h : s.stat.stale = true) : (announceHush s).stat.stale = true :=
  endForHush_stale (report_stale h)

theorem enterPerforming_stale {s : State} (h : s.stat.stale = true) : (enterPerforming s).stat.stale = true :=
  workOut_stale (setOp_stale h)

theorem enterTransparent_stale {s : State} (h : s.stat.stale = true) : (enterTransparent s).stat.stale = true :=
  testSwap_stale (workOut_stale (setOp_stale h))

theorem enterSettling_stale {s : State} (h : s.stat.stale = true) : (enterSettling s).stat.stale = true :=
  workOut_stale (endRestrike_stale (report_stale (setOp_stale h)))

theorem ackFlags_stale {m : BitVec 7} {s : State} (h : s.stat.stale = true) : (ackFlags m s).stat.stale = true := by
  unfold ackFlags
  apply report_stale
  simp only [State.setStat_stat]
  split <;> exact h

end Sys2Proof.Machine
end

