-- ==== Sys2Proof/Laws/Hush.lean ====
section
/-! SUPPORT. What the end of an item and the announcement of a hush do. -/

namespace Sys2Proof.Machine

/-! ### A held read that may begin to fill, and groups that close -/

@[simp] theorem tryFill_tone_frame (s : State) : (tryFill s).tone.frame = s.tone.frame := by
  unfold tryFill; split <;> [split <;> rfl; rfl; rfl; rfl]

@[simp] theorem tryFill_tone_service (s : State) : (tryFill s).tone.service = s.tone.service := by
  unfold tryFill; split <;> [split <;> rfl; rfl; rfl; rfl]

@[simp] theorem closeGroups_voice (s : State) :
    (closeGroups s).voice = { s.voice with groups := s.voice.groups.filter fun g => !g.closable } := by
  simp [closeGroups]

@[simp] theorem closeGroups_tone_frame (s : State) : (closeGroups s).tone.frame = s.tone.frame := by
  simp [closeGroups]

@[simp] theorem closeGroups_tone_service (s : State) : (closeGroups s).tone.service = s.tone.service := by
  simp [closeGroups]

/-- The end of filling: no group fills, and the closable ones have left the table (R117, R118). -/
@[simp] theorem endFilling_voice (s : State) :
    (endFilling s).voice = { s.voice with
      groups := (s.voice.groups.map fun g => { g with filling := false }).filter fun g => !g.closable } := by
  simp [endFilling]

@[simp] theorem endFilling_tone_frame (s : State) : (endFilling s).tone.frame = s.tone.frame := by
  simp [endFilling]

@[simp] theorem endFilling_tone_service (s : State) : (endFilling s).tone.service = s.tone.service := by
  simp [endFilling]

/-! ### The end of an item (R97) -/

@[simp] theorem leaveFetch_cache (w : Wait) (s : State) : (leaveFetch w s).map.cache = s.map.cache := by
  unfold leaveFetch; split <;> (try split) <;> rfl

@[simp] theorem leaveFetch_sects (w : Wait) (s : State) : (leaveFetch w s).map.sects = s.map.sects := by
  unfold leaveFetch; split <;> (try split) <;> rfl

@[simp] theorem leaveFetch_fetch (w : Wait) (s : State) : (leaveFetch w s).map.fetch = s.map.fetch := by
  unfold leaveFetch; split <;> (try split) <;> rfl

theorem leaveFetch_eng (w : Wait) (s : State) :
    (leaveFetch w s).eng = { s.eng with awaitDiscard := (leaveFetch w s).eng.awaitDiscard } := by
  unfold leaveFetch; split <;> (try split) <;> rfl

/-- An ended item leaves everything of the engine but the item and an answer awaited for discard. -/
theorem endItem_eng (s : State) :
    (endItem s).eng = { s.eng with item := none, awaitDiscard := (endItem s).eng.awaitDiscard } := by
  unfold endItem
  split
  · next it h =>
    rw [endFilling_eng, leaveFetch_eng]
    rfl
  · next h => simp [← h]

@[simp] theorem endItem_cache (s : State) : (endItem s).map.cache = s.map.cache := by
  unfold endItem; split <;> simp

@[simp] theorem endItem_sects (s : State) : (endItem s).map.sects = s.map.sects := by
  unfold endItem; split <;> simp

@[simp] theorem endItem_queue (s : State) : (endItem s).voice.queue = s.voice.queue := by
  unfold endItem; split <;> simp

@[simp] theorem endItem_nextTag (s : State) : (endItem s).voice.nextTag = s.voice.nextTag := by
  unfold endItem; split <;> simp

@[simp] theorem endItem_tone_frame (s : State) : (endItem s).tone.frame = s.tone.frame := by
  unfold endItem; split <;> simp

@[simp] theorem endItem_tone_service (s : State) : (endItem s).tone.service = s.tone.service := by
  unfold endItem; split <;> simp

/-- Without a current item nothing ends. -/
theorem endItem_none {s : State} (h : s.eng.item = none) : endItem s = s := by simp [endItem, h]

/-! ### A hush (R159) -/

theorem get_map_hushCond (t : Tbl 256 Cond) (p : Pos) :
    (t.map hushCond).get p = if t.get p = .up then .up else .hushed := by
  rw [Tbl.get_map]
  cases t.get p <;> rfl

/-- What the announcement of a hush does. -/
theorem announceHush_hushed (s : State) : Hushed s (announceHush s) := by
  unfold announceHush
  simp only []
  generalize hu : ((report s (s.setScan s.scan.hush)).setEng _).setBellows _ = u
  have hscan : u.scan = s.scan.hush := by rw [← hu]; simp
  have hbel : u.bellows = s.bellows.dropNotices := by rw [← hu]; simp
  have heng : u.eng = { s.eng with
      appliedDir := s.bellows.revNotice.getD s.eng.appliedDir
      appliedMag := s.bellows.levelNotice.getD s.eng.appliedMag
      hushPending := .source } := by rw [← hu]; simp
  have hvoice : u.voice = s.voice := by rw [← hu]; simp
  have htone : u.tone = s.tone := by rw [← hu]; simp
  have hpins : u.pins = s.pins := by rw [← hu]; simp
  have htime : u.timebase = s.timebase := by rw [← hu]; simp
  have harb : u.arb = s.arb := by rw [← hu]; simp
  have hh : itemIsHush u.eng = itemIsHush s.eng := by rw [heng]; rfl
  refine ⟨?_, ?_, ?_, ?_, ?_, ?_, ?_, ?_, ?_, ?_, ?_, ?_⟩
  · rw [endForHush_scan, hscan]; rfl
  · intro p; rw [endForHush_scan, hscan]; exact get_map_hushCond _ p
  · rw [endForHush_scan, hscan]; rfl
  · rw [endForHush_bellows, hbel]; rfl
  · unfold endForHush
    rw [hh]
    split
    · rw [heng]
    · rw [endItem_eng, heng]
  · unfold endForHush; split <;> simp [hvoice]
  · unfold endForHush; split <;> simp [hvoice]
  · unfold endForHush; split <;> simp [htone]
  · unfold endForHush; split <;> simp [htone]
  · rw [endForHush_pins, hpins]
  · rw [endForHush_timebase, htime]
  · rw [endForHush_arb, harb]

@[simp] theorem announceHush_cache (s : State) : (announceHush s).map.cache = s.map.cache := by
  simp only [announceHush, endForHush]; split <;> simp

@[simp] theorem announceHush_sects (s : State) : (announceHush s).map.sects = s.map.sects := by
  simp only [announceHush, endForHush]; split <;> simp

@[simp] theorem announceHush_stat_flags (s : State) : (announceHush s).stat.flags = s.stat.flags := by
  simp [announceHush]

@[simp] theorem announceHush_stat_faultLog (s : State) : (announceHush s).stat.faultLog = s.stat.faultLog := by
  simp [announceHush]

@[simp] theorem announceHush_stat_moreFaults (s : State) : (announceHush s).stat.moreFaults = s.stat.moreFaults := by
  simp [announceHush]

@[simp] theorem announceHush_stat_faultCount (s : State) : (announceHush s).stat.faultCount = s.stat.faultCount := by
  simp [announceHush]

@[simp] theorem announceHush_stat_counters (s : State) : (announceHush s).stat.counters = s.stat.counters := by
  simp [announceHush]

@[simp] theorem announceHush_stat_lastOpcode (s : State) : (announceHush s).stat.lastOpcode = s.stat.lastOpcode := by
  simp [announceHush]

@[simp] theorem announceHush_stat_result (s : State) : (announceHush s).stat.result = s.stat.result := by
  simp [announceHush]

@[simp] theorem announceHush_stat_cmdCount (s : State) : (announceHush s).stat.cmdCount = s.stat.cmdCount := by
  simp [announceHush]

@[simp] theorem announceHush_stat_awaited (s : State) : (announceHush s).stat.awaited = s.stat.awaited := by
  simp [announceHush]

end Sys2Proof.Machine
end

