-- ==== Sys2Proof/Laws/MemoryFrames.lean ====
section
/-! SUPPORT. What a grant and RAM's answers leave as it is. -/

namespace Sys2Proof.Machine

/-! ### grant -/

@[simp] theorem grant_pins (s : State) : (grant s).pins = s.pins := by (unfold grant; repeat' split) <;> simp
@[simp] theorem grant_ports (s : State) : (grant s).ports = s.ports := by (unfold grant; repeat' split) <;> simp
@[simp] theorem grant_timebase (s : State) : (grant s).timebase = s.timebase := by (unfold grant; repeat' split) <;> simp
@[simp] theorem grant_player (s : State) : (grant s).player = s.player := by (unfold grant; repeat' split) <;> simp
@[simp] theorem grant_scan (s : State) : (grant s).scan = s.scan := by (unfold grant; repeat' split) <;> simp
@[simp] theorem grant_bellows (s : State) : (grant s).bellows = s.bellows := by (unfold grant; repeat' split) <;> simp
@[simp] theorem grant_map (s : State) : (grant s).map = s.map := by (unfold grant; repeat' split) <;> simp
@[simp] theorem grant_eng (s : State) : (grant s).eng = s.eng := by (unfold grant; repeat' split) <;> simp
@[simp] theorem grant_voice (s : State) : (grant s).voice = s.voice := by (unfold grant; repeat' split) <;> simp
@[simp] theorem grant_tone (s : State) : (grant s).tone = s.tone := by (unfold grant; repeat' split) <;> simp
@[simp] theorem grant_ctrl (s : State) : (grant s).ctrl = s.ctrl := by (unfold grant; repeat' split) <;> simp
@[simp] theorem grant_stat (s : State) : (grant s).stat = s.stat := by (unfold grant; repeat' split) <;> simp
@[simp] theorem grant_pending (s : State) : (grant s).pending = s.pending := by (unfold grant; repeat' split) <;> simp

/-! ### freePort -/

@[simp] theorem freePort_pins (s : State) : (freePort s).pins = s.pins := by simp [freePort]
@[simp] theorem freePort_ports (s : State) : (freePort s).ports = s.ports := by simp [freePort]
@[simp] theorem freePort_timebase (s : State) : (freePort s).timebase = s.timebase := by simp [freePort]
@[simp] theorem freePort_player (s : State) : (freePort s).player = s.player := by simp [freePort]
@[simp] theorem freePort_scan (s : State) : (freePort s).scan = s.scan := by simp [freePort]
@[simp] theorem freePort_bellows (s : State) : (freePort s).bellows = s.bellows := by simp [freePort]
@[simp] theorem freePort_map (s : State) : (freePort s).map = s.map := by simp [freePort]
@[simp] theorem freePort_eng (s : State) : (freePort s).eng = s.eng := by simp [freePort]
@[simp] theorem freePort_voice (s : State) : (freePort s).voice = s.voice := by simp [freePort]
@[simp] theorem freePort_tone (s : State) : (freePort s).tone = s.tone := by simp [freePort]
@[simp] theorem freePort_ctrl (s : State) : (freePort s).ctrl = s.ctrl := by simp [freePort]
@[simp] theorem freePort_stat (s : State) : (freePort s).stat = s.stat := by simp [freePort]
@[simp] theorem freePort_pending (s : State) : (freePort s).pending = s.pending := by simp [freePort]

/-! ### logError -/

@[simp] theorem logError_pins (a : Access) (e : Bool) (s : State) : (logError a e s).pins = s.pins := by (unfold logError; split) <;> simp
@[simp] theorem logError_ports (a : Access) (e : Bool) (s : State) : (logError a e s).ports = s.ports := by (unfold logError; split) <;> simp
@[simp] theorem logError_timebase (a : Access) (e : Bool) (s : State) : (logError a e s).timebase = s.timebase := by (unfold logError; split) <;> simp
@[simp] theorem logError_player (a : Access) (e : Bool) (s : State) : (logError a e s).player = s.player := by (unfold logError; split) <;> simp
@[simp] theorem logError_arb (a : Access) (e : Bool) (s : State) : (logError a e s).arb = s.arb := by (unfold logError; split) <;> simp
@[simp] theorem logError_scan (a : Access) (e : Bool) (s : State) : (logError a e s).scan = s.scan := by (unfold logError; split) <;> simp
@[simp] theorem logError_bellows (a : Access) (e : Bool) (s : State) : (logError a e s).bellows = s.bellows := by (unfold logError; split) <;> simp
@[simp] theorem logError_map (a : Access) (e : Bool) (s : State) : (logError a e s).map = s.map := by (unfold logError; split) <;> simp
@[simp] theorem logError_eng (a : Access) (e : Bool) (s : State) : (logError a e s).eng = s.eng := by (unfold logError; split) <;> simp
@[simp] theorem logError_voice (a : Access) (e : Bool) (s : State) : (logError a e s).voice = s.voice := by (unfold logError; split) <;> simp
@[simp] theorem logError_tone (a : Access) (e : Bool) (s : State) : (logError a e s).tone = s.tone := by (unfold logError; split) <;> simp
@[simp] theorem logError_ctrl (a : Access) (e : Bool) (s : State) : (logError a e s).ctrl = s.ctrl := by (unfold logError; split) <;> simp
@[simp] theorem logError_pending (a : Access) (e : Bool) (s : State) : (logError a e s).pending = s.pending := by (unfold logError; split) <;> simp

/-- Everything an answer of RAM can do: a property that survives the freeing of the M-port, the log of an error and the
effect survives the answer. -/
theorem landing_keeps {P : State → Prop} {isMine : Owner → Bool} {e : Bool} {effect : Access → State → State} {s : State}
    (hfree : P s → P (freePort s)) (hlog : ∀ a t, P t → P (logError a e t))
    (heff : ∀ a t, s.arb.access = some a → isMine a.owner = true → P t → P (effect a t)) (h : P s) :
    P (landing isMine e effect s) := by
  unfold landing
  split
  · exact h
  · next a ha =>
    split
    · next hm =>
      split
      · exact heff a _ ha hm (hlog a _ (hfree h))
      · exact hlog a _ (hfree h)
      · exact hfree h
    · exact h


/-! ### testSwapLanding -/

@[simp] theorem testSwapLanding_pins (w : WriteReq) (s : State) : (testSwapLanding w s).pins = s.pins := by (unfold testSwapLanding; repeat' split) <;> simp
@[simp] theorem testSwapLanding_ports (w : WriteReq) (s : State) : (testSwapLanding w s).ports = s.ports := by (unfold testSwapLanding; repeat' split) <;> simp
@[simp] theorem testSwapLanding_timebase (w : WriteReq) (s : State) : (testSwapLanding w s).timebase = s.timebase := by (unfold testSwapLanding; repeat' split) <;> simp
@[simp] theorem testSwapLanding_player (w : WriteReq) (s : State) : (testSwapLanding w s).player = s.player := by (unfold testSwapLanding; repeat' split) <;> simp
@[simp] theorem testSwapLanding_arb (w : WriteReq) (s : State) : (testSwapLanding w s).arb = s.arb := by (unfold testSwapLanding; repeat' split) <;> simp
@[simp] theorem testSwapLanding_scan (w : WriteReq) (s : State) : (testSwapLanding w s).scan = s.scan := by (unfold testSwapLanding; repeat' split) <;> simp
@[simp] theorem testSwapLanding_bellows (w : WriteReq) (s : State) : (testSwapLanding w s).bellows = s.bellows := by (unfold testSwapLanding; repeat' split) <;> simp
@[simp] theorem testSwapLanding_map (w : WriteReq) (s : State) : (testSwapLanding w s).map = s.map := by (unfold testSwapLanding; repeat' split) <;> simp
@[simp] theorem testSwapLanding_voice (w : WriteReq) (s : State) : (testSwapLanding w s).voice = s.voice := by (unfold testSwapLanding; repeat' split) <;> simp
@[simp] theorem testSwapLanding_tone (w : WriteReq) (s : State) : (testSwapLanding w s).tone = s.tone := by (unfold testSwapLanding; repeat' split) <;> simp
@[simp] theorem testSwapLanding_pending (w : WriteReq) (s : State) : (testSwapLanding w s).pending = s.pending := by (unfold testSwapLanding; repeat' split) <;> simp

/-! ### argumentNearer -/

@[simp] theorem argumentNearer_pins (s : State) : (argumentNearer s).pins = s.pins := by (unfold argumentNearer; split) <;> simp
@[simp] theorem argumentNearer_ports (s : State) : (argumentNearer s).ports = s.ports := by (unfold argumentNearer; split) <;> simp
@[simp] theorem argumentNearer_timebase (s : State) : (argumentNearer s).timebase = s.timebase := by (unfold argumentNearer; split) <;> simp
@[simp] theorem argumentNearer_player (s : State) : (argumentNearer s).player = s.player := by (unfold argumentNearer; split) <;> simp
@[simp] theorem argumentNearer_arb (s : State) : (argumentNearer s).arb = s.arb := by (unfold argumentNearer; split) <;> simp
@[simp] theorem argumentNearer_scan (s : State) : (argumentNearer s).scan = s.scan := by (unfold argumentNearer; split) <;> simp
@[simp] theorem argumentNearer_bellows (s : State) : (argumentNearer s).bellows = s.bellows := by (unfold argumentNearer; split) <;> simp
@[simp] theorem argumentNearer_map (s : State) : (argumentNearer s).map = s.map := by (unfold argumentNearer; split) <;> simp
@[simp] theorem argumentNearer_eng (s : State) : (argumentNearer s).eng = s.eng := by (unfold argumentNearer; split) <;> simp
@[simp] theorem argumentNearer_voice (s : State) : (argumentNearer s).voice = s.voice := by (unfold argumentNearer; split) <;> simp
@[simp] theorem argumentNearer_tone (s : State) : (argumentNearer s).tone = s.tone := by (unfold argumentNearer; split) <;> simp
@[simp] theorem argumentNearer_stat (s : State) : (argumentNearer s).stat = s.stat := by (unfold argumentNearer; split) <;> simp
@[simp] theorem argumentNearer_pending (s : State) : (argumentNearer s).pending = s.pending := by (unfold argumentNearer; split) <;> simp

/-! ### pWriteLanded -/

@[simp] theorem pWriteLanded_pins (a : Access) (s : State) : (pWriteLanded a s).pins = s.pins := by simp [pWriteLanded]
@[simp] theorem pWriteLanded_ports (a : Access) (s : State) : (pWriteLanded a s).ports = s.ports := by simp [pWriteLanded]
@[simp] theorem pWriteLanded_timebase (a : Access) (s : State) : (pWriteLanded a s).timebase = s.timebase := by simp [pWriteLanded]
@[simp] theorem pWriteLanded_arb (a : Access) (s : State) : (pWriteLanded a s).arb = s.arb := by simp [pWriteLanded]
@[simp] theorem pWriteLanded_scan (a : Access) (s : State) : (pWriteLanded a s).scan = s.scan := by simp [pWriteLanded]
@[simp] theorem pWriteLanded_bellows (a : Access) (s : State) : (pWriteLanded a s).bellows = s.bellows := by simp [pWriteLanded]
@[simp] theorem pWriteLanded_voice (a : Access) (s : State) : (pWriteLanded a s).voice = s.voice := by simp [pWriteLanded]
@[simp] theorem pWriteLanded_tone (a : Access) (s : State) : (pWriteLanded a s).tone = s.tone := by simp [pWriteLanded]
@[simp] theorem pWriteLanded_pending (a : Access) (s : State) : (pWriteLanded a s).pending = s.pending := by simp [pWriteLanded]

/-! ### pReadDone -/

@[simp] theorem pReadDone_pins (x : RamAnswer) (a : Access) (s : State) : (pReadDone x a s).pins = s.pins := by (unfold pReadDone; simp only []; split) <;> simp
@[simp] theorem pReadDone_timebase (x : RamAnswer) (a : Access) (s : State) : (pReadDone x a s).timebase = s.timebase := by (unfold pReadDone; simp only []; split) <;> simp
@[simp] theorem pReadDone_arb (x : RamAnswer) (a : Access) (s : State) : (pReadDone x a s).arb = s.arb := by (unfold pReadDone; simp only []; split) <;> simp
@[simp] theorem pReadDone_scan (x : RamAnswer) (a : Access) (s : State) : (pReadDone x a s).scan = s.scan := by (unfold pReadDone; simp only []; split) <;> simp
@[simp] theorem pReadDone_bellows (x : RamAnswer) (a : Access) (s : State) : (pReadDone x a s).bellows = s.bellows := by (unfold pReadDone; simp only []; split) <;> simp
@[simp] theorem pReadDone_map (x : RamAnswer) (a : Access) (s : State) : (pReadDone x a s).map = s.map := by (unfold pReadDone; simp only []; split) <;> simp
@[simp] theorem pReadDone_eng (x : RamAnswer) (a : Access) (s : State) : (pReadDone x a s).eng = s.eng := by (unfold pReadDone; simp only []; split) <;> simp
@[simp] theorem pReadDone_voice (x : RamAnswer) (a : Access) (s : State) : (pReadDone x a s).voice = s.voice := by (unfold pReadDone; simp only []; split) <;> simp
@[simp] theorem pReadDone_tone (x : RamAnswer) (a : Access) (s : State) : (pReadDone x a s).tone = s.tone := by (unfold pReadDone; simp only []; split) <;> simp
@[simp] theorem pReadDone_ctrl (x : RamAnswer) (a : Access) (s : State) : (pReadDone x a s).ctrl = s.ctrl := by (unfold pReadDone; simp only []; split) <;> simp
@[simp] theorem pReadDone_stat (x : RamAnswer) (a : Access) (s : State) : (pReadDone x a s).stat = s.stat := by (unfold pReadDone; simp only []; split) <;> simp
@[simp] theorem pReadDone_pending (x : RamAnswer) (a : Access) (s : State) : (pReadDone x a s).pending = s.pending := by (unfold pReadDone; simp only []; split) <;> simp

/-! ### endService -/

@[simp] theorem endService_pins (s : State) : (endService s).pins = s.pins := by simp [endService]
@[simp] theorem endService_ports (s : State) : (endService s).ports = s.ports := by simp [endService]
@[simp] theorem endService_timebase (s : State) : (endService s).timebase = s.timebase := by simp [endService]
@[simp] theorem endService_player (s : State) : (endService s).player = s.player := by simp [endService]
@[simp] theorem endService_arb (s : State) : (endService s).arb = s.arb := by simp [endService]
@[simp] theorem endService_scan (s : State) : (endService s).scan = s.scan := by simp [endService]
@[simp] theorem endService_bellows (s : State) : (endService s).bellows = s.bellows := by simp [endService]
@[simp] theorem endService_map (s : State) : (endService s).map = s.map := by simp [endService]
@[simp] theorem endService_eng (s : State) : (endService s).eng = s.eng := by simp [endService]
@[simp] theorem endService_voice (s : State) : (endService s).voice = s.voice := by simp [endService]
@[simp] theorem endService_ctrl (s : State) : (endService s).ctrl = s.ctrl := by simp [endService]
@[simp] theorem endService_stat (s : State) : (endService s).stat = s.stat := by simp [endService]
@[simp] theorem endService_pending (s : State) : (endService s).pending = s.pending := by simp [endService]

/-! ### tReadDone -/

@[simp] theorem tReadDone_pins (x : RamAnswer) (a : Access) (s : State) : (tReadDone x a s).pins = s.pins := by (unfold tReadDone; split) <;> simp
@[simp] theorem tReadDone_timebase (x : RamAnswer) (a : Access) (s : State) : (tReadDone x a s).timebase = s.timebase := by (unfold tReadDone; split) <;> simp
@[simp] theorem tReadDone_player (x : RamAnswer) (a : Access) (s : State) : (tReadDone x a s).player = s.player := by (unfold tReadDone; split) <;> simp
@[simp] theorem tReadDone_arb (x : RamAnswer) (a : Access) (s : State) : (tReadDone x a s).arb = s.arb := by (unfold tReadDone; split) <;> simp
@[simp] theorem tReadDone_pending (x : RamAnswer) (a : Access) (s : State) : (tReadDone x a s).pending = s.pending := by (unfold tReadDone; split) <;> simp

/-! ### tWriteDone -/

@[simp] theorem tWriteDone_pins (k : RamAck) (s : State) : (tWriteDone k s).pins = s.pins := by (unfold tWriteDone; split) <;> simp
@[simp] theorem tWriteDone_timebase (k : RamAck) (s : State) : (tWriteDone k s).timebase = s.timebase := by (unfold tWriteDone; split) <;> simp
@[simp] theorem tWriteDone_player (k : RamAck) (s : State) : (tWriteDone k s).player = s.player := by (unfold tWriteDone; split) <;> simp
@[simp] theorem tWriteDone_arb (k : RamAck) (s : State) : (tWriteDone k s).arb = s.arb := by (unfold tWriteDone; split) <;> simp
@[simp] theorem tWriteDone_scan (k : RamAck) (s : State) : (tWriteDone k s).scan = s.scan := by (unfold tWriteDone; split) <;> simp
@[simp] theorem tWriteDone_bellows (k : RamAck) (s : State) : (tWriteDone k s).bellows = s.bellows := by (unfold tWriteDone; split) <;> simp
@[simp] theorem tWriteDone_map (k : RamAck) (s : State) : (tWriteDone k s).map = s.map := by (unfold tWriteDone; split) <;> simp
@[simp] theorem tWriteDone_eng (k : RamAck) (s : State) : (tWriteDone k s).eng = s.eng := by (unfold tWriteDone; split) <;> simp
@[simp] theorem tWriteDone_voice (k : RamAck) (s : State) : (tWriteDone k s).voice = s.voice := by (unfold tWriteDone; split) <;> simp
@[simp] theorem tWriteDone_ctrl (k : RamAck) (s : State) : (tWriteDone k s).ctrl = s.ctrl := by (unfold tWriteDone; split) <;> simp
@[simp] theorem tWriteDone_stat (k : RamAck) (s : State) : (tWriteDone k s).stat = s.stat := by (unfold tWriteDone; split) <;> simp
@[simp] theorem tWriteDone_pending (k : RamAck) (s : State) : (tWriteDone k s).pending = s.pending := by (unfold tWriteDone; split) <;> simp

/-! ### voiceLanded -/

@[simp] theorem voiceLanded_pins (s : State) : (voiceLanded s).pins = s.pins := by (unfold voiceLanded; split) <;> simp
@[simp] theorem voiceLanded_ports (s : State) : (voiceLanded s).ports = s.ports := by (unfold voiceLanded; split) <;> simp
@[simp] theorem voiceLanded_timebase (s : State) : (voiceLanded s).timebase = s.timebase := by (unfold voiceLanded; split) <;> simp
@[simp] theorem voiceLanded_player (s : State) : (voiceLanded s).player = s.player := by (unfold voiceLanded; split) <;> simp
@[simp] theorem voiceLanded_arb (s : State) : (voiceLanded s).arb = s.arb := by (unfold voiceLanded; split) <;> simp
@[simp] theorem voiceLanded_scan (s : State) : (voiceLanded s).scan = s.scan := by (unfold voiceLanded; split) <;> simp
@[simp] theorem voiceLanded_bellows (s : State) : (voiceLanded s).bellows = s.bellows := by (unfold voiceLanded; split) <;> simp
@[simp] theorem voiceLanded_map (s : State) : (voiceLanded s).map = s.map := by (unfold voiceLanded; split) <;> simp
@[simp] theorem voiceLanded_eng (s : State) : (voiceLanded s).eng = s.eng := by (unfold voiceLanded; split) <;> simp
@[simp] theorem voiceLanded_ctrl (s : State) : (voiceLanded s).ctrl = s.ctrl := by (unfold voiceLanded; split) <;> simp
@[simp] theorem voiceLanded_stat (s : State) : (voiceLanded s).stat = s.stat := by (unfold voiceLanded; split) <;> simp
@[simp] theorem voiceLanded_pending (s : State) : (voiceLanded s).pending = s.pending := by (unfold voiceLanded; split) <;> simp

/-! ### fillLanded -/

@[simp] theorem fillLanded_pins (x : RamAnswer) (s : State) : (fillLanded x s).pins = s.pins := by (unfold fillLanded; simp only []; repeat' split) <;> simp
@[simp] theorem fillLanded_ports (x : RamAnswer) (s : State) : (fillLanded x s).ports = s.ports := by (unfold fillLanded; simp only []; repeat' split) <;> simp
@[simp] theorem fillLanded_timebase (x : RamAnswer) (s : State) : (fillLanded x s).timebase = s.timebase := by (unfold fillLanded; simp only []; repeat' split) <;> simp
@[simp] theorem fillLanded_player (x : RamAnswer) (s : State) : (fillLanded x s).player = s.player := by (unfold fillLanded; simp only []; repeat' split) <;> simp
@[simp] theorem fillLanded_arb (x : RamAnswer) (s : State) : (fillLanded x s).arb = s.arb := by (unfold fillLanded; simp only []; repeat' split) <;> simp
@[simp] theorem fillLanded_scan (x : RamAnswer) (s : State) : (fillLanded x s).scan = s.scan := by (unfold fillLanded; simp only []; repeat' split) <;> simp
@[simp] theorem fillLanded_bellows (x : RamAnswer) (s : State) : (fillLanded x s).bellows = s.bellows := by (unfold fillLanded; simp only []; repeat' split) <;> simp
@[simp] theorem fillLanded_map (x : RamAnswer) (s : State) : (fillLanded x s).map = s.map := by (unfold fillLanded; simp only []; repeat' split) <;> simp
@[simp] theorem fillLanded_eng (x : RamAnswer) (s : State) : (fillLanded x s).eng = s.eng := by (unfold fillLanded; simp only []; repeat' split) <;> simp
@[simp] theorem fillLanded_voice (x : RamAnswer) (s : State) : (fillLanded x s).voice = s.voice := by (unfold fillLanded; simp only []; repeat' split) <;> simp
@[simp] theorem fillLanded_ctrl (x : RamAnswer) (s : State) : (fillLanded x s).ctrl = s.ctrl := by (unfold fillLanded; simp only []; repeat' split) <;> simp
@[simp] theorem fillLanded_stat (x : RamAnswer) (s : State) : (fillLanded x s).stat = s.stat := by (unfold fillLanded; simp only []; repeat' split) <;> simp
@[simp] theorem fillLanded_pending (x : RamAnswer) (s : State) : (fillLanded x s).pending = s.pending := by (unfold fillLanded; simp only []; repeat' split) <;> simp

/-! ### entryLanded -/

@[simp] theorem entryLanded_pins (x : RamAnswer) (b : Bank) (p : Pos) (s : State) : (entryLanded x b p s).pins = s.pins := by (unfold entryLanded; simp only []; repeat' split) <;> simp
@[simp] theorem entryLanded_ports (x : RamAnswer) (b : Bank) (p : Pos) (s : State) : (entryLanded x b p s).ports = s.ports := by (unfold entryLanded; simp only []; repeat' split) <;> simp
@[simp] theorem entryLanded_timebase (x : RamAnswer) (b : Bank) (p : Pos) (s : State) : (entryLanded x b p s).timebase = s.timebase := by (unfold entryLanded; simp only []; repeat' split) <;> simp
@[simp] theorem entryLanded_player (x : RamAnswer) (b : Bank) (p : Pos) (s : State) : (entryLanded x b p s).player = s.player := by (unfold entryLanded; simp only []; repeat' split) <;> simp
@[simp] theorem entryLanded_arb (x : RamAnswer) (b : Bank) (p : Pos) (s : State) : (entryLanded x b p s).arb = s.arb := by (unfold entryLanded; simp only []; repeat' split) <;> simp
@[simp] theorem entryLanded_scan (x : RamAnswer) (b : Bank) (p : Pos) (s : State) : (entryLanded x b p s).scan = s.scan := by (unfold entryLanded; simp only []; repeat' split) <;> simp
@[simp] theorem entryLanded_pending (x : RamAnswer) (b : Bank) (p : Pos) (s : State) : (entryLanded x b p s).pending = s.pending := by (unfold entryLanded; simp only []; repeat' split) <;> simp

/-! ### programHanded -/

@[simp] theorem programHanded_pins (l : List Word) (s : State) : (programHanded l s).pins = s.pins := by simp [programHanded]
@[simp] theorem programHanded_ports (l : List Word) (s : State) : (programHanded l s).ports = s.ports := by simp [programHanded]
@[simp] theorem programHanded_timebase (l : List Word) (s : State) : (programHanded l s).timebase = s.timebase := by simp [programHanded]
@[simp] theorem programHanded_player (l : List Word) (s : State) : (programHanded l s).player = s.player := by simp [programHanded]
@[simp] theorem programHanded_arb (l : List Word) (s : State) : (programHanded l s).arb = s.arb := by simp [programHanded]
@[simp] theorem programHanded_scan (l : List Word) (s : State) : (programHanded l s).scan = s.scan := by simp [programHanded]
@[simp] theorem programHanded_pending (l : List Word) (s : State) : (programHanded l s).pending = s.pending := by simp [programHanded]

/-! ### programLanded -/

@[simp] theorem programLanded_pins (x : RamAnswer) (n : ProgNo) (s : State) : (programLanded x n s).pins = s.pins := by (unfold programLanded; simp only []; repeat' split) <;> simp
@[simp] theorem programLanded_ports (x : RamAnswer) (n : ProgNo) (s : State) : (programLanded x n s).ports = s.ports := by (unfold programLanded; simp only []; repeat' split) <;> simp
@[simp] theorem programLanded_timebase (x : RamAnswer) (n : ProgNo) (s : State) : (programLanded x n s).timebase = s.timebase := by (unfold programLanded; simp only []; repeat' split) <;> simp
@[simp] theorem programLanded_player (x : RamAnswer) (n : ProgNo) (s : State) : (programLanded x n s).player = s.player := by (unfold programLanded; simp only []; repeat' split) <;> simp
@[simp] theorem programLanded_arb (x : RamAnswer) (n : ProgNo) (s : State) : (programLanded x n s).arb = s.arb := by (unfold programLanded; simp only []; repeat' split) <;> simp
@[simp] theorem programLanded_scan (x : RamAnswer) (n : ProgNo) (s : State) : (programLanded x n s).scan = s.scan := by (unfold programLanded; simp only []; repeat' split) <;> simp
@[simp] theorem programLanded_pending (x : RamAnswer) (n : ProgNo) (s : State) : (programLanded x n s).pending = s.pending := by (unfold programLanded; simp only []; repeat' split) <;> simp

/-! ### reloadLanded -/

@[simp] theorem reloadLanded_pins (x : RamAnswer) (i : SectNo) (s : State) : (reloadLanded x i s).pins = s.pins := by simp [reloadLanded]
@[simp] theorem reloadLanded_ports (x : RamAnswer) (i : SectNo) (s : State) : (reloadLanded x i s).ports = s.ports := by simp [reloadLanded]
@[simp] theorem reloadLanded_timebase (x : RamAnswer) (i : SectNo) (s : State) : (reloadLanded x i s).timebase = s.timebase := by simp [reloadLanded]
@[simp] theorem reloadLanded_player (x : RamAnswer) (i : SectNo) (s : State) : (reloadLanded x i s).player = s.player := by simp [reloadLanded]
@[simp] theorem reloadLanded_arb (x : RamAnswer) (i : SectNo) (s : State) : (reloadLanded x i s).arb = s.arb := by simp [reloadLanded]
@[simp] theorem reloadLanded_scan (x : RamAnswer) (i : SectNo) (s : State) : (reloadLanded x i s).scan = s.scan := by simp [reloadLanded]
@[simp] theorem reloadLanded_bellows (x : RamAnswer) (i : SectNo) (s : State) : (reloadLanded x i s).bellows = s.bellows := by simp [reloadLanded]
@[simp] theorem reloadLanded_eng (x : RamAnswer) (i : SectNo) (s : State) : (reloadLanded x i s).eng = s.eng := by simp [reloadLanded]
@[simp] theorem reloadLanded_voice (x : RamAnswer) (i : SectNo) (s : State) : (reloadLanded x i s).voice = s.voice := by simp [reloadLanded]
@[simp] theorem reloadLanded_tone (x : RamAnswer) (i : SectNo) (s : State) : (reloadLanded x i s).tone = s.tone := by simp [reloadLanded]
@[simp] theorem reloadLanded_stat (x : RamAnswer) (i : SectNo) (s : State) : (reloadLanded x i s).stat = s.stat := by simp [reloadLanded]
@[simp] theorem reloadLanded_pending (x : RamAnswer) (i : SectNo) (s : State) : (reloadLanded x i s).pending = s.pending := by simp [reloadLanded]

/-! ### argumentLanded -/

@[simp] theorem argumentLanded_pins (x : RamAnswer) (s : State) : (argumentLanded x s).pins = s.pins := by (unfold argumentLanded; simp only []; repeat' split) <;> simp
@[simp] theorem argumentLanded_timebase (x : RamAnswer) (s : State) : (argumentLanded x s).timebase = s.timebase := by (unfold argumentLanded; simp only []; repeat' split) <;> simp
@[simp] theorem argumentLanded_player (x : RamAnswer) (s : State) : (argumentLanded x s).player = s.player := by (unfold argumentLanded; simp only []; repeat' split) <;> simp
@[simp] theorem argumentLanded_pending (x : RamAnswer) (s : State) : (argumentLanded x s).pending = s.pending := by (unfold argumentLanded; simp only []; repeat' split) <;> simp

/-! ### snapshotLanded -/

@[simp] theorem snapshotLanded_pins (s : State) : (snapshotLanded s).pins = s.pins := by (unfold snapshotLanded; repeat' split) <;> simp
@[simp] theorem snapshotLanded_ports (s : State) : (snapshotLanded s).ports = s.ports := by (unfold snapshotLanded; repeat' split) <;> simp
@[simp] theorem snapshotLanded_timebase (s : State) : (snapshotLanded s).timebase = s.timebase := by (unfold snapshotLanded; repeat' split) <;> simp
@[simp] theorem snapshotLanded_player (s : State) : (snapshotLanded s).player = s.player := by (unfold snapshotLanded; repeat' split) <;> simp
@[simp] theorem snapshotLanded_arb (s : State) : (snapshotLanded s).arb = s.arb := by (unfold snapshotLanded; repeat' split) <;> simp
@[simp] theorem snapshotLanded_scan (s : State) : (snapshotLanded s).scan = s.scan := by (unfold snapshotLanded; repeat' split) <;> simp
@[simp] theorem snapshotLanded_bellows (s : State) : (snapshotLanded s).bellows = s.bellows := by (unfold snapshotLanded; repeat' split) <;> simp
@[simp] theorem snapshotLanded_map (s : State) : (snapshotLanded s).map = s.map := by (unfold snapshotLanded; repeat' split) <;> simp
@[simp] theorem snapshotLanded_eng (s : State) : (snapshotLanded s).eng = s.eng := by (unfold snapshotLanded; repeat' split) <;> simp
@[simp] theorem snapshotLanded_voice (s : State) : (snapshotLanded s).voice = s.voice := by (unfold snapshotLanded; repeat' split) <;> simp
@[simp] theorem snapshotLanded_tone (s : State) : (snapshotLanded s).tone = s.tone := by (unfold snapshotLanded; repeat' split) <;> simp
@[simp] theorem snapshotLanded_ctrl (s : State) : (snapshotLanded s).ctrl = s.ctrl := by (unfold snapshotLanded; repeat' split) <;> simp
@[simp] theorem snapshotLanded_pending (s : State) : (snapshotLanded s).pending = s.pending := by (unfold snapshotLanded; repeat' split) <;> simp

/-! ### descriptorRead -/

@[simp] theorem descriptorRead_pins (l : List Word) (f : Bool) (s : State) : (descriptorRead l f s).pins = s.pins := by (unfold descriptorRead; simp only []; repeat' split) <;> simp
@[simp] theorem descriptorRead_ports (l : List Word) (f : Bool) (s : State) : (descriptorRead l f s).ports = s.ports := by (unfold descriptorRead; simp only []; repeat' split) <;> simp
@[simp] theorem descriptorRead_timebase (l : List Word) (f : Bool) (s : State) : (descriptorRead l f s).timebase = s.timebase := by (unfold descriptorRead; simp only []; repeat' split) <;> simp
@[simp] theorem descriptorRead_player (l : List Word) (f : Bool) (s : State) : (descriptorRead l f s).player = s.player := by (unfold descriptorRead; simp only []; repeat' split) <;> simp
@[simp] theorem descriptorRead_arb (l : List Word) (f : Bool) (s : State) : (descriptorRead l f s).arb = s.arb := by (unfold descriptorRead; simp only []; repeat' split) <;> simp
@[simp] theorem descriptorRead_scan (l : List Word) (f : Bool) (s : State) : (descriptorRead l f s).scan = s.scan := by (unfold descriptorRead; simp only []; repeat' split) <;> simp
@[simp] theorem descriptorRead_bellows (l : List Word) (f : Bool) (s : State) : (descriptorRead l f s).bellows = s.bellows := by (unfold descriptorRead; simp only []; repeat' split) <;> simp
@[simp] theorem descriptorRead_map (l : List Word) (f : Bool) (s : State) : (descriptorRead l f s).map = s.map := by (unfold descriptorRead; simp only []; repeat' split) <;> simp
@[simp] theorem descriptorRead_eng (l : List Word) (f : Bool) (s : State) : (descriptorRead l f s).eng = s.eng := by (unfold descriptorRead; simp only []; repeat' split) <;> simp
@[simp] theorem descriptorRead_voice (l : List Word) (f : Bool) (s : State) : (descriptorRead l f s).voice = s.voice := by (unfold descriptorRead; simp only []; repeat' split) <;> simp
@[simp] theorem descriptorRead_tone (l : List Word) (f : Bool) (s : State) : (descriptorRead l f s).tone = s.tone := by (unfold descriptorRead; simp only []; repeat' split) <;> simp
@[simp] theorem descriptorRead_pending (l : List Word) (f : Bool) (s : State) : (descriptorRead l f s).pending = s.pending := by (unfold descriptorRead; simp only []; repeat' split) <;> simp

/-! ### descriptorLanded -/

@[simp] theorem descriptorLanded_pins (x : RamAnswer) (s : State) : (descriptorLanded x s).pins = s.pins := by (unfold descriptorLanded; simp only []; repeat' split) <;> simp
@[simp] theorem descriptorLanded_ports (x : RamAnswer) (s : State) : (descriptorLanded x s).ports = s.ports := by (unfold descriptorLanded; simp only []; repeat' split) <;> simp
@[simp] theorem descriptorLanded_timebase (x : RamAnswer) (s : State) : (descriptorLanded x s).timebase = s.timebase := by (unfold descriptorLanded; simp only []; repeat' split) <;> simp
@[simp] theorem descriptorLanded_player (x : RamAnswer) (s : State) : (descriptorLanded x s).player = s.player := by (unfold descriptorLanded; simp only []; repeat' split) <;> simp
@[simp] theorem descriptorLanded_arb (x : RamAnswer) (s : State) : (descriptorLanded x s).arb = s.arb := by (unfold descriptorLanded; simp only []; repeat' split) <;> simp
@[simp] theorem descriptorLanded_scan (x : RamAnswer) (s : State) : (descriptorLanded x s).scan = s.scan := by (unfold descriptorLanded; simp only []; repeat' split) <;> simp
@[simp] theorem descriptorLanded_bellows (x : RamAnswer) (s : State) : (descriptorLanded x s).bellows = s.bellows := by (unfold descriptorLanded; simp only []; repeat' split) <;> simp
@[simp] theorem descriptorLanded_eng (x : RamAnswer) (s : State) : (descriptorLanded x s).eng = s.eng := by (unfold descriptorLanded; simp only []; repeat' split) <;> simp
@[simp] theorem descriptorLanded_voice (x : RamAnswer) (s : State) : (descriptorLanded x s).voice = s.voice := by (unfold descriptorLanded; simp only []; repeat' split) <;> simp
@[simp] theorem descriptorLanded_tone (x : RamAnswer) (s : State) : (descriptorLanded x s).tone = s.tone := by (unfold descriptorLanded; simp only []; repeat' split) <;> simp
@[simp] theorem descriptorLanded_pending (x : RamAnswer) (s : State) : (descriptorLanded x s).pending = s.pending := by (unfold descriptorLanded; simp only []; repeat' split) <;> simp

/-! ### beginVoiceTable -/

@[simp] theorem beginVoiceTable_pins (s : State) : (beginVoiceTable s).pins = s.pins := by simp [beginVoiceTable]
@[simp] theorem beginVoiceTable_ports (s : State) : (beginVoiceTable s).ports = s.ports := by simp [beginVoiceTable]
@[simp] theorem beginVoiceTable_timebase (s : State) : (beginVoiceTable s).timebase = s.timebase := by simp [beginVoiceTable]
@[simp] theorem beginVoiceTable_player (s : State) : (beginVoiceTable s).player = s.player := by simp [beginVoiceTable]
@[simp] theorem beginVoiceTable_arb (s : State) : (beginVoiceTable s).arb = s.arb := by simp [beginVoiceTable]
@[simp] theorem beginVoiceTable_scan (s : State) : (beginVoiceTable s).scan = s.scan := by simp [beginVoiceTable]
@[simp] theorem beginVoiceTable_pending (s : State) : (beginVoiceTable s).pending = s.pending := by simp [beginVoiceTable]

/-! ### sectionsLanded -/

@[simp] theorem sectionsLanded_pins (x : RamAnswer) (s : State) : (sectionsLanded x s).pins = s.pins := by (unfold sectionsLanded; simp only []; repeat' split) <;> simp
@[simp] theorem sectionsLanded_ports (x : RamAnswer) (s : State) : (sectionsLanded x s).ports = s.ports := by (unfold sectionsLanded; simp only []; repeat' split) <;> simp
@[simp] theorem sectionsLanded_timebase (x : RamAnswer) (s : State) : (sectionsLanded x s).timebase = s.timebase := by (unfold sectionsLanded; simp only []; repeat' split) <;> simp
@[simp] theorem sectionsLanded_player (x : RamAnswer) (s : State) : (sectionsLanded x s).player = s.player := by (unfold sectionsLanded; simp only []; repeat' split) <;> simp
@[simp] theorem sectionsLanded_arb (x : RamAnswer) (s : State) : (sectionsLanded x s).arb = s.arb := by (unfold sectionsLanded; simp only []; repeat' split) <;> simp
@[simp] theorem sectionsLanded_scan (x : RamAnswer) (s : State) : (sectionsLanded x s).scan = s.scan := by (unfold sectionsLanded; simp only []; repeat' split) <;> simp
@[simp] theorem sectionsLanded_pending (x : RamAnswer) (s : State) : (sectionsLanded x s).pending = s.pending := by (unfold sectionsLanded; simp only []; repeat' split) <;> simp

end Sys2Proof.Machine
end

