-- ==== Sys2Proof/Laws/Landing.lean ====
section
/-! SUPPORT. What an answer of RAM does, and what a logged fault leaves. -/

namespace Sys2Proof.Machine

theorem bump_eq (n : Nat) : bump n = if n < 65535 then n + 1 else n := rfl

/-- Logging a fault leaves what R181 says. -/
theorem logFault_logged (k : FaultKind) (p : PortId) (a : Addr) (s : State) :
    FaultLogged k p a s (logFault k p a s) := by
  refine ⟨?_, ?_, ?_, ?_⟩
  · rw [logFault_stat_faultCount, bump_eq]
  · simp
  · simp
  · simp

/-- The answer of a live access of the kind that is expected has its effect, with the M-port free and an error
logged. -/
theorem landing_of_carries {s : State} {o : Owner} {a : Access} (h : Carries s o a) {m : Owner → Bool} (hm : m o = true)
    (e : Bool) (g : Access → State → State) : landing m e g s = g a (logError a e (freePort s)) := by
  obtain ⟨ha, ho, hd⟩ := h
  simp [landing, ha, ho, hm, hd]

/-- With no access in progress an answer of RAM changes nothing. -/
theorem landing_of_free {s : State} (h : s.arb.access = none) (m : Owner → Bool) (e : Bool)
    (g : Access → State → State) : landing m e g s = s := by
  simp [landing, h]

@[simp] theorem logError_false (a : Access) (s : State) : logError a false s = s := rfl

@[simp] theorem logError_true (a : Access) (s : State) :
    logError a true s = logFault .memoryError (ownPort a.owner) a.req.start s := rfl

@[simp] theorem freePort_access (s : State) : (freePort s).arb.access = none := rfl

end Sys2Proof.Machine
end

