-- ==== Sys2Proof/Laws/PerInstr.lean ====
section
/-! SUPPORT. What a well-formed command is, command by command. -/

namespace Sys2Proof.Laws.CommandWf

/-- A command is well formed just when a write it carries names no data beyond its length (R19), and an unknown
opcode is none of 1..10 (12.3). -/
def Statement (i : Instr) : Prop :=
  i.wf = true ↔
    (∀ w, i = .pWrite w ∨ i = .tWrite w → ∀ k : Fin 8, w.more < k → w.data.get k = 0) ∧
    ∀ op c, i = .unknownOpcode op c → ¬(1 ≤ op.toNat ∧ op.toNat ≤ 10)

/-- A command that carries neither is well formed. -/
theorem of_plain {i : Instr} (h : i.wf = true) (hp : ∀ w, i ≠ .pWrite w) (ht : ∀ w, i ≠ .tWrite w)
    (hu : ∀ op c, i ≠ .unknownOpcode op c) : Statement i :=
  ⟨fun _ => ⟨fun w hw => (hw.elim (hp w) (ht w)).elim, fun op c ho => (hu op c ho).elim⟩, fun _ => h⟩

/-- A write is well formed just when the data beyond its length is zero. -/
theorem write_wf_iff (w : WriteReq) : w.wf = true ↔ ∀ k : Fin 8, w.more < k → w.data.get k = 0 := by
  unfold WriteReq.wf
  rw [List.all_eq_true]
  have hsize := w.data.size
  constructor
  · intro h k hk
    have hlt : w.more.val < k.val := hk
    have hmem : w.data.get k ∈ w.data.cells.drop (w.more.val + 1) := by
      rw [List.mem_drop_iff_getElem]
      exact ⟨k.val - (w.more.val + 1), by omega, by simp only [Tbl.get]; congr 1; omega⟩
    simpa using h _ hmem
  · intro h x hx
    rw [List.mem_drop_iff_getElem] at hx
    obtain ⟨n, hn, rfl⟩ := hx
    have := h ⟨w.more.val + 1 + n, by omega⟩ (by show w.more.val < w.more.val + 1 + n; omega)
    simpa [Tbl.get] using this

theorem powerOnDetect : Statement .powerOnDetect :=
  of_plain rfl (fun _ => nofun) (fun _ => nofun) fun _ _ => nofun

theorem resetLow : Statement .resetLow :=
  of_plain rfl (fun _ => nofun) (fun _ => nofun) fun _ _ => nofun

theorem heldRelease (resetHigh detectorQuiet : Bool) (dsel : BitVec 2) (boot : Bool) : Statement (.heldRelease resetHigh detectorQuiet dsel boot) :=
  of_plain rfl (fun _ => nofun) (fun _ => nofun) fun _ _ => nofun

theorem drainPhaseEnd : Statement .drainPhaseEnd :=
  of_plain rfl (fun _ => nofun) (fun _ => nofun) fun _ _ => nofun

theorem descriptorReadLands (a : RamAnswer) : Statement (.descriptorReadLands a) :=
  of_plain rfl (fun _ => nofun) (fun _ => nofun) fun _ _ => nofun

theorem sectionsPhaseReadLands (a : RamAnswer) : Statement (.sectionsPhaseReadLands a) :=
  of_plain rfl (fun _ => nofun) (fun _ => nofun) fun _ _ => nofun

theorem voiceTablePhaseEnd : Statement .voiceTablePhaseEnd :=
  of_plain rfl (fun _ => nofun) (fun _ => nofun) fun _ _ => nofun

theorem initEnd : Statement .initEnd :=
  of_plain rfl (fun _ => nofun) (fun _ => nofun) fun _ _ => nofun

theorem hushPinChange (high : Bool) : Statement (.hushPinChange high) :=
  of_plain rfl (fun _ => nofun) (fun _ => nofun) fun _ _ => nofun

theorem sustPinChange (high : Bool) : Statement (.sustPinChange high) :=
  of_plain rfl (fun _ => nofun) (fun _ => nofun) fun _ _ => nofun

theorem pWrite (w : WriteReq) : Statement (.pWrite w) := by
  unfold Statement
  rw [show (Instr.pWrite w).wf = w.wf from rfl, write_wf_iff]
  constructor
  · intro h
    refine ⟨fun v hv => ?_, fun op c ho => by simp at ho⟩
    simp only [Instr.pWrite.injEq, reduceCtorEq, or_false] at hv
    exact hv ▸ h
  · intro h
    exact h.1 w (Or.inl rfl)

theorem unknownOpcode (opcode : Byte) (c : CmdWrite) : Statement (.unknownOpcode opcode c) := by
  unfold Statement
  simp only [Instr.wf, namesNoCommand, Bool.or_eq_true, beq_iff_eq, decide_eq_true_eq, reduceCtorEq, or_self,
    false_implies, implies_true, true_and, Instr.unknownOpcode.injEq]
  constructor
  · rintro h op c' ⟨rfl, -⟩
    omega
  · intro h
    have := h opcode c ⟨rfl, rfl⟩
    omega

theorem perform (c : CmdWrite) : Statement (.perform c) :=
  of_plain rfl (fun _ => nofun) (fun _ => nofun) fun _ _ => nofun

theorem standbySettle (high : BitVec 24) (argHigh : BitVec 30) : Statement (.standbySettle high argHigh) :=
  of_plain rfl (fun _ => nofun) (fun _ => nofun) fun _ _ => nofun

theorem standbyCut (high : BitVec 24) (argHigh : BitVec 30) : Statement (.standbyCut high argHigh) :=
  of_plain rfl (fun _ => nofun) (fun _ => nofun) fun _ _ => nofun

theorem swap (c : CmdWrite) : Statement (.swap c) :=
  of_plain rfl (fun _ => nofun) (fun _ => nofun) fun _ _ => nofun

theorem panic (c : CmdWrite) : Statement (.panic c) :=
  of_plain rfl (fun _ => nofun) (fun _ => nofun) fun _ _ => nofun

theorem sustain (c : CmdWrite) : Statement (.sustain c) :=
  of_plain rfl (fun _ => nofun) (fun _ => nofun) fun _ _ => nofun

theorem guard (c : CmdWrite) : Statement (.guard c) :=
  of_plain rfl (fun _ => nofun) (fun _ => nofun) fun _ _ => nofun

theorem guardLock (c : CmdWrite) : Statement (.guardLock c) :=
  of_plain rfl (fun _ => nofun) (fun _ => nofun) fun _ _ => nofun

theorem ack (c : CmdWrite) : Statement (.ack c) :=
  of_plain rfl (fun _ => nofun) (fun _ => nofun) fun _ _ => nofun

theorem reinit (c : CmdWrite) : Statement (.reinit c) :=
  of_plain rfl (fun _ => nofun) (fun _ => nofun) fun _ _ => nofun

theorem flush (c : CmdWrite) : Statement (.flush c) :=
  of_plain rfl (fun _ => nofun) (fun _ => nofun) fun _ _ => nofun

theorem pRead (r : ReadReq) : Statement (.pRead r) :=
  of_plain rfl (fun _ => nofun) (fun _ => nofun) fun _ _ => nofun

theorem tRead (r : ReadReq) : Statement (.tRead r) :=
  of_plain rfl (fun _ => nofun) (fun _ => nofun) fun _ _ => nofun

theorem tWrite (w : WriteReq) : Statement (.tWrite w) := by
  unfold Statement
  rw [show (Instr.tWrite w).wf = w.wf from rfl, write_wf_iff]
  constructor
  · intro h
    refine ⟨fun v hv => ?_, fun op c ho => by simp at ho⟩
    simp only [Instr.tWrite.injEq, reduceCtorEq, false_or] at hv
    exact hv ▸ h
  · intro h
    exact h.1 w (Or.inr rfl)

theorem mportGrant : Statement .mportGrant :=
  of_plain rfl (fun _ => nofun) (fun _ => nofun) fun _ _ => nofun

theorem pWriteLands (k : RamAck) : Statement (.pWriteLands k) :=
  of_plain rfl (fun _ => nofun) (fun _ => nofun) fun _ _ => nofun

theorem pReadCompletes (a : RamAnswer) : Statement (.pReadCompletes a) :=
  of_plain rfl (fun _ => nofun) (fun _ => nofun) fun _ _ => nofun

theorem tReadCompletes (a : RamAnswer) : Statement (.tReadCompletes a) :=
  of_plain rfl (fun _ => nofun) (fun _ => nofun) fun _ _ => nofun

theorem tWriteCompletes (k : RamAck) : Statement (.tWriteCompletes k) :=
  of_plain rfl (fun _ => nofun) (fun _ => nofun) fun _ _ => nofun

theorem scanSilenceTrip (f : FrameCause) : Statement (.scanSilenceTrip f) :=
  of_plain rfl (fun _ => nofun) (fun _ => nofun) fun _ _ => nofun

theorem reversalHoldEnd (f : FrameCause) : Statement (.reversalHoldEnd f) :=
  of_plain rfl (fun _ => nofun) (fun _ => nofun) fun _ _ => nofun

theorem settleCut (f : FrameCause) : Statement (.settleCut f) :=
  of_plain rfl (fun _ => nofun) (fun _ => nofun) fun _ _ => nofun

theorem settleTimerEnd : Statement .settleTimerEnd :=
  of_plain rfl (fun _ => nofun) (fun _ => nofun) fun _ _ => nofun

theorem groupLate : Statement .groupLate :=
  of_plain rfl (fun _ => nofun) (fun _ => nofun) fun _ _ => nofun

theorem heldReadDiscard : Statement .heldReadDiscard :=
  of_plain rfl (fun _ => nofun) (fun _ => nofun) fun _ _ => nofun

theorem voiceWriteLands (k : RamAck) : Statement (.voiceWriteLands k) :=
  of_plain rfl (fun _ => nofun) (fun _ => nofun) fun _ _ => nofun

theorem heldReadFillLands (a : RamAnswer) : Statement (.heldReadFillLands a) :=
  of_plain rfl (fun _ => nofun) (fun _ => nofun) fun _ _ => nofun

theorem mapEntryFetchLands (a : RamAnswer) : Statement (.mapEntryFetchLands a) :=
  of_plain rfl (fun _ => nofun) (fun _ => nofun) fun _ _ => nofun

theorem programFetchLands (a : RamAnswer) : Statement (.programFetchLands a) :=
  of_plain rfl (fun _ => nofun) (fun _ => nofun) fun _ _ => nofun

theorem sectionReloadLands (a : RamAnswer) : Statement (.sectionReloadLands a) :=
  of_plain rfl (fun _ => nofun) (fun _ => nofun) fun _ _ => nofun

theorem argumentReadLands (a : RamAnswer) : Statement (.argumentReadLands a) :=
  of_plain rfl (fun _ => nofun) (fun _ => nofun) fun _ _ => nofun

theorem snapshotAccessLands (k : RamAck) : Statement (.snapshotAccessLands k) :=
  of_plain rfl (fun _ => nofun) (fun _ => nofun) fun _ _ => nofun

theorem pushWaitEnd : Statement .pushWaitEnd :=
  of_plain rfl (fun _ => nofun) (fun _ => nofun) fun _ _ => nofun

theorem hushItem : Statement .hushItem :=
  of_plain rfl (fun _ => nofun) (fun _ => nofun) fun _ _ => nofun

theorem releaseAll : Statement .releaseAll :=
  of_plain rfl (fun _ => nofun) (fun _ => nofun) fun _ _ => nofun

theorem takeReversalNotice : Statement .takeReversalNotice :=
  of_plain rfl (fun _ => nofun) (fun _ => nofun) fun _ _ => nofun

theorem reversalWalkStep : Statement .reversalWalkStep :=
  of_plain rfl (fun _ => nofun) (fun _ => nofun) fun _ _ => nofun

theorem frameExpiry : Statement .frameExpiry :=
  of_plain rfl (fun _ => nofun) (fun _ => nofun) fun _ _ => nofun

theorem press : Statement .press :=
  of_plain rfl (fun _ => nofun) (fun _ => nofun) fun _ _ => nofun

theorem release : Statement .release :=
  of_plain rfl (fun _ => nofun) (fun _ => nofun) fun _ _ => nofun

theorem sustainOffWalkStep : Statement .sustainOffWalkStep :=
  of_plain rfl (fun _ => nofun) (fun _ => nofun) fun _ _ => nofun

theorem restrikeWalkStep : Statement .restrikeWalkStep :=
  of_plain rfl (fun _ => nofun) (fun _ => nofun) fun _ _ => nofun

theorem takeLevelNotice : Statement .takeLevelNotice :=
  of_plain rfl (fun _ => nofun) (fun _ => nofun) fun _ _ => nofun

theorem levelSweepStep : Statement .levelSweepStep :=
  of_plain rfl (fun _ => nofun) (fun _ => nofun) fun _ _ => nofun

end Sys2Proof.Laws.CommandWf
end

