-- ==== Sys2Proof/Laws/Posting.lean ====
section
/-! SUPPORT. What an accepted P write comes to. -/

namespace Sys2Proof.Machine

/-- The state in which the parts of an accepted P write are announced (R22 step 7). -/
def accepted (w : WriteReq) (s : State) : State :=
  answerP (.accept []) (s.setPlayer { s.player with writes := s.player.writes ++ [w] })

@[simp] theorem accepted_ctrl (w : WriteReq) (s : State) : (accepted w s).ctrl = s.ctrl := by simp [accepted]
@[simp] theorem accepted_scan (w : WriteReq) (s : State) : (accepted w s).scan = s.scan := by simp [accepted]
@[simp] theorem accepted_bellows (w : WriteReq) (s : State) : (accepted w s).bellows = s.bellows := by simp [accepted]
@[simp] theorem accepted_map (w : WriteReq) (s : State) : (accepted w s).map = s.map := by simp [accepted]
@[simp] theorem accepted_eng (w : WriteReq) (s : State) : (accepted w s).eng = s.eng := by simp [accepted]
@[simp] theorem accepted_voice (w : WriteReq) (s : State) : (accepted w s).voice = s.voice := by simp [accepted]
@[simp] theorem accepted_tone (w : WriteReq) (s : State) : (accepted w s).tone = s.tone := by simp [accepted]
@[simp] theorem accepted_arb (w : WriteReq) (s : State) : (accepted w s).arb = s.arb := by simp [accepted]
@[simp] theorem accepted_pins (w : WriteReq) (s : State) : (accepted w s).pins = s.pins := by simp [accepted]
@[simp] theorem accepted_timebase (w : WriteReq) (s : State) : (accepted w s).timebase = s.timebase := by
  simp [accepted]
@[simp] theorem accepted_stat (w : WriteReq) (s : State) : (accepted w s).stat = s.stat := by simp [accepted]
@[simp] theorem accepted_player (w : WriteReq) (s : State) :
    (accepted w s).player = { s.player with writes := s.player.writes ++ [w] } := by simp [accepted]
@[simp] theorem accepted_ports (w : WriteReq) (s : State) :
    (accepted w s).ports = { s.ports with pAnswer := some (.accept []) } := by simp [accepted, answerP]

/-- An accepted P write is posted, and its parts are announced in order (R22, R24, R28, R29). -/
theorem pWrite_accepted {s : State} {w : WriteReq} (h : PAccepts s w) :
    pWrite w s = chooseFetch ((areasInOrder s.ctrl ((namedWords w).map (·.addr))).foldl
      (fun t x => announce x (partOf s.ctrl x (namedWords w)) t) (accepted w s)) := by
  obtain ⟨⟨hw, hr⟩, hb, hf, hq, hs⟩ := h
  simp only [pWrite]
  simp [hw, hr, hb, hf, hs, Config.pQueueMax, Nat.not_le.mpr hq]
  rfl

/-- An accepted P write of one word has one part. -/
theorem pWrite_one {s : State} {w : WriteReq} (h : PAccepts s w) (hm : w.more = 0) :
    pWrite w s = chooseFetch (announce (areaOf s.ctrl w.start)
      [{ addr := w.start, data := w.data.get 0, mask := w.mask }] (accepted w s)) := by
  have ha : badStart w.start = false := by
    have := h.2.1
    simp only [badForm, Bool.or_eq_false_iff] at this
    exact this.1
  rw [pWrite_accepted h, namedWords_one hm ha]
  simp [areasInOrder, partOf]

/-- A write that no block watches changes nothing when it is announced (R28). -/
theorem foldl_announce_unwatched {c : Control} {ws : List NamedWord} {l : List Area}
    (hl : ∀ x ∈ l, x ∈ [Area.descriptor, .spareLow, .spareHigh, .programs, .ram, .other]) (s : State) :
    l.foldl (fun t x => announce x (partOf c x ws) t) s = s := by
  induction l with
  | nil => rfl
  | cons x l ih =>
    have hx := hl x (by simp)
    have : announce x (partOf c x ws) s = s := by
      simp at hx
      rcases hx with rfl | rfl | rfl | rfl | rfl | rfl <;> rfl
    rw [List.foldl_cons, this]
    exact ih fun y hy => hl y (by simp [hy])

/-- Every area of a request is the area of one of its words. -/
theorem mem_areasInOrder {c : Control} {as : List Addr} {x : Area} (h : x ∈ areasInOrder c as) :
    ∃ a ∈ as, areaOf c a = x := by
  have gen : ∀ (l acc : List Area),
      x ∈ l.foldl (fun acc y => if acc.contains y then acc else acc ++ [y]) acc → x ∈ acc ∨ x ∈ l := by
    intro l
    induction l with
    | nil => intro acc h; exact Or.inl h
    | cons y l ih =>
      intro acc h
      rcases ih _ h with h | h
      · simp only [] at h
        by_cases hc : acc.contains y = true
        · rw [if_pos hc] at h; exact Or.inl h
        · rw [if_neg hc] at h
          simp only [List.mem_append, List.mem_singleton] at h
          rcases h with h | h
          · exact Or.inl h
          · exact Or.inr (by simp [h])
      · exact Or.inr (by simp [h])
  rcases gen _ _ h with h | h
  · simp at h
  · simpa using h

end Sys2Proof.Machine
end

