-- ==== Sys2Proof/Tests/Slice0.lean ====
section
/-! SUPPORT. The model's own tests: ill-formed commands, a few single steps, and for every statement of
Certificates/Slice0/Obligations.lean a state and operands that meet its hypotheses. -/

namespace Sys2Proof.Tests

open Sys2Proof.Machine

set_option Elab.async false

/-! ### Small states -/

/-- A read of `more + 1` words. -/
def rd (a : Nat) (more : Fin 8) : ReadReq := { start := BitVec.ofNat 24 a, more := more, order := .linear }

/-- A write whose first word is `x`. -/
def wr (a : Nat) (more : Fin 8) (mask : BitVec 4) (x : Word) : WriteReq :=
  { toReadReq := rd a more, mask := mask, data := ⟨[x, 0, 0, 0, 0, 0, 0, 0], rfl⟩ }

/-- A write of whole words in the order given. -/
def burst (a : Nat) (more : Fin 8) (o : BurstOrder) (data : Tbl 8 Word) : WriteReq :=
  { start := BitVec.ofNat 24 a, more := more, order := o, mask := 0xF, data := data }

/-- The descriptor of the spec's examples (5.7), 32 words as INIT reads them. -/
def descWords : List Word :=
  [1, 16, 0x010200, 0x010400, 0x010800, 0x018000, 0x010C00, 0x011000] ++
  [120, 300, 120, 64, 2, 12, 300, 6] ++
  [3, 0x7F, 0, 0, 0, 0, 0, 0] ++ [0, 0, 0, 0, 0, 0, 0, 0]

/-- The descriptor copy of the test states. -/
def d0 : Desc := Desc.ofWords descWords

/-- A state with a valid descriptor, straps 11 and BOOT 1. -/
def inState (op : OpState) : State :=
  { State.reset with
    ctrl := { Control.powerOn with op := op, valid := true, desc := some d0, dsel := 3, boot := true } }

/-- INIT in a phase. -/
def initIn (p : InitPhase) : State :=
  { inState .init with ctrl := { (inState .init).ctrl with phase := some p } }

/-- A live access. -/
def anAccess (o : Owner) (w : WriteReq) : Access := { owner := o, isWrite := false, req := w, drop := .live }

/-- The state with a live access at the M-port. -/
def carrying (o : Owner) (w : WriteReq) (s : State) : State :=
  { s with arb := { s.arb with access := some (anAccess o w) } }

theorem carries (o : Owner) (w : WriteReq) (s : State) : Carries (carrying o w s) o (anAccess o w) := ⟨rfl, rfl, rfl⟩

/-- Any request, for an access whose request does not matter. -/
def w0 : WriteReq := wr 0x011000 7 0 0

/-- A command write without its argument, and one with it. -/
def bare : CmdWrite := { high := 0, arg := none }
def arg (x : Word) : CmdWrite := { high := 0xFFFFFF, arg := some x }

/-- The state after a command. -/
def after (i : Instr) (s : State) : State :=
  match exec i s with
  | .next t => t
  | .fault _ => s
  | .refused _ => s

/-- `n` ungrouped writes. -/
def filler (n : Nat) : List VoiceWrite := List.replicate n { slot := 1, body := .level 0, tag := none }

/-- The state with its voice write queue replaced. -/
def queued (n : Nat) (s : State) : State := { s with voice := { s.voice with queue := filler n } }

/-- A SOUNDING slot of position 5. -/
def sounding5 : SlotRec := { SlotRec.reset with state := .sounding, owner := some 5, level := 100 }

/-- A record of position 5 that sounds slot 0. -/
def rec5 (p : Policy) (sustained : Bool) : HeldRec :=
  { pos := 5, bank := .bankA, snap := { pushProg := some 0, pullProg := some 511, policy := p, transpose := 0 },
    dir := .push, voices := [0], sustained := sustained }

/-- One record with one voice. -/
def oneVoice (op : OpState) (p : Policy := .hold) (sustained : Bool := false) : State :=
  let s := inState op
  { s with eng := { s.eng with
      mirror := s.eng.mirror.set 0 sounding5, free := (List.finRange 64).tail, order := [0]
      counts := s.eng.counts.set 0 1, held := [rec5 p sustained] } }

/-- The slot of `oneVoice` dying away. -/
def dying (frames : Nat) : State :=
  let s := oneVoice .performing
  { s with eng := { s.eng with
      mirror := s.eng.mirror.set 0 { sounding5 with state := .releasing, owner := none, countdown := some 1 }
      held := [], pendingFrames := frames } }

/-- An OPEN group that has written slot 0. -/
def openGroup : Group :=
  { tag := 1, slots := [0], started := [0], notLanded := 1, filling := false, openedAt := 0, late := false }

/-- The state with that group and its write. -/
def grouped (s : State) : State :=
  { s with voice := { s.voice with
      groups := [openGroup], nextTag := 2, queue := [{ slot := 0, body := .state 0, tag := some 1 }] } }

/-- The read of the first two voice records, and the frame start it is. -/
def frameRead : ReadReq := rd 0x011000 7

/-- The T read of the first two voice records in service and at the M-port. -/
def readingFrame (s : State) : State :=
  carrying .tRead { toReadReq := frameRead, mask := 0, data := Tbl.fill 8 0 }
    { s with tone := { s.tone with service := some (.read frameRead), turns := [.request] } }

/-- The same read held READY. -/
def heldFrame (s : State) : State := { s with tone := { s.tone with slot := .ready frameRead (Tbl.fill 8 0) 0 } }

/-- The state with its tracker changed. -/
def holding (n : Nat) (m : Motion) (s : State) : State :=
  { s with bellows := { s.bellows with hold := n, motion := m } }

/-- Requesters that wait: the player port queue, and the snapshot writer with its count. -/
def waiting (n : Nat) : State :=
  { inState .performing with
    player := { writes := [wr 0x2000 0 0xF 0], read := none }
    stat := { Status.reset with snapshot := some { image := statusView State.reset, next := 3 } }
    arb := { Arbiter.reset with snapshot := n } }

/-! ### Ill-formed commands -/

/-- A write of one word with data for a second. -/
def tooLong : WriteReq := { wr 0x2000 0 0xF 7 with data := ⟨[7, 1, 0, 0, 0, 0, 0, 0], rfl⟩ }

theorem test_wf_refuses_p_write_data_beyond_its_length : (Instr.pWrite tooLong).wf = false := by decide
theorem test_wf_refuses_t_write_data_beyond_its_length : (Instr.tWrite tooLong).wf = false := by decide
theorem test_wf_refuses_unknown_opcode_that_names_a_command :
    (Instr.unknownOpcode 1 bare).wf = false ∧ (Instr.unknownOpcode 10 bare).wf = false := by decide
theorem test_wf_accepts_the_others :
    (Instr.pWrite (wr 0x2000 7 0xF 7)).wf = true ∧ (Instr.unknownOpcode 0 bare).wf = true ∧
      (Instr.unknownOpcode 11 bare).wf = true ∧ (Instr.unknownOpcode 255 bare).wf = true := by decide
theorem test_no_word_spells_a_command (n w : Nat) : decodeTableWord n w = none := rfl

/-! ### Single steps and operand forms -/

theorem test_the_example_descriptor_passes_its_checks : d0.check (controlBase 3) = none := by decide +kernel

theorem test_regions_that_overlap_name_the_later_base :
    ({ d0 with mapB := d0.mapA } : Desc).check (controlBase 3) = some 4 ∧
      ({ d0 with holdLimit := 49 } : Desc).check (controlBase 3) = some 14 ∧
      ({ d0 with holdLimit := 50 } : Desc).check (controlBase 3) = none := by decide +kernel

theorem test_linear_wraps_at_the_end_of_the_bus_and_wrap_stays_in_its_block :
    namedAddrs (rd 0xFFFFFC 1) = [0xFFFFFC, 0x000000] ∧
      namedAddrs { rd 0x010218 3 with order := .wrap } = [0x010218, 0x01021C, 0x010200, 0x010204] := by
  decide +kernel

theorem test_map_entry_judgement :
    judgeEntry 0x00000000 = .invalid ∧
      judgeEntry 0xA8180205 = .valid { pushProg := some 5, pullProg := some 0, policy := .repitch, transpose := -24 } ∧
      judgeEntry 0x80300000 = .bad ∧ judgeEntry 0x99000000 = .bad := by decide +kernel

theorem test_levels_round_toward_zero :
    levelOf 128 ((Tbl.fill 9 0).set 1 7) 0 = 3 ∧ levelOf 384 ((Tbl.fill 9 0).set 1 7) 0 = 4 ∧
      levelOf 2047 (Tbl.fill 9 255) 31 = 255 ∧ levelOf 0 (Tbl.fill 9 5) (-32) = 0 := by decide +kernel

theorem test_release_from_held_begins_the_drain_phase :
    (after (.heldRelease true true 3 true) State.reset).ctrl.phase = some .drain ∧
      (after (.heldRelease true false 3 true) State.reset).ctrl.op = .held := by decide +kernel

theorem test_a_press_makes_an_event_once :
    (after (.pWrite (wr 0x010204 0 0b0010 0x00000100)) (inState .performing)).scan.events =
        [{ isPress := true, pos := 5 }] ∧
      (after (.pWrite (wr 0x010204 0 0b0010 0x00000100)) (inState .settling)).scan.events = [] := by
  decide +kernel

theorem test_a_voice_write_by_the_bridge_is_refused_to_the_player :
    (after (.pWrite (wr 0x011000 0 0xF 0)) (inState .performing)).stat.faultLog =
      some { kind := .voiceWrite, port := .portP, addr := 0x011000 } := by decide +kernel

theorem test_an_unmasked_flag_drives_irq :
    irq (after (.pWrite (wr 0x011001 0 0xF 0)) (inState .performing)) = true ∧ irq (inState .performing) = false := by
  decide +kernel

theorem test_a_pull_of_full_scale_is_clamped_and_turns_the_direction :
    (after (.pWrite (wr 0x010300 0 0b0011 0x8000)) (inState .performing)).bellows =
      { magnitude := 2047, motion := .pull, dir := .pull, hold := 2, reversals := 1, notified := 2047,
        revNotice := some .pull, levelNotice := some 2047 } := by decide +kernel

theorem test_the_oldest_waiting_requester_owed_a_grant_is_chosen :
    chosen (waiting 8) = some .snapshot ∧ chosen (waiting 7) = some .player := by decide +kernel

theorem test_frame_expiry_frees_and_writes_free :
    (after .frameExpiry (dying 1)).voice.queue = [{ slot := 0, body := .state 0, tag := none }] ∧
      (after .frameExpiry (dying 1)).eng.free.getLast? = some 0 := by decide +kernel

theorem test_status_words_carry_state_and_bank :
    (statusWords (statusView (inState .performing))).getD 0 0 = 3 ∧
      (statusWords (statusView { inState .settling with ctrl := { (inState .settling).ctrl with bank := .bankB } })).getD
        0 0 = 0x14 := by decide +kernel

/-! ### Witnesses: the hypotheses of the statements, met together -/

theorem witness_StepRunsTheFrontCommand : State.reset.pending = [] := rfl

/-- Both ports busy. -/
def busyPorts : State :=
  { inState .performing with
    player := { writes := [], read := some (rd 0x2000 0) }
    tone := { Tone.reset with service := some (.read frameRead), turns := [.request] } }

theorem witness_HeldIsEnteredAtTheResetValues :
    busyPorts.player.read.isSome = true ∧ busyPorts.tone.service.isSome = true ∧ busyPorts.ctrl.op ≠ .held ∧
      State.reset.ctrl.op = .held := by decide

/-- HELD because of the RESET pin, with the guard lock set. -/
def heldByReset : State :=
  { State.reset with
    pins := { State.reset.pins with resetLow := true, detectorActive := false }
    ctrl := { Control.powerOn with guard := { Guard.powerOn with last := 7, mode := .inside, lock := true } } }

/-- An access whose answer is to be dropped. -/
def leftOver (m : Drop) (o : Owner) : State :=
  let s := inState .transparent
  { s with arb := { s.arb with access := some { anAccess o w0 with drop := m } } }

/-- Every access dropped at entry to HELD or by REINIT stands at the M-port with its mark; the error of a dropped fetch
is logged after REINIT and not after HELD, and a landing without error leaves the port free. -/
theorem witness_DroppedAccessesLand :
    (∀ m o, ∃ a, (leftOver m o).arb.access = some a ∧ a.owner = o ∧ a.drop = m) ∧
    (∀ o ∈ [Owner.fill, .voice, .snapshot, .fetch .argument, .fetch (.entry .bankA 5), .fetch (.program 0),
        .fetch (.reload 7), .fetch (.descriptor 0), .fetch (.sections 3)],
      (after (o.answered true (Tbl.fill 8 0)) (leftOver .held o)).stat.faultCount = 0 ∧
      (after (o.answered true (Tbl.fill 8 0)) (leftOver .reinit o)).stat.faultCount = 1 ∧
      (after (o.answered false (Tbl.fill 8 0)) (leftOver .reinit o)).arb.access = none ∧
      (after (o.answered false (Tbl.fill 8 0)) (leftOver .reinit o)).stat.faultCount = 0) :=
  ⟨fun _ _ => ⟨_, rfl, rfl, rfl⟩, by decide +kernel⟩

theorem witness_HeldReleaseSamplesTheStraps :
    (State.reset.ctrl.op = .held ∧ (true && false) = false ∧ State.reset.pins.detectorActive = true) ∧
      (heldByReset.ctrl.op = .held ∧ (false && true) = false ∧ heldByReset.pins.detectorActive = false) := by decide

theorem test_a_detector_that_becomes_active_in_held_clears_the_guard :
    (after (.heldRelease true false 0 false) heldByReset).ctrl.guard = Guard.powerOn ∧
      (after (.heldRelease false true 0 false) heldByReset).ctrl.guard = heldByReset.ctrl.guard ∧
      (after (.heldRelease true true 0 false) heldByReset).ctrl.guard = heldByReset.ctrl.guard := by decide +kernel

/-- The voice table phase with a write left to push. -/
def rebuilding : State :=
  let s := queued 32 (initIn .voiceTable)
  { s with eng := { s.eng with item := some { kind := .rebuild, wait := .push (.blank 63), jobs := [] } } }

theorem witness_InitPhasesEndWhenTheirWorkIsDone :
    ((initIn .drain).ctrl.phase = some .drain ∧ (initIn .drain).map.fetch = none ∧ (initIn .drain).player.writes = []) ∧
      ({ initIn .drain with player := { writes := [w0], read := none } } : State).player.writes ≠ [] ∧
      ((initIn .voiceTable).ctrl.phase = some .voiceTable ∧ (initIn .voiceTable).eng.item = none ∧
        (initIn .voiceTable).voice.queue = []) ∧
      rebuilding.ctrl.phase = some .voiceTable ∧ rebuilding.eng.item ≠ none ∧
      (queued 1 (initIn .voiceTable)).voice.queue ≠ [] := by decide

theorem witness_DescriptorReadsFollowInOrder :
    (let s := carrying (.fetch (.descriptor 0)) w0 (initIn (.descriptor 0 [] false));
      Carries s (.fetch (.descriptor 0)) (anAccess (.fetch (.descriptor 0)) w0) ∧
        s.ctrl.phase = some (.descriptor 0 [] false) ∧ s.player.writes = []) ∧
      (let s := carrying (.fetch (.descriptor 2)) w0 (initIn (.descriptor 2 (descWords.take 16) true));
        Carries s (.fetch (.descriptor 2)) (anAccess (.fetch (.descriptor 2)) w0) ∧
        s.ctrl.phase = some (.descriptor 2 (descWords.take 16) true) ∧ (2 : Fin 4) ≠ 3 ∧ s.player.writes = []) ∧
      (let s := carrying (.fetch (.descriptor 3)) w0 (initIn (.descriptor 3 (descWords.take 24) false));
        Carries s (.fetch (.descriptor 3)) (anAccess (.fetch (.descriptor 3)) w0) ∧
        s.ctrl.phase = some (.descriptor 3 (descWords.take 24) false) ∧ (false || RamAnswer.error.failed) = true) ∧
      (true || (RamAnswer.done (Tbl.fill 8 0)).failed) = true :=
  ⟨⟨carries _ _ _, rfl, rfl⟩, ⟨carries _ _ _, rfl, by decide, rfl⟩, ⟨carries _ _ _, rfl, rfl⟩, rfl⟩

theorem witness_DescriptorIsCheckedAfterTheFourthRead :
    (let s := carrying (.fetch (.descriptor 3)) w0 (initIn (.descriptor 3 (descWords.take 24) false));
      Carries s (.fetch (.descriptor 3)) (anAccess (.fetch (.descriptor 3)) w0) ∧
        s.ctrl.phase = some (.descriptor 3 (descWords.take 24) false) ∧ s.player.writes = [] ∧
        (Desc.ofWords (descWords.take 24 ++ (Tbl.fill 8 (0 : Word)).cells)).check (controlBase s.ctrl.dsel) = none) ∧
      (Desc.ofWords ([] ++ (Tbl.fill 8 (0 : Word)).cells)).check (controlBase 3) = some 0 :=
  ⟨⟨carries _ _ _, rfl, rfl, by decide +kernel⟩, by decide +kernel⟩

theorem witness_SectionsPhaseInstallsTwoRecordsARead :
    ∀ k ∈ [(0 : Fin 4), 3], ∃ s a, Carries s (.fetch (.sections k)) a ∧ s.ctrl.phase = some (.sections k) ∧
      s.player.writes = [] ∧ s.voice.queue = [] :=
  fun k _ => ⟨carrying (.fetch (.sections k)) w0 (initIn (.sections k)), _, carries _ _ _, rfl, rfl, rfl⟩

/-- The end of INIT with the mark and BOOT given. -/
def initDone (valid boot : Bool) : State :=
  let s := initIn .snapshot
  { s with ctrl := { s.ctrl with valid := valid, boot := boot } }

theorem witness_InitEndsByTheMarkAndBoot :
    (initDone true true).ctrl.op = .init ∧ (initDone true true).ctrl.phase = some .snapshot ∧
      (initDone true true).stat.snapshot = none ∧
      ((initDone true true).ctrl.valid = true ∧ (initDone true true).ctrl.boot = true) ∧
      ¬((initDone true false).ctrl.valid = true ∧ (initDone true false).ctrl.boot = true) ∧
      (initDone false true).ctrl.valid = false := by decide

/-- A command that can be taken in every working state. -/
theorem ready : ∀ op ∈ [OpState.transparent, .performing, .settling], CommandReady (inState op) := by
  intro op hop
  simp only [List.mem_cons, List.not_mem_nil, or_false] at hop
  rcases hop with rfl | rfl | rfl <;> exact ⟨⟨rfl, rfl, by decide⟩, rfl⟩

/-- A command in progress. -/
def inProgress (o : Opcode) : State :=
  let s := inState .performing
  { s with ctrl := { s.ctrl with command := some o } }

/-- TRANSPARENT with an invalid descriptor. -/
def noDescriptor : State :=
  let s := inState .transparent
  { s with ctrl := { s.ctrl with valid := false } }

theorem witness_CommandsAreJudgedInOrder :
    CommandAccepted (inState .transparent) ∧ namesNoCommand 0 = true ∧ namesNoCommand 11 = true ∧
      namesNoCommand 255 = true ∧
      (CommandAccepted (inProgress .ack) ∧ commandOf (.perform bare) = some (1, bare) ∧
        opcodeOf 1 = some .perform ∧ (inProgress .ack).ctrl.command ≠ none) ∧
      (CommandAccepted noDescriptor ∧ commandOf (.swap bare) = some (3, bare) ∧ opcodeOf 3 = some .swap ∧
        noDescriptor.ctrl.command = none ∧ noDescriptor.ctrl.valid = false) := by
  refine ⟨⟨rfl, rfl, by decide⟩, rfl, rfl, rfl, ⟨⟨rfl, rfl, by decide⟩, rfl, rfl, by decide⟩,
    ⟨⟨rfl, rfl, by decide⟩, rfl, rfl, rfl, rfl⟩⟩

/-- A hush pending, and a swap pending. -/
def hushWaiting (op : OpState) (h : HushPending) : State :=
  let s := oneVoice op
  { s with eng := { s.eng with hushPending := h } }

def swapWaiting (op : OpState) (taken : Bool) : State :=
  let s := inState op
  { s with
    ctrl := { s.ctrl with swap := some { mode := .restrike, incoming := .bankB, taken := taken } }
    eng := { s.eng with restrikeWalk := taken } }

/-- The guard with its lock as given. -/
def guardLocked (lock : Bool) : State :=
  let s := inState .performing
  { s with ctrl := { s.ctrl with guard := { s.ctrl.guard with lock := lock } } }

theorem witness_CommandsOutOfPlaceDoNotAct :
    (∀ op ∈ [OpState.transparent, .performing, .settling], CommandReady (inState op) ∧ (inState op).ctrl.valid = true) ∧
      (CommandReady (hushWaiting .transparent .source) ∧ (hushWaiting .transparent .source).eng.hushPending ≠ .clear) ∧
      commandOf (.standbySettle 0 0) = some (2, { high := 0, arg := some 1 }) ∧
      commandOf (.standbyCut 0 0) = some (2, { high := 0, arg := some 2 }) ∧
      (CommandReady (swapWaiting .performing false) ∧ (swapWaiting .performing false).ctrl.swap ≠ none ∧
        swapModeOf 1 = some .latch) ∧
      (fieldAt 0 0 2 = 0 ∧ fieldAt 3 0 2 = 3 ∧ 2 ≤ fieldAt 2 0 2 ∧ 2 ≤ fieldAt 3 0 2) ∧
      (CommandReady (guardLocked false) ∧ (guardLocked false).ctrl.guard.lock = false ∧ fieldAt 0x30000 16 2 = 3 ∧
        fieldAt 0x0001 8 8 < fieldAt 0x0001 0 8) ∧
      CommandReady (guardLocked true) ∧ (guardLocked true).ctrl.guard.lock = true := by
  refine ⟨fun op hop => ⟨ready op hop, rfl⟩, ⟨⟨⟨rfl, rfl, by decide⟩, rfl⟩, by decide⟩, rfl, rfl,
    ⟨⟨⟨rfl, rfl, by decide⟩, rfl⟩, by decide, rfl⟩, by decide, ⟨⟨⟨rfl, rfl, by decide⟩, rfl⟩, rfl, by decide, by decide⟩,
    ⟨⟨rfl, rfl, by decide⟩, rfl⟩, rfl⟩

theorem witness_PerformEntersPerforming :
    CommandReady (inState .transparent) ∧ (inState .transparent).ctrl.valid = true ∧
      (inState .transparent).ctrl.op = .transparent ∧ (inState .transparent).eng.hushPending = .clear ∧
      itemIsHush (inState .transparent).eng = false :=
  ⟨⟨⟨rfl, rfl, by decide⟩, rfl⟩, rfl, rfl, rfl, rfl⟩

theorem witness_StandbySettleEntersSettling :
    CommandReady (swapWaiting .performing true) ∧ (swapWaiting .performing true).ctrl.valid = true ∧
      (swapWaiting .performing true).ctrl.op = .performing ∧
      commandOf (.standbySettle 0 0) = some (2, { high := 0, arg := some 1 }) :=
  ⟨⟨⟨rfl, rfl, by decide⟩, rfl⟩, rfl, rfl, rfl⟩

/-- A swap pending with a write into its bank queued. -/
def swapHeldUp (op : OpState) : State :=
  { swapWaiting op false with player := { writes := [wr 0x010800 0 0xF 0], read := none } }

theorem witness_StandbyCutHushesAndEntersTransparent :
    (CommandReady (inState .performing) ∧ (inState .performing).ctrl.valid = true ∧
      (inState .performing).ctrl.op = .performing ∧ (inState .performing).ctrl.swap = none ∧
      commandOf (.standbyCut 0 0) = some (2, { high := 0, arg := some 2 })) ∧
    (CommandReady (swapWaiting .performing false) ∧
      holdsBank (after (.standbyCut 0 0) (swapWaiting .performing false)) .bankB = false) ∧
    CommandReady (swapHeldUp .performing) ∧
      holdsBank (after (.standbyCut 0 0) (swapHeldUp .performing)) .bankB = true :=
  ⟨⟨⟨⟨rfl, rfl, by decide⟩, rfl⟩, rfl, rfl, rfl, rfl⟩, ⟨⟨⟨rfl, rfl, by decide⟩, rfl⟩, by decide +kernel⟩,
    ⟨⟨rfl, rfl, by decide⟩, rfl⟩, by decide +kernel⟩

/-- TRANSPARENT with a write into bank B queued. -/
def bankBQueued : State :=
  { inState .transparent with player := { writes := [wr 0x010BFC 0 0xF 0], read := none } }

theorem witness_SwapWaitsOrTakesEffect :
    (CommandReady (inState .performing) ∧ swapModeOf 1 = some .latch ∧ swapModeOf 2 = some .restrike ∧
      (inState .performing).ctrl.swap = none ∧ (inState .performing).eng.restrikeWalk = false ∧
      (inState .performing).ctrl.op ≠ .transparent) ∧
    (CommandReady bankBQueued ∧ holdsBank (after (.swap (arg 1)) bankBQueued) .bankB = true) ∧
    CommandReady (inState .transparent) ∧ holdsBank (after (.swap (arg 1)) (inState .transparent)) .bankB = false :=
  ⟨⟨⟨⟨rfl, rfl, by decide⟩, rfl⟩, rfl, rfl, rfl, rfl, by decide⟩, ⟨⟨⟨rfl, rfl, by decide⟩, rfl⟩, by decide +kernel⟩,
    ⟨⟨rfl, rfl, by decide⟩, rfl⟩, by decide +kernel⟩

theorem witness_PanicAnnouncesAHush :
    CommandAccepted (inProgress .standby) ∧ (inProgress .standby).ctrl.valid = true :=
  ⟨⟨rfl, rfl, by decide⟩, rfl⟩

theorem witness_SustainSetsItsFlag :
    (∀ op ∈ [OpState.transparent, .performing, .settling], CommandReady (inState op) ∧ (inState op).ctrl.valid = true) ∧
      fieldAt 0 0 2 ≤ 1 ∧ fieldAt 1 0 2 ≤ 1 :=
  ⟨fun op hop => ⟨ready op hop, rfl⟩, by decide, by decide⟩

theorem witness_GuardAndGuardLockSetTheGuard :
    CommandReady (guardLocked false) ∧ (guardLocked false).ctrl.guard.lock = false ∧
      (guardModeOf 0x1FF00 = some .inside ∧ fieldAt 0x1FF00 0 8 ≤ fieldAt 0x1FF00 8 8) ∧
      (guardModeOf 0x2FFFF = some .outside ∧ fieldAt 0x2FFFF 0 8 ≤ fieldAt 0x2FFFF 8 8) ∧
      guardModeOf 0 = some .off ∧ CommandReady (guardLocked true) :=
  ⟨⟨⟨rfl, rfl, by decide⟩, rfl⟩, rfl, by decide, by decide, rfl, ⟨⟨rfl, rfl, by decide⟩, rfl⟩⟩

theorem witness_AckClearsTheFlagsOfItsMask :
    CommandReady noDescriptor ∧ (arg 0x7F).arg = some 0x7F ∧
      Carries (carrying (.fetch .argument) w0 (inProgress .ack)) (.fetch .argument) (anAccess (.fetch .argument) w0) ∧
      (carrying (.fetch .argument) w0 (inProgress .ack)).ctrl.command = some .ack :=
  ⟨⟨⟨rfl, rfl, by decide⟩, rfl⟩, rfl, carries _ _ _, rfl⟩

theorem witness_ReinitBeginsInitAndKeepsTheLogs :
    CommandAccepted (inProgress .swap) ∧
      (let s := { inState .performing with tone := busyPorts.tone };
        CommandAccepted s ∧ s.tone.service ≠ none ∧ toneGranted s.arb.access = false) ∧
      CommandAccepted (readingFrame (inState .performing)) ∧
        toneGranted (readingFrame (inState .performing)).arb.access = true :=
  ⟨⟨rfl, rfl, by decide⟩, ⟨⟨rfl, rfl, by decide⟩, by decide, rfl⟩, ⟨rfl, rfl, by decide⟩, rfl⟩

/-- A fetch in flight. -/
def fetching (k : FetchKind) (overtaken : Bool) (s : State) : State :=
  { s with map := { s.map with fetch := some { kind := k, overtaken := overtaken, first := none } } }

theorem witness_FlushEmptiesTheMapCache :
    CommandReady (fetching (.entry .bankA 0) false (inState .performing)) ∧
      (fetching (.entry .bankA 0) false (inState .performing)).map.fetch.isSome = true ∧
      CommandReady (fetching (.program 511) false (inState .performing)) ∧ ∀ b p, FetchKind.program 511 ≠ .entry b p :=
  ⟨⟨⟨rfl, rfl, by decide⟩, rfl⟩, rfl, ⟨⟨rfl, rfl, by decide⟩, rfl⟩, fun _ _ h => by cases h⟩

theorem controlLaw_working : ∀ op ∈ [OpState.transparent, .performing, .settling], ControlLaw (inState op) := by
  intro op hop
  simp only [List.mem_cons, List.not_mem_nil, or_false] at hop
  unfold ControlLaw
  rcases hop with rfl | rfl | rfl <;> decide +kernel

theorem witness_PinsMoveHushAndEffectiveSustain :
    (ControlLaw State.reset ∧ State.reset.ctrl.op = .held) ∧
      (ControlLaw (inState .performing) ∧ (inState .performing).ctrl.op ≠ .held ∧
        (inState .performing).ctrl.op.working = true ∧ (inState .performing).ctrl.valid = true ∧
        (inState .performing).ctrl.copy.hushEnable = true ∧ (inState .performing).ctrl.hushReading = false) := by
  refine ⟨⟨by unfold ControlLaw; decide +kernel, rfl⟩, controlLaw_working _ (by decide), by decide, rfl, rfl, by decide +kernel, rfl⟩

theorem witness_RequestsOutsideTheWorkingStatesAreDeferred :
    (State.reset.ctrl.op = .held ∧ State.reset.player.read = none ∧ State.reset.tone.service = none) ∧
      (initIn .drain).ctrl.op = .init ∧ (initIn .drain).player.read = none ∧ (initIn .drain).tone.service = none ∧
      commandOf (.reinit bare) = some (9, bare) := by decide

theorem open_in : ∀ op ∈ [OpState.transparent, .performing, .settling], POpen (inState op) ∧ TOpen (inState op) := by
  intro op hop
  simp only [List.mem_cons, List.not_mem_nil, or_false] at hop
  rcases hop with rfl | rfl | rfl <;> exact ⟨⟨rfl, rfl⟩, rfl, rfl⟩

theorem witness_BadFormIsRefusedBeforeAnyRegion :
    POpen noDescriptor ∧ TOpen noDescriptor ∧ (wr 0x011001 0 0xF 0).start.toNat % 4 ≠ 0 ∧
      ((wr 0x011000 1 0x7 0).more ≠ 0 ∧ (wr 0x011000 1 0x7 0).mask ≠ 0xF) ∧
      ((wr 0x011000 7 0x0 0).more ≠ 0 ∧ (wr 0x011000 7 0x0 0).mask ≠ 0xF) ∧ (rd 0xFFFFFF 0).start.toNat % 4 ≠ 0 :=
  ⟨⟨rfl, rfl⟩, ⟨rfl, rfl⟩, by decide, by decide, by decide, by decide⟩

theorem witness_TheFirstRefusedWordDecides :
    (POpen (inState .performing) ∧ TOpen (inState .performing)) ∧ badForm (wr 0x010FFC 1 0xF 0) = false ∧
      firstRefused (refusesPWrite (inState .performing).ctrl) (namedAddrs (wr 0x010FFC 1 0xF 0).toReadReq) =
        some (.voiceWrite, 0x011000) ∧
      firstRefused (refusesTWrite (inState .performing).ctrl) (namedAddrs (wr 0x0101FC 7 0xF 0).toReadReq) =
        some (.controlWrite, 0x010200) ∧
      badStart (rd 0x0FFFFC 7).start = false ∧
      firstRefused (refusesRead (inState .performing).ctrl) (namedAddrs (rd 0x0FFFFC 7)) = some (.beyondTop, 0x100000) :=
  ⟨open_in _ (by decide), by decide +kernel, by decide +kernel, by decide +kernel, by decide +kernel,
    by decide +kernel⟩

theorem witness_RefusalsFollowTheAreasAndTheGuard :
    (controlBase 3 = 0xF0000 ∧ (0xF0000 : Nat) < 0xF0088 ∧ (0xF0100 : Nat) ≤ 0xF017C) ∧
      (∀ a ∈ [(0xF0088 : Nat), 0xF00FC], controlBase 3 + 0x088 ≤ a ∧ a < controlBase 3 + 0x100) ∧
      (∀ a ∈ [(0xF0180 : Nat), 0xF01FC], controlBase 3 + 0x180 ≤ a ∧ a < controlBase 3 + 0x200) ∧
      (∀ a ∈ [(0 : Nat), 0x0101FC, 0x010C80, 0x011400, 0x020000, 0xEFFFC, 0xF0200, 0xFFFFC],
        a < (inState .performing).ctrl.copy.top ∧ (a < controlBase 3 ∨ controlBase 3 + 512 ≤ a) ∧
        ∀ r ∈ [((0x010200 : Nat), 512), (0x010400, 1024), (0x010800, 1024), (0x018000, 32768), (0x010C00, 128),
          (0x011000, 1024)], a < r.1 ∨ r.1 + r.2 ≤ a) ∧
      noDescriptor.ctrl.valid = false ∧
      ((inState .performing).ctrl.valid = true ∧
        (inState .performing).ctrl.copy.check (controlBase (inState .performing).ctrl.dsel) = none ∧
        (inState .performing).ctrl.copy.top = 0x100000 ∧ (inState .performing).ctrl.copy.scan = 0x010200 ∧
        (inState .performing).ctrl.copy.programs = 0x018000 ∧ (inState .performing).ctrl.copy.sections = 0x010C00 ∧
        (inState .performing).ctrl.copy.voices = 0x011000) := by decide +kernel

/-- A full P write queue, and a full event queue. -/
def fullQueue : State := { inState .performing with player := { writes := List.replicate 8 (wr 0x2000 0 0xF 0), read := none } }

def fullEvents : State :=
  { inState .performing with
    scan := { Scan.reset with events := List.replicate 32 { isPress := true, pos := 0 } } }

theorem witness_PWritesArePostedOrDeferred :
    (POpen fullQueue ∧ badForm (wr 0x2000 7 0xF 0) = false ∧
      firstRefused (refusesPWrite fullQueue.ctrl) (namedAddrs (wr 0x2000 7 0xF 0).toReadReq) = none ∧
      8 ≤ fullQueue.player.writes.length) ∧
    (POpen fullEvents ∧ fullEvents.player.writes.length < 8 ∧ badForm (wr 0x010200 0 0x2 0x100) = false ∧
      firstRefused (refusesPWrite fullEvents.ctrl) (namedAddrs (wr 0x010200 0 0x2 0x100).toReadReq) = none ∧
      32 - fullEvents.scan.events.length < eventCount fullEvents.ctrl.op (hushPinActive fullEvents.ctrl) fullEvents.scan
        (buttonChanges fullEvents.ctrl.copy (partOf fullEvents.ctrl .scan (namedWords (wr 0x010200 0 0x2 0x100))))) ∧
    (PAccepts (inState .performing) (wr 0x0F01F8 1 0xF 0) ∧ TakesNoCommand (inState .performing) (wr 0x0F01F8 1 0xF 0)) ∧
      (∀ a ∈ namedAddrs (wr 0x0F01F8 1 0xF 0).toReadReq, areaOf (inState .performing).ctrl a ∈
        [Area.descriptor, .command, .spareLow, .spareHigh, .programs, .ram, .other]) := by
  refine ⟨⟨⟨rfl, rfl⟩, by decide +kernel, by decide +kernel, by decide⟩,
    ⟨⟨rfl, rfl⟩, by decide, by decide +kernel, by decide +kernel, by decide +kernel⟩,
    ⟨⟨⟨rfl, rfl⟩, by decide +kernel, by decide +kernel, by decide, by decide +kernel⟩,
      by unfold TakesNoCommand; decide +kernel⟩, fun a ha => ?_⟩
  exact of_decide_eq_true (List.all_eq_true.mp (by decide +kernel :
    (namedAddrs (wr 0x0F01F8 1 0xF 0).toReadReq).all (fun a => decide (areaOf (inState .performing).ctrl a ∈
      [Area.descriptor, .command, .spareLow, .spareHigh, .programs, .ram, .other])) = true) a ha)

/-- ACK with its mask, written by a wrapping burst of 8 words whose last is word 0 of the command slot. -/
def ackBurst : WriteReq := burst 0x0F0084 7 .wrap ⟨[0x7F, 0, 0, 0, 0, 0, 0, 8], rfl⟩

/-- The command slot written without all four bytes of its word 0: not at all, in part, and beside the descriptor. -/
def slotWrites : List WriteReq :=
  [wr 0x0F0080 0 0x7 5, wr 0x0F0080 0 0x0 5, wr 0x0F0084 0 0xF 5, burst 0x0F0084 0 .wrap (Tbl.fill 8 0)]

theorem witness_CommandSlotWrites :
    (∀ w ∈ slotWrites, PAccepts (inState .performing) w ∧ TakesNoCommand (inState .performing) w ∧
      (namedAddrs w.toReadReq).all (fun a => decide (areaOf (inState .performing).ctrl a = .command)) = true) ∧
    (PAccepts (inState .performing) ackBurst ∧
      (∃ x ∈ namedWords ackBurst, x.addr = BitVec.ofNat 24 (controlBase (inState .performing).ctrl.dsel + 0x80) ∧
        x.mask = 0xF ∧ x.data = 8) ∧
      some (0x7F : Word) = ((namedWords ackBurst).find? fun y =>
        decide (y.addr = BitVec.ofNat 24 (controlBase (inState .performing).ctrl.dsel + 0x84))).map (·.data)) ∧
    PAccepts (inState .performing) (wr 0x0F0080 0 0xF 5) ∧
      (∃ x ∈ namedWords (wr 0x0F0080 0 0xF 5),
        x.addr = BitVec.ofNat 24 (controlBase (inState .performing).ctrl.dsel + 0x80) ∧ x.mask = 0xF ∧ x.data = 5) ∧
      none = ((namedWords (wr 0x0F0080 0 0xF 5)).find? fun y =>
        decide (y.addr = BitVec.ofNat 24 (controlBase (inState .performing).ctrl.dsel + 0x84))).map (·.data) := by
  unfold PAccepts POpen TakesNoCommand
  decide +kernel

theorem witness_CommandSlotWrites_name_their_commands :
    (ControlLaw (inState .performing) ∧
      commandOf (.ack { high := 0, arg := some 0x7F }) = some (8, { high := 0, arg := some 0x7F })) ∧
      commandOf (.sustain bare) = some (5, bare) ∧ (8 : Word) = (0 : BitVec 24) ++ (8 : Byte) ∧
      (5 : Word) = (0 : BitVec 24) ++ (5 : Byte) :=
  ⟨⟨controlLaw_working _ (by decide), rfl⟩, rfl, by decide, by decide⟩

theorem test_a_burst_over_the_command_slot_takes_its_command :
    let t := after (.pWrite ackBurst) (inState .performing)
    let u := after (.ack { high := 0, arg := some 0x7F }) (inState .performing)
    t.stat.cmdCount = 1 ∧ t.stat.lastOpcode = 8 ∧ t.stat.result = .done ∧ u.stat.cmdCount = 1 ∧
      u.stat.lastOpcode = 8 ∧ u.stat.result = .done := by decide +kernel

/-- Writes into SCAN: whole words and single bytes of buttons, a burst that wraps, one that begins in RAM, one over the
last buttons and the bellows word, one that goes on in MAP_A. -/
def scanWrites : List WriteReq :=
  [wr 0x010200 0 0xF 0x01010101, wr 0x010274 0 0x2 0x100, burst 0x010218 3 .wrap (Tbl.fill 8 1),
    burst 0x0101F8 3 .linear (Tbl.fill 8 1), burst 0x0102FC 1 .linear (Tbl.fill 8 0x8000),
    burst 0x0103F8 3 .linear (Tbl.fill 8 0x80000200)]

theorem witness_ButtonBytesMoveTheDownImage :
    (∀ s ∈ [inState .performing, inState .settling, inState .transparent, noDescriptor], ∀ w ∈ scanWrites,
      PAccepts s w ∧ TakesNoCommand s w) ∧
    (∀ w ∈ scanWrites, ∃ x ∈ namedWords w, areaOf (inState .performing).ctrl x.addr = .scan) ∧
    (PAccepts (inState .performing) (wr 0x2000 7 0xF 0) ∧ TakesNoCommand (inState .performing) (wr 0x2000 7 0xF 0) ∧
      ∀ x ∈ namedWords (wr 0x2000 7 0xF 0), areaOf (inState .performing).ctrl x.addr ≠ .scan) ∧
    (buttonByte (inState .performing) (wr 0x010200 0 0xF 0x01010101) 3 = some 1 ∧
      buttonByte (inState .performing) (wr 0x010200 0 0xF 0x01010101) 4 = none ∧
      buttonByte (inState .performing) (wr 0x010274 0 0x2 0x100) 117 = some 1 ∧
      buttonByte (inState .performing) (wr 0x010274 0 0x2 0x100) 116 = none ∧
      buttonByte (inState .performing) (burst 0x010218 3 .wrap (Tbl.fill 8 1)) 4 = some 1 ∧
      buttonByte (inState .performing) (burst 0x010218 3 .wrap (Tbl.fill 8 1)) 5 = some 0 ∧
      buttonByte (inState .performing) (burst 0x0102FC 1 .linear (Tbl.fill 8 0x8000)) 253 = none) := by
  unfold PAccepts POpen TakesNoCommand
  decide +kernel

/-- The events of a burst join the queue in ascending position order, not in the burst's. -/
theorem test_events_of_a_wrapping_burst_ascend :
    ((after (.pWrite (burst 0x010218 3 .wrap (Tbl.fill 8 1))) (inState .performing)).scan.events.map (·.pos)) =
      [0, 4, 24, 28] := by decide +kernel

/-- Writes that name the bellows word: with both bytes, alone and in bursts; with one byte or none. -/
def bellowsWrites : List WriteReq :=
  [wr 0x010300 0 0x3 0x8000, wr 0x010300 0 0xF 0x8000, burst 0x0102FC 1 .linear (Tbl.fill 8 0x8000),
    burst 0x010304 7 .wrap (Tbl.fill 8 0x0040)]

def halfBellowsWrites : List WriteReq :=
  [wr 0x010300 0 0x1 0x80, wr 0x010300 0 0x2 0x8000, wr 0x010300 0 0xC 0x8000]

theorem witness_TheBellowsWordIsASample :
    (∀ w ∈ bellowsWrites ++ halfBellowsWrites, PAccepts (inState .performing) w ∧ TakesNoCommand (inState .performing) w) ∧
    (∀ w ∈ bellowsWrites, ∃ x ∈ namedWords w, areaOf (inState .performing).ctrl x.addr = .scan ∧
      x.addr.toNat = (inState .performing).ctrl.copy.scan.toNat + 256 ∧ x.mask.getLsbD 0 = true ∧
      x.mask.getLsbD 1 = true) ∧
    (∀ w ∈ halfBellowsWrites, ∃ x ∈ namedWords w, areaOf (inState .performing).ctrl x.addr = .scan) ∧
    (∀ w ∈ halfBellowsWrites ++ [wr 0x010200 0 0xF 1, wr 0x2000 0 0xF 0], ∀ x ∈ namedWords w,
      areaOf (inState .performing).ctrl x.addr = .scan →
      x.addr.toNat = (inState .performing).ctrl.copy.scan.toNat + 256 →
      ¬(x.mask.getLsbD 0 = true ∧ x.mask.getLsbD 1 = true)) := by
  unfold PAccepts POpen TakesNoCommand
  decide +kernel

theorem test_half_a_bellows_word_is_no_sample :
    ∀ w ∈ halfBellowsWrites,
      (after (.pWrite w) { inState .performing with scan := { Scan.reset with silence := 7 } }).bellows =
        (inState .performing).bellows ∧
      (after (.pWrite w) { inState .performing with scan := { Scan.reset with silence := 7 } }).scan.silence = 0 := by
  decide +kernel

/-- Writes over the map and SECTIONS: one word, a burst over the border of the two banks, one over SCAN and MAP_A, one
over two section records, one that wraps in a record's block, one over the end of SECTIONS. -/
def mapWrites : List WriteReq :=
  [wr 0x010400 0 0xF 0, wr 0x010BFC 0 0x1 0, wr 0x010C00 0 0xF 0, wr 0x010C7C 0 0x8 0,
    burst 0x0107F8 3 .linear (Tbl.fill 8 0), burst 0x0103F8 3 .linear (Tbl.fill 8 0),
    burst 0x010C0C 1 .linear (Tbl.fill 8 0), burst 0x010C1C 7 .wrap (Tbl.fill 8 0),
    burst 0x010C7C 1 .linear (Tbl.fill 8 0)]

theorem witness_MapAndSectionWritesReachTheCaches :
    (∀ w ∈ mapWrites ++ slotWrites, PAccepts (inState .performing) w ∧ TakesNoCommand (inState .performing) w) ∧
    (∀ w ∈ mapWrites.eraseIdx 5, ∀ x ∈ namedWords w, areaOf (inState .performing).ctrl x.addr ≠ .scan) ∧
    (let w := burst 0x0107F8 3 .linear (Tbl.fill 8 0);
      namesEntry (inState .performing) w .bankA 255 = true ∧ namesEntry (inState .performing) w .bankA 253 = false ∧
        namesEntry (inState .performing) w .bankB 0 = true ∧ namesEntry (inState .performing) w .bankB 2 = false) ∧
    (∀ k, namesSection (inState .performing) (burst 0x010C0C 1 .linear (Tbl.fill 8 0)) k = decide (k = 0 ∨ k = 1)) ∧
    (∀ k, namesSection (inState .performing) (burst 0x010C1C 7 .wrap (Tbl.fill 8 0)) k = decide (k = 0 ∨ k = 1)) ∧
    (∀ k, namesSection (inState .performing) (burst 0x010C7C 1 .linear (Tbl.fill 8 0)) k = decide (k = 7)) := by
  unfold PAccepts POpen TakesNoCommand
  decide +kernel

/-- A record named by several words of one write is marked once: a reload that runs is asked for once more, and one that
has not begun is not. -/
theorem test_a_burst_over_a_section_record_marks_it_once :
    let w := burst 0x010C00 3 .linear (Tbl.fill 8 0)
    ((after (.pWrite w) (inState .performing)).map.sects.get 0).mark = .set ∧
      ((after (.pWrite w) (fetching (.reload 0) false (after (.pWrite w) (inState .performing)))).map.sects.get 0).mark =
        .setAgain := by
  decide +kernel

/-- A snapshot in flight at its `k`-th access. -/
def snapshotting (k : Fin 4) : State :=
  let s := carrying .snapshot w0 (inState .performing)
  { s with stat := { s.stat with snapshot := some { image := statusView s, next := k } } }

theorem witness_TheStatusRecordIsReadThroughSnapshots :
    (POpen (inState .performing) ∧ badStart (rd 0x0F017C 0).start = false ∧
      firstRefused (refusesRead (inState .performing).ctrl) (namedAddrs (rd 0x0F017C 0)) = none ∧
      (∃ a ∈ namedAddrs (rd 0x0F017C 0), areaOf (inState .performing).ctrl a = .status) ∧
      (inState .performing).stat.stale = true ∧ (inState .performing).stat.freshPass = false ∧
      (inState .performing).stat.snapshot = none) ∧
    (snapshotting 0).stat.snapshot ≠ none ∧
    (POpen (inState .performing) ∧ badStart (rd 0x0F0180 0).start = false ∧
      firstRefused (refusesRead (inState .performing).ctrl) (namedAddrs (rd 0x0F0180 0)) = none ∧
      ¬∃ a ∈ namedAddrs (rd 0x0F0180 0), areaOf (inState .performing).ctrl a = .status) ∧
    ∀ k ∈ [(0 : Fin 4), 3], ∃ a n, Carries (snapshotting k) .snapshot a ∧ (snapshotting k).stat.snapshot = some n ∧
      n.next = k :=
  ⟨⟨⟨rfl, rfl⟩, by decide +kernel, by decide +kernel, ⟨0x0F017C, by decide +kernel, by decide +kernel⟩, rfl, rfl, rfl⟩,
    by simp [snapshotting],
    ⟨⟨rfl, rfl⟩, by decide +kernel, by decide +kernel, fun ⟨a, ha, hs⟩ => by
      have hn : (namedAddrs (rd 0x0F0180 0)).all (fun a => decide (areaOf (inState .performing).ctrl a ≠ .status)) = true := by
        decide +kernel
      exact of_decide_eq_true (List.all_eq_true.mp hn a ha) hs⟩,
    fun k _ => ⟨_, _, ⟨rfl, rfl, rfl⟩, rfl, rfl⟩⟩

/-- The held-read slot in a condition of its own, beside an OPEN group. -/
def holdingRead (x : HeldRead) : State :=
  let s := grouped (inState .performing)
  { s with tone := { s.tone with slot := x } }

theorem witness_TheGateDecidesTReads :
    (∀ x : HeldRead, TOpen (holdingRead x)) ∧ badStart frameRead.start = false ∧
      firstRefused (refusesRead (inState .performing).ctrl) (namedAddrs frameRead) = none ∧
      namesArea (inState .performing).ctrl .voices frameRead = true ∧
      (isFrameStart (inState .performing).ctrl (rd 0x011004 7) = false ∧
        namesArea (inState .performing).ctrl .voices (rd 0x011004 7) = true) ∧
      (latched (holdingRead .vacant).tone.slot ≠ some frameRead ∧ touchesOpen (holdingRead .vacant) frameRead = true) ∧
      touchesOpen (holdingRead .vacant) (rd 0x011010 7) = false ∧
      namesArea (inState .performing).ctrl .voices (rd 0x2000 0) = false ∧
      (badForm (wr 0x2000 7 0xF 0) = false ∧
        firstRefused (refusesTWrite (inState .performing).ctrl) (namedAddrs (wr 0x2000 7 0xF 0).toReadReq) = none) :=
  ⟨fun _ => ⟨rfl, rfl⟩, by decide +kernel, by decide +kernel, by decide +kernel, by decide +kernel,
    ⟨by decide, by decide +kernel⟩, by decide +kernel, by decide +kernel, by decide +kernel⟩

theorem witness_TheGrantFollowsThePassOverCounts :
    ((carrying .pRead w0 State.reset).arb.access = some (anAccess .pRead w0)) ∧
      (State.reset.arb.access = none ∧ ∀ r ∈ fixedOrder, waits State.reset r = false) ∧
      ((waiting 8).arb.access = none ∧ waits (waiting 8) .snapshot = true ∧ (waiting 8).arb.count .snapshot = 8 ∧
        ∀ r ∈ fixedOrder.takeWhile (fun r => decide (r ≠ .snapshot)),
          ¬(waits (waiting 8) r = true ∧ (waiting 8).arb.count r = 8)) ∧
      ((waiting 7).arb.access = none ∧ waits (waiting 7) .player = true ∧
        (∀ r ∈ fixedOrder, waits (waiting 7) r = true → (waiting 7).arb.count r ≠ 8) ∧
        ∀ r ∈ fixedOrder.takeWhile (fun r => decide (r ≠ .player)), waits (waiting 7) r = false) ∧
      CommandAccepted (inState .performing) :=
  ⟨rfl, by decide +kernel, by decide +kernel, by decide +kernel, rfl, rfl, by decide⟩

/-- A swap that waits in TRANSPARENT for the write at the M-port. -/
def swapLanding (taken : Bool) : State :=
  carrying .pWrite (wr 0x010800 0 0xF 0)
    { swapWaiting .transparent taken with player := { writes := [wr 0x010800 0 0xF 0], read := none } }

/-- An argument that waits for `n` writes. -/
def argAhead (n : Nat) : State :=
  let s := carrying .pWrite (wr 0x2000 0 0xF 0) (inProgress .ack)
  { s with
    ctrl := { s.ctrl with argAhead := n }
    player := { writes := List.replicate n (wr 0x2000 0 0xF 0), read := none } }

theorem witness_PWritesLeaveTheQueueWhenTheyLand :
    (Carries (swapLanding false) .pWrite (anAccess .pWrite (wr 0x010800 0 0xF 0)) ∧
      (swapLanding false).ctrl.swap.isSome = true ∧ (swapLanding false).ctrl.op = .transparent ∧
      namedBank (swapLanding false).ctrl .bankB (wr 0x010800 0 0xF 0) = true ∧
      holdsBank (after (.pWriteLands .done) (swapLanding false)) .bankB = false) ∧
    Carries (swapLanding true) .pWrite (anAccess .pWrite (wr 0x010800 0 0xF 0)) ∧
    ∀ n ∈ [1, 2, 8], Carries (argAhead n) .pWrite (anAccess .pWrite (wr 0x2000 0 0xF 0)) ∧
      (argAhead n).ctrl.command.isSome = true ∧ (argAhead n).ctrl.argRead = .none ∧ (argAhead n).ctrl.swap = none :=
  ⟨⟨carries _ _ _, rfl, rfl, by decide +kernel, by decide +kernel⟩, carries _ _ _,
    fun _ _ => ⟨⟨rfl, rfl, rfl⟩, rfl, rfl, rfl⟩⟩

theorem witness_PassThroughAccessesAreAnswered :
    Carries (carrying .pRead w0 (inState .performing)) .pRead (anAccess .pRead w0) ∧
      Carries (carrying .tWrite w0 (inState .performing)) .tWrite (anAccess .tWrite w0) ∧
      Carries (carrying .tRead (wr 0x2000 0 0 0) (inState .performing)) .tRead (anAccess .tRead (wr 0x2000 0 0 0)) ∧
      isFrameStart (inState .performing).ctrl (wr 0x2000 0 0 0).toReadReq = false :=
  ⟨carries _ _ _, carries _ _ _, carries _ _ _, by decide +kernel⟩

theorem witness_GroupsCloseAndTurnLate :
    (Carries (carrying .voice w0 (grouped (inState .performing))) .voice (anAccess .voice w0) ∧
      (carrying .voice w0 (grouped (inState .performing))).voice.queue =
        { slot := 0, body := .state 0, tag := some 1 } :: []) ∧
    (grouped (inState .performing)).voice.groups = [] ++ openGroup :: [] ∧ openGroup.late = false ∧
      ∀ h ∈ ([] : List Group), h.late = true :=
  ⟨⟨carries _ _ _, rfl⟩, rfl, rfl, by simp⟩

theorem witness_TheHeldReadFillsAndIsDiscarded :
    (let s := carrying .fill w0 { inState .performing with
        tone := { Tone.reset with slot := .filling frameRead, fill := .live, turns := [.fill] } };
      Carries s .fill (anAccess .fill w0) ∧ s.tone.slot = .filling frameRead) ∧
    (let s := carrying .fill w0 (holdingRead (.waiting frameRead));
      Carries s .fill (anAccess .fill w0) ∧ s.tone.slot = .waiting frameRead ∧ touchesOpen s frameRead = true) ∧
    (heldFrame (inState .performing)).tone.slot = .ready frameRead (Tbl.fill 8 0) 0 :=
  ⟨⟨carries _ _ _, rfl⟩, ⟨carries _ _ _, rfl, by decide +kernel⟩, rfl⟩

/-- A press that waits for its entry, and one that waits for its program. -/
def pressEntering (p : Pos) (overtaken : Bool) : State :=
  let s := fetching (.entry .bankB p) overtaken (carrying (.fetch (.entry .bankB p)) w0 (inState .performing))
  { s with eng := { s.eng with item := some { kind := .press p, wait := .entry .bankB p, jobs := [] } } }

theorem witness_MapEntriesAreInstalledAndHandedOver :
    (∀ p ∈ [(0 : Pos), 255], ∀ o ∈ [false, true], Carries (pressEntering p o) (.fetch (.entry .bankB p))
        (anAccess (.fetch (.entry .bankB p)) w0) ∧
      (pressEntering p o).map.fetch = some { kind := .entry .bankB p, overtaken := o, first := none } ∧
      (pressEntering p o).eng.item = some { kind := .press p, wait := .entry .bankB p, jobs := [] } ∧
      findRec (pressEntering p o).eng p = none ∧ (pressEntering p o).eng.held.length < 32 ∧
      (pressEntering p o).eng.awaitDiscard = false) ∧
    judgeEntry ((Tbl.fill 8 (0x80300000 : Word)).get 0) = .bad ∧ judgeEntry ((Tbl.fill 8 (0 : Word)).get 0) ≠ .bad :=
  ⟨fun _ _ _ _ => ⟨⟨rfl, rfl, rfl⟩, rfl, rfl, rfl, (by decide : (0 : Nat) < 32), rfl⟩, by decide +kernel,
    by decide +kernel⟩

/-- A restrike step of the record of position 5 that waits for its entry, in bank B. -/
def restrikeEntering (d : Bool) : State :=
  let s := queued 31 (oneVoice .performing)
  let s := fetching (.entry .bankB 5) false (carrying (.fetch (.entry .bankB 5)) w0 s)
  { s with
    ctrl := { s.ctrl with bank := .bankB }
    eng := { s.eng with
      awaitDiscard := d, item := some { kind := .restrikeStep 5, wait := .entry .bankB 5, jobs := [] } } }

/-- An entry fetch of position 9 whose answer is awaited for discard, and the item given. -/
def discarding (it : Option Item) : State :=
  let s := queued 31 (oneVoice .performing)
  let s := fetching (.entry .bankA 9) false (carrying (.fetch (.entry .bankA 9)) w0 s)
  { s with eng := { s.eng with awaitDiscard := true, item := it } }

/-- A restrike step goes on with its group; a press that waited finds its entry in the word just installed. -/
theorem test_entries_reach_the_items_that_wait_for_them :
    (let t := after (.mapEntryFetchLands (.done (Tbl.fill 8 0x80000200))) (restrikeEntering false);
      t.eng.item = some { kind := .restrikeStep 5, wait := .program 5, jobs := [] } ∧
        t.eng.held.map (fun r => (r.bank, r.voices)) = [(.bankB, [])] ∧ t.voice.queue.length = 32 ∧
        t.map.fetch = some { kind := .program 0, overtaken := false, first := none }) ∧
    (let t := after (.mapEntryFetchLands (.done (Tbl.fill 8 0x80000200)))
        (discarding (some { kind := .press 9, wait := .turnEntry 9, jobs := [] }));
      t.eng.awaitDiscard = false ∧ t.eng.held.map (·.pos) = [5, 9] ∧
        t.eng.item = some { kind := .press 9, wait := .program 9, jobs := [] }) := by decide +kernel

/-- The record of position 5 without a voice waits for its program; section 0 has a budget. -/
def pressVoicing : State :=
  let s := fetching (.program 511) false (carrying (.fetch (.program 511)) w0 (inState .performing))
  { s with
    map := { s.map with sects := s.map.sects.set 0 { SectRecord.zero with budget := 64 } }
    eng := { s.eng with
      held := [{ rec5 .hold false with voices := [] }]
      item := some { kind := .press 5, wait := .program 5, jobs := [] } } }

/-- A program's words: the header with its layer count, and one layer with the note 127. -/
def programWords (count : Word) : Tbl 8 Word := ⟨[count, 127 <<< 10, 0, 0, 0, 0, 0, 0], rfl⟩

theorem slotLaw_pressVoicing : SlotLaw pressVoicing := by
  unfold SlotLaw SlotsPartitioned CountsAgree
  decide +kernel

theorem witness_ProgramsAreHandedOverByTheirCount :
    (Carries pressVoicing (.fetch (.program 511)) (anAccess (.fetch (.program 511)) w0) ∧
      pressVoicing.map.fetch = some { kind := .program 511, overtaken := false, first := none } ∧
      pressVoicing.eng.item = some { kind := .press 5, wait := .program 5, jobs := [] }) ∧
    (9 ≤ layerCount ((programWords 9).get 0) ∧ 9 ≤ layerCount ((programWords 15).get 0) ∧
      layerCount ((programWords 8).get 0) = 8 ∧ layerCount ((programWords 16).get 0) = 0 ∧
      layerCount ((programWords 1).get 0) = 1) ∧
    SlotLaw pressVoicing ∧ pressVoicing.ctrl.op = .performing ∧
      findRec pressVoicing.eng 5 = some { rec5 .hold false with voices := [] } ∧
      (layerOf ((programWords 1).get 0) ((programWords 1).get 1) 0).note = 127 ∧
      allocate pressVoicing 0 = .take 0 false ∧ pressVoicing.voice.queue.length < 32 ∧
      pressVoicing.voice.groups.length < 4 := by
  refine ⟨⟨⟨rfl, rfl, rfl⟩, rfl, rfl⟩, by decide +kernel, slotLaw_pressVoicing, by decide +kernel⟩

/-- The same program landing for a REPITCH, a restrike step, and for discard. -/
def programFor (it : Option Item) (d : Bool) : State :=
  { pressVoicing with eng := { pressVoicing.eng with item := it, awaitDiscard := d, revWalk := some 5 } }

theorem witness_ProgramsOfTheOtherVoicingItemsAndForDiscard :
    (∀ it d, Carries (programFor it d) (.fetch (.program 511)) (anAccess (.fetch (.program 511)) w0) ∧
      (programFor it d).map.fetch = some { kind := .program 511, overtaken := false, first := none } ∧
      (programFor it d).eng.item = it ∧ (programFor it d).eng.awaitDiscard = d ∧
      findRec (programFor it d).eng 5 = some { rec5 .hold false with voices := [] }) ∧
    (layerCount ((programWords 1).get 0) ≠ 8 ∧ layerCount ((programWords 9).get 0) ≠ 8) ∧
    placeAfter (.reversalStep 5) (programFor none false).eng = none ∧
    placeAfter (.restrikeStep 5) (programFor none false).eng = some 5 ∧
    (let t := after (.programFetchLands (.done (programWords 1)))
        (programFor (some { kind := .reversalStep 5, wait := .program 5, jobs := [] }) false);
      t.eng.item = none ∧ t.eng.revWalk = none ∧ t.eng.order = [0]) ∧
    (let t := after (.programFetchLands (.done (programWords 1)))
        (programFor (some { kind := .press 5, wait := .turnProgram 5, jobs := [] }) true);
      t.eng.awaitDiscard = false ∧ t.eng.order = [] ∧
        t.eng.item = some { kind := .press 5, wait := .program 5, jobs := [] } ∧
        t.map.fetch = some { kind := .program 0, overtaken := false, first := none }) := by
  refine ⟨fun _ _ => ⟨⟨rfl, rfl, rfl⟩, rfl, rfl, rfl, rfl⟩, by decide +kernel⟩

/-- The layers of a program of section 0 with its first note 127 and the others 0. -/
def someLayers (n : Nat) : List (Fin 8 × Layer) :=
  ((List.finRange 8).take n).map fun i =>
    (i, { patch := 0, note := if i = 0 then 127 else 0, sect := 0, trim := 0, pan := 0 })

/-- The record that waits for its program, with a transpose. -/
def transposed (t : Int) : HeldRec :=
  { rec5 .hold false with
    voices := [], snap := { pushProg := some 0, pullProg := some 511, policy := .hold, transpose := t } }

/-- The words of programs of 1, 7 and 8 layers give these layers. -/
theorem test_layers_of_words :
    (∀ n ∈ [1, 7], (((List.finRange 8).take n).map fun i => (i, layerOf ((programWords (BitVec.ofNat 32 n)).get 0)
      (((programWords (BitVec.ofNat 32 n)).cells.drop 1).getD i.val 0) i)) = someLayers n) ∧
    ((List.finRange 8).map fun i => (i, layerOf ((programWords 8).get 0)
      (((programWords 8).cells.drop 1 ++ [(0 : Word)]).getD i.val 0) i)) = someLayers 8 := by decide +kernel

/-- Every case of a program's layers: all start, some start, all are dropped for each reason, and a stop outside
PERFORMING after a drop. -/
theorem witness_ProgramLayers :
    (∀ n ∈ [1, 7, 8], LayersFit pressVoicing ((someLayers n).filter (inRange (transposed 0))) ∧
      ((someLayers n).filter (inRange (transposed 0))).length = n) ∧
    (∀ n ∈ [1, 7, 8], LayersFit pressVoicing ((someLayers n).filter (inRange (transposed 24))) ∧
      ((someLayers n).filter (inRange (transposed 24))).length = n - 1) ∧
    (∀ x ∈ someLayers 1, inRange (transposed 24) x = false) ∧
    (∀ x ∈ someLayers 8, allocate (inState .performing) x.2.sect = .drop .budget) ∧
    (∀ x ∈ someLayers 8, allocate { pressVoicing with eng := { pressVoicing.eng with free := [] } } x.2.sect =
      .drop .exhausted) ∧
    (someLayers 2 = (someLayers 2).take 1 ++ (someLayers 2).getD 1 (0, ⟨0, 0, 0, 0, 0⟩) :: [] ∧
      (∀ y ∈ (someLayers 2).take 1, inRange (transposed 24) y = false) ∧
      inRange (transposed 24) ((someLayers 2).getD 1 (0, ⟨0, 0, 0, 0, 0⟩)) = true ∧
      allocate pressVoicing 0 = .take 0 false) := by
  unfold LayersFit
  decide +kernel

/-- The record of position 5 waits for its program beside a voice of position 6; section 0 has a budget of 2 and takes
the oldest; a place of the level sweep stands at the voice. -/
def mixing (n : Nat) : State :=
  let s := queued n pressVoicing
  { s with
    map := { s.map with sects := s.map.sects.set 0 { SectRecord.zero with budget := 2, policy := .takeOldest } }
    eng := { s.eng with
      mirror := s.eng.mirror.set 0 { sounding5 with owner := some 6 }, free := (List.finRange 64).tail, order := [0]
      counts := s.eng.counts.set 0 1, sweep := some 0
      held := [{ rec5 .hold false with pos := 6 }, transposed 24] } }

/-- A program of 4 layers: out of range, a free slot, a steal, and a section without budget. -/
def mixedWords : Tbl 8 Word := programWords 0x2004

/-- Drops, a start and a steal side by side; without room for the steal, the item waits with the layers after it. -/
theorem witness_MixedLayers :
    SlotLaw (mixing 0) ∧ SlotLaw (mixing 31) ∧ (mixing 0).ctrl.op = .performing ∧
      findRec (mixing 0).eng 5 = some (transposed 24) ∧ layerCount (mixedWords.get 0) = 4 ∧
      (layerOf (mixedWords.get 0) 0 3).sect = 1 ∧
      (let t := after (.programFetchLands (.done mixedWords)) (mixing 0);
        t.eng.order = [1, 0] ∧ t.eng.item = none ∧ t.eng.sweep = some 1 ∧ t.eng.held.map (·.voices) = [[], [1, 0]] ∧
          t.stat.counters.steals = 1 ∧ t.stat.counters.dropRange = 1 ∧ t.stat.counters.dropBudget = 1) ∧
      (let t := after (.programFetchLands (.done mixedWords)) (mixing 31);
        t.eng.order = [0, 1] ∧ t.stat.counters.dropBudget = 0 ∧
          (t.eng.item.map fun it => (it.kind, it.jobs.length)) = some (.press 5, 1)) := by
  unfold SlotLaw SlotsPartitioned CountsAgree
  decide +kernel

/-- Outside PERFORMING the drops before the first layer that would start are made. -/
theorem witness_LayersOutsidePerforming :
    let s := { pressVoicing with ctrl := { pressVoicing.ctrl with op := .settling } }
    let x : Fin 8 × Layer := (0, layerOf 0x12 (127 <<< 10) 0)
    let y : Fin 8 × Layer := (1, layerOf 0x12 0 1)
    s.ctrl.op ≠ .performing ∧ [x, y] = [x] ++ y :: [] ∧ allocate s x.2.sect = .drop .budget ∧
      inRange (transposed 0) y = true ∧ allocate s y.2.sect = .take 0 false ∧
      (after (.programFetchLands (.done (programWords 0x12))) s).stat.counters.dropBudget = 1 ∧
      (after (.programFetchLands (.done (programWords 0x12))) s).eng.item = none := by decide +kernel

/-- The fetch of a program of 8 layers after its first access. -/
def secondAccess : Fetch := { kind := .program 511, overtaken := false, first := some (programWords 8) }

/-- The second access of a program of 8 layers. -/
def pressEighth : State := { pressVoicing with map := { pressVoicing.map with fetch := some secondAccess } }

theorem witness_ProgramSecondAccess :
    Carries pressEighth (.fetch (.program 511)) (anAccess (.fetch (.program 511)) w0) ∧
      pressEighth.map.fetch = some secondAccess ∧ secondAccess.first = some (programWords 8) ∧
      layerCount ((programWords 8).get 0) = 8 ∧ findRec pressEighth.eng 5 = some (transposed 0) ∧
      (after (.programFetchLands (.done (Tbl.fill 8 0))) pressEighth).eng.order = (List.finRange 64).take 8 :=
  ⟨⟨rfl, rfl, rfl⟩, rfl, rfl, by decide +kernel, rfl, by decide +kernel⟩

/-- The drop of a layer is made in every state; only the first FULL write ends the item outside PERFORMING (R102). -/
theorem test_a_layer_out_of_range_is_dropped_in_settling_too :
    let s := { pressVoicing with
      ctrl := { pressVoicing.ctrl with op := .settling }
      eng := { pressVoicing.eng with held := [transposed 24] } }
    (after (.programFetchLands (.done (programWords 2))) s).stat.counters.dropRange = 1 ∧
      (after (.programFetchLands (.done (programWords 2))) s).voice.queue = [] ∧
      (after (.programFetchLands (.done (programWords 2))) s).eng.item = none := by decide +kernel

/-- A press of position 5 that missed while an answer was awaited for discard. -/
def pressTurn : State :=
  let s := fetching (.entry .bankA 9) false (carrying (.fetch (.entry .bankA 9)) w0 (inState .performing))
  { s with
    ctrl := { s.ctrl with bank := .bankB }
    eng := { s.eng with
      awaitDiscard := true, item := some { kind := .press 5, wait := .turnEntry 5, jobs := [] } } }

theorem test_a_press_that_waited_for_a_discard_asks_in_the_bank_then_active :
    (after (.mapEntryFetchLands (.done (Tbl.fill 8 0))) pressTurn).eng.item =
      some { kind := .press 5, wait := .entry .bankB 5, jobs := [] } := by decide +kernel

theorem witness_SectionReloadsInstallTheRecord :
    ∀ i ∈ [(0 : SectNo), 7], ∃ a, Carries (carrying (.fetch (.reload i)) w0 (inState .performing)) (.fetch (.reload i)) a :=
  fun _ _ => ⟨_, carries _ _ _⟩

theorem witness_ArgumentsAreReadFromTheCommandSlot :
    (CommandReady (inState .performing) ∧ commandOf (.sustain bare) = some (5, bare) ∧ opcodeOf 5 = some .sustain ∧
      bare.arg = none ∧ Opcode.sustain.hasArg = true ∧ (inState .performing).ctrl.valid = true) ∧
    (CommandReady noDescriptor ∧ commandOf (.guard bare) = some (6, bare) ∧ opcodeOf 6 = some .guard ∧
      Opcode.guard.hasArg = true) ∧
    Carries (carrying (.fetch .argument) w0 (inProgress .sustain)) (.fetch .argument) (anAccess (.fetch .argument) w0) ∧
      (inProgress .sustain).ctrl.command = some .sustain ∧ fieldAt ((Tbl.fill 8 (1 : Word)).get 0) 0 2 ≤ 1 ∧
      (inProgress .sustain).ctrl.op.working = true :=
  ⟨⟨⟨⟨rfl, rfl, by decide⟩, rfl⟩, rfl, rfl, rfl, rfl, rfl⟩, ⟨⟨⟨rfl, rfl, by decide⟩, rfl⟩, rfl, rfl, rfl⟩, carries _ _ _,
    rfl, by decide +kernel, rfl⟩

theorem witness_FrameStartsCountAndTripTheWatchdog :
    (∀ op ∈ [OpState.transparent, .performing, .settling],
      wouldFrame (readingFrame (inState op)) (.completes (Tbl.fill 8 0)) = true ∧
      wouldFrame (heldFrame (inState op)) (.heldRead frameRead) = true) ∧
    (∀ n ∈ [0, 1, 15], wouldFrame (readingFrame (holding n .pull (inState .performing))) (.completes (Tbl.fill 8 0)) = true ∧
      Motion.dir? .pull ≠ none ∧ Motion.dir? .pull ≠ some (inState .performing).bellows.dir) ∧
    (Motion.dir? .rest = none ∧ Motion.dir? .push = some (inState .performing).bellows.dir) ∧
    (let s := { inState .performing with scan := { Scan.reset with silence := 11 } };
      wouldFrame (heldFrame s) (.heldRead frameRead) = true ∧ s.ctrl.op = .performing ∧ s.ctrl.swap = none ∧
        s.ctrl.copy.silenceLimit.toNat ≠ 0 ∧ s.scan.silence + 1 = s.ctrl.copy.silenceLimit.toNat) ∧
    (∀ n ∈ [0, 10], let s := { inState .performing with scan := { Scan.reset with silence := n } };
      wouldFrame (readingFrame s) (.completes (Tbl.fill 8 0)) = true ∧ s.ctrl.copy.silenceLimit.toNat ≠ 0 ∧
        s.scan.silence < s.ctrl.copy.silenceLimit.toNat ∧ s.scan.silence + 1 ≠ s.ctrl.copy.silenceLimit.toNat) ∧
    (let s := { inState .performing with scan := { Scan.reset with silence := 12 } };
      wouldFrame (readingFrame s) (.completes (Tbl.fill 8 0)) = true ∧
        s.ctrl.copy.silenceLimit.toNat ≤ s.scan.silence) := by decide +kernel

/-- The pending frames of a frame start, up to their stop, in SETTLING with a voice too. -/
theorem test_pending_frames_rise_and_stop :
    ∀ x ∈ [(OpState.transparent, 0, 1), (.performing, 254, 255), (.performing, 255, 255), (.settling, 7, 8)],
      let s := readingFrame (oneVoice x.1)
      (after (.tReadCompletes (.done (Tbl.fill 8 0)))
        { s with eng := { s.eng with pendingFrames := x.2.1 } }).eng.pendingFrames = x.2.2 := by decide +kernel

/-- A frame start with a swap pending: in PERFORMING and SETTLING, with a write into its bank queued, and in both
modes. -/
theorem witness_FrameStartsTestAPendingSwap :
    (∀ op ∈ [OpState.performing, .settling],
      wouldFrame (readingFrame (swapWaiting op false)) (.completes (Tbl.fill 8 0)) = true ∧
      (swapWaiting op false).ctrl.op = op ∧
      (swapWaiting op false).ctrl.swap = some { mode := .restrike, incoming := .bankB, taken := false } ∧
      holdsBank (readingFrame (swapWaiting op false)) .bankB = false) ∧
    (∀ op ∈ [OpState.performing, .settling],
      wouldFrame (heldFrame (swapHeldUp op)) (.heldRead frameRead) = true ∧
      (swapHeldUp op).ctrl.swap = some { mode := .restrike, incoming := .bankB, taken := false } ∧
      holdsBank (heldFrame (swapHeldUp op)) .bankB = true) ∧
    (after (.swap (arg 1)) (inState .performing)).ctrl.swap =
      some { mode := .latch, incoming := .bankB, taken := false } := by decide +kernel

/-- SETTLING with its timer, and settle frames taken. -/
def settlingAt (frames : Nat) (s : State) : State :=
  { s with ctrl := { s.ctrl with settleFrames := frames, settleTimer := some 0 } }

/-- A press that waits for its entry when SETTLING ends is over: no record stands in TRANSPARENT (R171). -/
theorem test_a_press_in_its_entry_fetch_ends_with_settling :
    let s := readingFrame (settlingAt 0 { inState .settling with
      eng := { Engine.reset with item := some { kind := .press 5, wait := .entry .bankA 5, jobs := [] } }
      map := { MapUnit.reset with engReq := some (.entry .bankA 5) } })
    (after (.tReadCompletes (.done (Tbl.fill 8 0))) s).ctrl.op = .transparent ∧
      (after (.tReadCompletes (.done (Tbl.fill 8 0))) s).eng.item = none ∧
      (after (.tReadCompletes (.done (Tbl.fill 8 0))) s).map.engReq = none := by decide +kernel

theorem witness_SettlingEndsByFramesOrByACut :
    (wouldFrame (readingFrame (settlingAt 0 (inState .settling))) (.completes (Tbl.fill 8 0)) = true ∧
      (readingFrame (settlingAt 0 (inState .settling))).ctrl.op = .settling ∧
      (readingFrame (settlingAt 0 (inState .settling))).ctrl.swap = none ∧
      (readingFrame (settlingAt 0 (inState .settling))).eng.order = [] ∧
      (readingFrame (settlingAt 0 (inState .settling))).ctrl.settleCut = false) ∧
    (∀ n ∈ [5, 254], wouldFrame (readingFrame (settlingAt n (oneVoice .settling))) (.completes (Tbl.fill 8 0)) = true ∧
      (settlingAt n (oneVoice .settling)).ctrl.op = .settling ∧ (settlingAt n (oneVoice .settling)).eng.order ≠ [] ∧
      (settlingAt n (oneVoice .settling)).ctrl.settleFrames < 255 ∧
      (settlingAt n (oneVoice .settling)).ctrl.copy.settleFrames.toNat ≤
        (settlingAt n (oneVoice .settling)).ctrl.settleFrames + 1) ∧
    (settlingAt 0 (oneVoice .settling)).ctrl.settleTimer = some 0 ∧ itemIsHush (oneVoice .settling).eng = false ∧
      (oneVoice .settling).eng.hushPending = .clear ∧ (hushWaiting .settling .cutOnly).eng.hushPending ≠ .clear := by
  decide +kernel

/-- Section 0 with a budget and a policy. -/
def budgeted (b : Nat) (p : StealPolicy) (s : State) : State :=
  { s with map := { s.map with sects := s.map.sects.set 0 { SectRecord.zero with budget := b, policy := p } } }

/-- No slot free. -/
def noneFree (s : State) : State := { s with eng := { s.eng with free := [] } }

theorem witness_AllocationTakesTheFirstCaseThatHolds :
    (let s := budgeted 64 .keep (oneVoice .performing);
      s.eng.counts.get 0 < (s.map.sects.get 0).budget ∧ s.eng.free = 1 :: (List.finRange 64).tail.tail) ∧
    (let s := noneFree (budgeted 2 .keep (dying 0));
      s.eng.counts.get 0 < (s.map.sects.get 0).budget ∧ s.eng.free = [] ∧
      s.eng.order.find? (fun j => decide ((s.eng.mirror.get j).state = .releasing)) = some 0) ∧
    (let s := noneFree (budgeted 2 .keep (oneVoice .performing));
      s.eng.counts.get 0 < (s.map.sects.get 0).budget ∧ s.eng.free = [] ∧
      ∀ j ∈ s.eng.order, (s.eng.mirror.get j).state ≠ .releasing) ∧
    (let s := budgeted 1 .keep (dying 0);
      (s.map.sects.get 0).budget ≤ s.eng.counts.get 0 ∧ s.eng.order.find? (fun j =>
        decide ((s.eng.mirror.get j).state = .releasing ∧ (s.eng.mirror.get j).sect = 0)) = some 0) ∧
    (let s := budgeted 1 .takeOldest (oneVoice .performing);
      (s.map.sects.get 0).budget ≤ s.eng.counts.get 0 ∧ (s.map.sects.get 0).policy = .takeOldest ∧
      (∀ j ∈ s.eng.order, ¬((s.eng.mirror.get j).state = .releasing ∧ (s.eng.mirror.get j).sect = 0)) ∧
      s.eng.order.find? (fun j => decide ((s.eng.mirror.get j).state = .sounding ∧ (s.eng.mirror.get j).sect = 0) &&
        !(startedByGroup s.voice).contains j) = some 0) ∧
    (let s := budgeted 1 .keep (oneVoice .performing);
      (s.map.sects.get 0).budget ≤ s.eng.counts.get 0 ∧ (s.map.sects.get 0).policy = .keep ∧
      ∀ j ∈ s.eng.order, ¬((s.eng.mirror.get j).state = .releasing ∧ (s.eng.mirror.get j).sect = 0)) ∧
    (∀ i : Fin 9, i ≠ 0 → (budgeted i.val .keep (oneVoice .performing)).map.sects.get 0 ≠
      (budgeted 0 .keep (oneVoice .performing)).map.sects.get 0) := by
  decide +kernel

/-- A budget of 0 drops the layer also while the section has a voice that is dying away, or one that TAKE_OLDEST would
take. -/
theorem test_a_budget_of_zero_drops_every_allocation :
    allocate (budgeted 0 .keep (dying 0)) 0 = .drop .budget ∧
      allocate (budgeted 0 .takeOldest (oneVoice .performing)) 0 = .drop .budget ∧
      allocate (budgeted 1 .keep (dying 0)) 0 = .take 0 true := by decide +kernel

/-- The items of rank `n` and below are available, a press or a release among them. -/
def ranked (n : Nat) (isPress : Bool) : State :=
  let s := oneVoice .performing
  { s with
    bellows := { s.bellows with
      revNotice := if n ≤ 3 then some .pull else none, levelNotice := if n ≤ 9 then some 3 else none }
    scan := { s.scan with events := if n ≤ 6 then [{ isPress := isPress, pos := 5 }] else [] }
    eng := { s.eng with
      hushPending := if n ≤ 1 then .source else .clear, releaseAll := decide (n ≤ 2)
      revWalk := if n ≤ 4 then some 5 else none, pendingFrames := if n ≤ 5 then 1 else 0
      sustainWalk := decide (n ≤ 7), restrikeWalk := decide (n ≤ 8), sweep := if n ≤ 10 then some 0 else none } }

/-- Each item is taken in a state where all that rank below it are available too, and none is with an item in hand, in
INIT or with nothing available. -/
theorem witness_TheFirstAvailableItemIsTaken :
    (∀ x ∈ [(1, Sel.hush), (2, .releaseAll), (3, .takeReversal), (4, .reversalStep), (5, .expiry), (6, .press),
      (7, .sustainStep), (8, .restrikeStep), (9, .takeLevel), (10, .sweepStep)],
      nextItem (ranked x.1 true) = some x.2 ∧ x.2.rank = x.1) ∧
    nextItem (ranked 6 false) = some .release ∧ nextItem (ranked 11 true) = none ∧
    nextItem (discarding (some { kind := .press 9, wait := .turnEntry 9, jobs := [] })) = none ∧
    nextItem (initIn .drain) = none := by decide +kernel

theorem slotLaw_oneVoice : SlotLaw (oneVoice .performing) := by
  unfold SlotLaw SlotsPartitioned CountsAgree
  decide +kernel

theorem room (n : Nat) (h : n ≤ 31) (s : State) (hg : s.voice.groups = []) : RoomFor (queued n s) 1 := by
  refine ⟨?_, ?_, ?_⟩
  · show (filler n).length + 1 ≤ 32
    simp only [filler, List.length_replicate]
    omega
  · show s.voice.groups.length < 4
    rw [hg]
    decide
  · show ∀ g ∈ s.voice.groups, g.filling = false
    rw [hg]
    simp

theorem witness_AHushFreesEverySlot :
    Takes (queued 31 (hushWaiting .performing .source)) .hush ∧ SlotLaw (queued 31 (hushWaiting .performing .source)) ∧
      RoomFor (queued 31 (hushWaiting .performing .source)) 1 ∧
      (queued 31 (hushWaiting .performing .source)).eng.order.length = 1 ∧
      (queued 31 (hushWaiting .performing .source)).ctrl.settleCut = false :=
  ⟨rfl, slotLaw_oneVoice, room 31 (by decide) _ rfl, rfl, rfl⟩

/-- A settle cut with its hush pending, and a swap as given. -/
def cutting (w : Option Swap) : State :=
  let s := hushWaiting .settling .cutOnly
  queued 31 { s with ctrl := { s.ctrl with settleCut := true, swap := w } }

/-- A settle cut's hush, with no swap, with one that can be taken, and with one already taken. -/
theorem witness_AHushEndsSettling :
    (∀ w, Takes (cutting w) .hush ∧ SlotLaw (cutting w) ∧ RoomFor (cutting w) 1 ∧
      (cutting w).eng.order.length = 1 ∧ (cutting w).ctrl.settleCut = true ∧ (cutting w).eng.restrikeWalk = false) ∧
    holdsBank (cutting (some { mode := .restrike, incoming := .bankB, taken := false })) .bankB = false ∧
    holdsBank { cutting none with player := { writes := [wr 0x010800 0 0xF 0], read := none } } .bankB = true :=
  ⟨fun w => ⟨rfl, slotLaw_oneVoice,
      room 31 (by decide) { hushWaiting .settling .cutOnly with
        ctrl := { (hushWaiting .settling .cutOnly).ctrl with settleCut := true, swap := w } } rfl, rfl, rfl, rfl⟩,
    by decide +kernel, by decide +kernel⟩

/-- A release-all pending. -/
def releasing (held : List HeldRec) : State :=
  let s := oneVoice .performing
  { s with eng := { s.eng with releaseAll := true, held := held } }

theorem ordered5 (s : State) (h : s.eng.order = [0]) : Ordered s [0] := by
  refine ⟨by decide, ?_⟩
  rw [h]
  simp

theorem witness_EntriesOfARestrikeStepAndForDiscard :
    (Carries (restrikeEntering false) (.fetch (.entry .bankB 5)) (anAccess (.fetch (.entry .bankB 5)) w0) ∧
      (restrikeEntering false).map.fetch = some { kind := .entry .bankB 5, overtaken := false, first := none } ∧
      (restrikeEntering false).eng.item = some { kind := .restrikeStep 5, wait := .entry .bankB 5, jobs := [] } ∧
      findRec (restrikeEntering false).eng 5 = some (rec5 .hold false) ∧
      Ordered (restrikeEntering false) (rec5 .hold false).voices ∧ RoomFor (restrikeEntering false) 1 ∧
      (restrikeEntering false).ctrl.op = .performing ∧ (restrikeEntering false).eng.awaitDiscard = false) ∧
    (∀ it, Carries (discarding it) (.fetch (.entry .bankA 9)) (anAccess (.fetch (.entry .bankA 9)) w0) ∧
      (discarding it).map.fetch = some { kind := .entry .bankA 9, overtaken := false, first := none } ∧
      (discarding it).eng.awaitDiscard = true ∧ (discarding it).eng.item = it) ∧
    ((Item.mk .expiry (.push (.freeing 0 false)) []).wait = .push (.freeing 0 false)) ∧
    (lookupEntry (discarding none).ctrl.bank 6 [{ bank := .bankA, pos := 9, word := 0 }] = none ∧
      lookupEntry (discarding none).ctrl.bank 9 [{ bank := .bankA, pos := 9, word := 0x80000200 }] =
        some { bank := .bankA, pos := 9, word := 0x80000200 } ∧
      findRec (discarding none).eng 9 = none ∧ (discarding none).eng.held.length < 32 ∧
      findRec (discarding none).eng 5 = some (rec5 .hold false)) ∧
    (∀ d : Dir, ∃ n, (rec5 .hold false).snap.program d = some n) ∧ Voices (.press 5) 5 ∧ Voices (.reversalStep 5) 5 ∧
    Voices (.restrikeStep 5) 5 := by
  refine ⟨⟨⟨rfl, rfl, rfl⟩, rfl, rfl, rfl, ordered5 _ rfl, room 31 (by decide) (restrikeEntering false) rfl, rfl, rfl⟩,
    fun _ => ⟨⟨rfl, rfl, rfl⟩, rfl, rfl, rfl⟩, rfl, by decide +kernel, fun d => ?_, .inl rfl, .inr (.inl rfl),
    .inr (.inr rfl)⟩
  cases d <;> exact ⟨_, rfl⟩

theorem witness_ReleaseAllReleasesAndRemovesRecords :
    (Takes (releasing []) .releaseAll ∧ (releasing []).eng.held = []) ∧
      Takes (queued 31 (releasing [rec5 .hold false])) .releaseAll ∧
      (queued 31 (releasing [rec5 .hold false])).eng.held = [rec5 .hold false] ∧
      Ordered (queued 31 (releasing [rec5 .hold false])) (rec5 .hold false).voices ∧
      RoomFor (queued 31 (releasing [rec5 .hold false])) (rec5 .hold false).voices.length :=
  ⟨⟨rfl, rfl⟩, rfl, rfl, ordered5 _ rfl, room 31 (by decide) _ rfl⟩

/-- Two records of one voice each, a release-all pending, with the places of both walks at the first. -/
def twoRecords : State :=
  let s := releasing [rec5 .hold false, { rec5 .hold false with pos := 6, voices := [1] }]
  queued 30 { s with eng := { s.eng with
      mirror := s.eng.mirror.set 1 { sounding5 with owner := some 6 }, free := (List.finRange 64).tail.tail
      order := [0, 1], counts := s.eng.counts.set 0 2, revWalk := some 5, sweep := some 0 } }

theorem lawful_twoRecords : SlotLaw twoRecords ∧ HeldLaw twoRecords := by
  unfold SlotLaw SlotsPartitioned CountsAgree HeldLaw
  decide +kernel

/-- A whole table with room for all of it, and its oldest record with room, with a voice and without one. -/
theorem witness_ReleaseAllOfATable :
    (Takes twoRecords .releaseAll ∧ (∀ g ∈ twoRecords.voice.groups, g.filling = false) ∧
      twoRecords.voice.queue.length + (twoRecords.eng.held.flatMap (·.voices)).length ≤ 32 ∧
      twoRecords.voice.groups.length + (twoRecords.eng.held.filter fun r => decide (r.voices ≠ [])).length ≤ 4 ∧
      twoRecords.eng.revWalk ∈ twoRecords.eng.held.map (some ·.pos)) ∧
    (twoRecords.eng.held = rec5 .hold false :: [{ rec5 .hold false with pos := 6, voices := [1] }] ∧
      Ordered twoRecords (rec5 .hold false).voices ∧ twoRecords.voice.queue.length + 1 ≤ 32) ∧
    (let s := releasing [{ rec5 .hold false with pos := 9, voices := [] }, rec5 .hold false];
      Takes s .releaseAll ∧ HeldLaw s) ∧
    (let t := after .releaseAll twoRecords;
      t.eng.held = [] ∧ t.eng.order = [] ∧ t.eng.revWalk = none ∧ t.eng.sweep = none ∧ t.eng.item = none ∧
        t.voice.queue.length = 32 ∧ t.voice.groups.length = 2) := by
  unfold Takes Ordered HeldLaw
  decide +kernel

/-- The tracker's notices. -/
def noticed (d : Option Dir) (m : Option Nat) : State :=
  let s := oneVoice .performing
  { s with bellows := { s.bellows with revNotice := d, levelNotice := m } }

theorem witness_NoticesStartTheirWalks :
    (Takes (noticed (some .pull) (some 0)) .takeReversal ∧ (noticed (some .pull) (some 0)).bellows.revNotice = some .pull) ∧
      Takes (noticed none (some 2047)) .takeLevel ∧ (noticed none (some 2047)).bellows.levelNotice = some 2047 :=
  ⟨⟨rfl, rfl⟩, rfl, rfl⟩

/-- A reversal walk at the record of position 5. -/
def turning (d : Dir) (p : Policy) (sustained : Bool) : State :=
  let s := queued 31 (oneVoice .performing p sustained)
  { s with eng := { s.eng with appliedDir := d, revWalk := some 5 } }

theorem turns (d : Dir) (p : Policy) (sustained : Bool) :
    Takes (turning d p sustained) .reversalStep ∧ (turning d p sustained).eng.revWalk = some 5 ∧
      findRec (turning d p sustained).eng 5 = some (rec5 p sustained) ∧ (turning d p sustained).ctrl.op = .performing ∧
      Ordered (turning d p sustained) (rec5 p sustained).voices ∧
      RoomFor (turning d p sustained) (rec5 p sustained).voices.length ∧
      (turning d p sustained).eng.awaitDiscard = false ∧ (turning d p sustained).map.fetch = none ∧
      (turning d p sustained).player.writes = [] :=
  ⟨rfl, rfl, rfl, rfl, ordered5 _ rfl,
    room 31 (by decide) { oneVoice .performing p sustained with
      eng := { (oneVoice .performing p sustained).eng with appliedDir := d, revWalk := some 5 } } rfl, rfl, rfl, rfl⟩

theorem witness_TheReversalWalkTurnsRecords :
    (rec5 .cut true).sustained = true ∧ (rec5 .cut false).dir = (turning .push .cut false).eng.appliedDir ∧
      (rec5 .cut false).dir ≠ (turning .pull .cut false).eng.appliedDir ∧ (rec5 .hold false).sustained = false ∧
      (∀ p : Policy, (rec5 p false).snap.policy = p) ∧ (rec5 .repitch false).snap.program .pull = some 511 ∧
      requested (turning .pull .repitch false) = [] ∧
      (let r := { rec5 .repitch false with
        snap := { pushProg := some 0, pullProg := none, policy := .repitch, transpose := 0 } };
      r.snap.policy = .repitch ∧ r.snap.program .pull = none ∧ Ordered (turning .pull .repitch false) r.voices) :=
  ⟨rfl, rfl, by decide, rfl, fun _ => rfl, rfl, by decide +kernel, rfl, rfl, ordered5 _ rfl⟩

theorem witness_FrameExpiryFreesTheExpired :
    ∀ n ∈ [1, 255], Takes (queued 31 (dying n)) .expiry ∧ SlotLaw (queued 31 (dying n)) ∧
      (queued 31 (dying n)).voice.queue.length + (((queued 31 (dying n)).eng.order.filter fun i =>
        decide (((queued 31 (dying n)).eng.mirror.get i).state = .releasing ∧
          ∃ c ∈ ((queued 31 (dying n)).eng.mirror.get i).countdown,
            c ≤ (queued 31 (dying n)).eng.pendingFrames)).length) ≤ 32 := by
  unfold Takes SlotLaw SlotsPartitioned CountsAgree
  decide +kernel

/-- A press or a release at the head of the event queue. -/
def eventAt (isPress : Bool) (p : Pos) (s : State) : State :=
  { s with scan := { s.scan with events := [{ isPress := isPress, pos := p }] } }

/-- The state with one map cache entry. -/
def cached (p : Pos) (w : Word) (s : State) : State :=
  { s with map := { s.map with cache := [{ bank := s.ctrl.bank, pos := p, word := w }] } }

/-- A full held-button table. -/
def fullTable : State :=
  let s := inState .performing
  { s with eng := { s.eng with held := (List.range 32).map fun n =>
      { rec5 .hold false with pos := Fin.ofNat 256 n, voices := [] } } }

/-- A press of position 0 whose entry is cached. -/
def hitting (w : Word) : State := eventAt true 0 (cached 0 w (inState .performing))

theorem witness_APressMakesARecordOrIsDropped :
    (Takes (eventAt true 255 fullTable) .press ∧ findRec (eventAt true 255 fullTable).eng 255 = none ∧
      (eventAt true 255 fullTable).ctrl.op = .performing ∧ (eventAt true 255 fullTable).eng.awaitDiscard = false ∧
      32 ≤ (eventAt true 255 fullTable).eng.held.length) ∧
    (Takes (hitting 0x80000200) .press ∧ findRec (hitting 0x80000200).eng 0 = none ∧
      (hitting 0x80000200).eng.held.length < 32 ∧ lookupEntry (hitting 0x80000200).ctrl.bank 0 (hitting 0x80000200).map.cache =
        some { bank := .bankA, pos := 0, word := 0x80000200 }) ∧
    (Takes (hitting 0x80000000) .press ∧ findRec (hitting 0x80000000).eng 0 = none ∧
      (hitting 0x80000000).eng.held.length < 32 ∧ lookupEntry (hitting 0x80000000).ctrl.bank 0 (hitting 0x80000000).map.cache =
        some { bank := .bankA, pos := 0, word := 0x80000000 }) ∧
    judgeEntry 0x80000200 = .valid { pushProg := some 0, pullProg := none, policy := .hold, transpose := 0 } ∧
    judgeEntry 0x80000000 = .valid { pushProg := none, pullProg := none, policy := .hold, transpose := 0 } ∧
    (let s := eventAt true 255 (inState .performing);
      Takes s .press ∧ s.eng.held.length < 32 ∧ lookupEntry s.ctrl.bank 255 s.map.cache = none ∧ s.map.fetch = none ∧
        requested s = [] ∧ s.player.writes = []) ∧
    (let s := eventAt true 255 (discarding none);
      Takes s .press ∧ s.ctrl.op = .performing ∧ s.eng.awaitDiscard = true ∧ findRec s.eng 255 = none ∧
        lookupEntry s.ctrl.bank 255 s.map.cache = none ∧ entryWait s 255 = .turnEntry 255 ∧
        programWait s 255 = .turnProgram 255) := by
  unfold Takes
  decide +kernel

/-- Every judgement of an entry: valid, invalid and bad. -/
theorem witness_Judged :
    Judged 0x80000200 { pushProg := some 0, pullProg := none, policy := .hold, transpose := 0 } ∧
      Judged 0 EntrySnap.none ∧ Judged 0x80300000 EntrySnap.none := by
  unfold Judged
  decide +kernel

/-- A press of position 5 over its sustained record, with its entry cached as given. -/
def repressing (w : Option Word) : State :=
  let s := oneVoice .performing .hold true
  queued 31 (eventAt true 5 (match w with
    | some x => cached 5 x s
    | none => s))

theorem witness_APressReplacesASustainedRecord :
    (∀ w, Takes (repressing w) .press ∧ (repressing w).scan.events = { isPress := true, pos := 5 } :: [] ∧
      (repressing w).ctrl.op = .performing ∧ (repressing w).eng.awaitDiscard = false ∧
      findRec (repressing w).eng 5 = some (rec5 .hold true) ∧ (repressing w).eng.held.length ≤ 32 ∧
      Ordered (repressing w) (rec5 .hold true).voices) ∧
    (∀ w, RoomFor (repressing w) (rec5 .hold true).voices.length) ∧
    (∀ x, lookupEntry (repressing (some x)).ctrl.bank 5 (repressing (some x)).map.cache =
      some { bank := .bankA, pos := 5, word := x }) ∧
    lookupEntry (repressing none).ctrl.bank 5 (repressing none).map.cache = none ∧
    (after .press (repressing (some 0x80000200))).eng.item =
      some { kind := .press 5, wait := .program 5, jobs := [] } := by
  refine ⟨fun w => ?_, fun w => ?_, fun x => rfl, rfl, by decide +kernel⟩
  · cases w <;> exact ⟨rfl, rfl, rfl, rfl, rfl, Nat.le_of_ble_eq_true rfl, ordered5 _ rfl⟩
  · cases w <;> exact room 31 (by decide) _ rfl

/-- Sustain as given. -/
def sustaining (b : Bool) (s : State) : State := { s with ctrl := { s.ctrl with sustain := b } }

/-- The sustain-off walk over the record of position 5. -/
def walking (sustained : Bool) (b : Bool) : State :=
  let s := sustaining b (oneVoice .performing .hold sustained)
  queued 31 { s with eng := { s.eng with sustainWalk := true } }

theorem witness_ReleasesFollowSustain :
    (Takes (eventAt false 6 (oneVoice .performing)) .release ∧ findRec (eventAt false 6 (oneVoice .performing)).eng 6 = none) ∧
    (Takes (eventAt false 5 (sustaining true (oneVoice .performing))) .release ∧
      findRec (eventAt false 5 (sustaining true (oneVoice .performing))).eng 5 = some (rec5 .hold false) ∧
      (eventAt false 5 (sustaining true (oneVoice .performing))).ctrl.sustain = true) ∧
    (Takes (queued 31 (eventAt false 5 (oneVoice .performing))) .release ∧
      (queued 31 (eventAt false 5 (oneVoice .performing))).ctrl.sustain = false ∧
      Ordered (queued 31 (eventAt false 5 (oneVoice .performing))) (rec5 .hold false).voices ∧
      RoomFor (queued 31 (eventAt false 5 (oneVoice .performing))) (rec5 .hold false).voices.length) ∧
    (Takes (walking true true) .sustainStep ∧ (walking true true).ctrl.sustain = true) ∧
    (Takes (walking false false) .sustainStep ∧ ∀ r ∈ (walking false false).eng.held, r.sustained = false) ∧
    Takes (walking true false) .sustainStep ∧ (walking true false).ctrl.sustain = false ∧
      (walking true false).eng.held.find? (·.sustained) = some (rec5 .hold true) ∧
      Ordered (walking true false) (rec5 .hold true).voices ∧
      RoomFor (walking true false) (rec5 .hold true).voices.length :=
  ⟨⟨rfl, rfl⟩, ⟨rfl, rfl, rfl⟩, ⟨rfl, rfl, ordered5 _ rfl, room 31 (by decide) _ rfl⟩, ⟨rfl, rfl⟩,
    ⟨rfl, by decide⟩, rfl, rfl, rfl, ordered5 _ rfl, room 31 (by decide) _ rfl⟩

/-- A restrike walk with the active bank given, and the entry of position 5 cached as given. -/
def restriking (b : Bank) (w : Option Word) : State :=
  let s := oneVoice .performing
  let s := { s with
    ctrl := { s.ctrl with bank := b, swap := some { mode := .restrike, incoming := b, taken := true } }
    eng := { s.eng with restrikeWalk := true } }
  queued 31 (match w with
    | some x => cached 5 x s
    | none => s)

theorem witness_TheRestrikeWalkReentersRecords :
    (Takes (restriking .bankA none) .restrikeStep ∧ (restriking .bankA none).eng.restrikeWalk = true ∧
      (restriking .bankA none).eng.awaitDiscard = false ∧
      ∀ r ∈ (restriking .bankA none).eng.held, r.sustained = true ∨ r.bank = (restriking .bankA none).ctrl.bank) ∧
    (∀ w, Takes (restriking .bankB w) .restrikeStep ∧ (restriking .bankB w).eng.held.find?
        (fun x => !x.sustained && decide (x.bank ≠ (restriking .bankB w).ctrl.bank)) = some (rec5 .hold false)) ∧
    lookupEntry .bankB 5 (restriking .bankB none).map.cache = none ∧
    (∀ x, lookupEntry .bankB 5 (restriking .bankB (some x)).map.cache = some { bank := .bankB, pos := 5, word := x } ∧
      findRec (restriking .bankB (some x)).eng 5 = some (rec5 .hold false) ∧
      Ordered (restriking .bankB (some x)) (rec5 .hold false).voices ∧
      RoomFor (restriking .bankB (some x)) (rec5 .hold false).voices.length ∧
      (restriking .bankB (some x)).ctrl.op = .performing ∧ (restriking .bankB (some x)).map.fetch = none ∧
      (restriking .bankB (some x)).player.writes = []) ∧
    requested (restriking .bankB (some 0x80000200)) = [] ∧
    judgeEntry 0x80000000 = .valid { pushProg := none, pullProg := none, policy := .hold, transpose := 0 } := by
  refine ⟨by unfold Takes; decide +kernel, fun w => by cases w <;> exact ⟨rfl, rfl⟩, rfl, fun x => ⟨rfl, rfl,
    ordered5 _ rfl, room 31 (by decide) _ rfl, rfl, rfl, rfl⟩, by decide +kernel, by decide +kernel⟩

/-- The place of a level sweep at slot 0. -/
def sweepAt0 (s : State) : State := { s with eng := { s.eng with sweep := some 0 } }

/-- The places of both walks at what leaves: a REPITCH keeps its place, a slot or a record that leaves moves it on. -/
theorem witness_PlacesOfTheWalks :
    (let s := sweepAt0 (turning .pull .repitch false);
      Takes s .reversalStep ∧ (after .reversalWalkStep s).eng.revWalk = some 5 ∧
        (after .reversalWalkStep s).eng.sweep = none) ∧
    (let s := sweepAt0 (dying 1);
      Takes s .expiry ∧ s.eng.order.Nodup ∧ HeldLaw s ∧ (after .frameExpiry s).eng.sweep = none) ∧
    (let s := sweepAt0 (walking true false);
      Takes s .sustainStep ∧ s.eng.order.Nodup ∧ (after .sustainOffWalkStep s).eng.sweep = none) ∧
    (let s := sweepAt0 (repressing none);
      Takes s .press ∧ (after .press s).eng.sweep = none) ∧
    (placeLeaving 5 twoRecords.eng = some 6 ∧ sweepLeaving 0 twoRecords.eng = some 1 ∧
      sweepPassing [0, 1] twoRecords.eng = none ∧ sweepPassing [1] twoRecords.eng = some 0) := by
  unfold Takes HeldLaw
  decide +kernel

/-- A level sweep at slot 0, whose written level is 100, and with curves at 0 and at 100. -/
def sweeping (m c n : Nat) : State :=
  let s := oneVoice .performing
  queued n { s with
    map := { s.map with sects := Tbl.fill 8 { SectRecord.zero with curve := Tbl.fill 9 c } }
    eng := { s.eng with appliedMag := m, sweep := some 0 } }

/-- The same sweep waiting for room. -/
def sweepWaiting (n : Nat) : State :=
  let s := sweeping 2047 0 n
  { s with eng := { s.eng with item := some { kind := .sweepStep 0, wait := .push (.level 0 0), jobs := [] } } }

theorem witness_WaitingWritesGoOnAndLevelsAreRewritten :
    (∀ mk ∈ [((0 : Nat), (0 : Fin 8)), (255, 0), (256, 1), (2047, 7)], mk.1 / 256 = mk.2.val ∧
      Takes (sweeping mk.1 100 0) .sweepStep ∧ (sweeping mk.1 100 0).eng.sweep = some 0 ∧
      (100 : Nat) = (max 0 (min 255 ((((sweeping mk.1 100 0).map.sects.get 0).curve.get mk.2.castSucc : Int) +
        (((((sweeping mk.1 100 0).map.sects.get 0).curve.get mk.2.succ : Int) -
          ((sweeping mk.1 100 0).map.sects.get 0).curve.get mk.2.castSucc) * ((mk.1 : Int) - 256 * mk.2.val)).tdiv 256 +
          ((sweeping mk.1 100 0).eng.mirror.get 0).trim))).toNat ∧
      ((sweeping mk.1 100 0).eng.mirror.get 0).level = 100) ∧
    (Takes (sweeping 2047 0 31) .sweepStep ∧ (sweeping 2047 0 31).voice.queue.length < 32) ∧
    (Takes (sweeping 2047 0 32) .sweepStep ∧ 32 ≤ (sweeping 2047 0 32).voice.queue.length) ∧
    ((sweepWaiting 32).eng.item = some { kind := .sweepStep 0, wait := .push (.level 0 0), jobs := [] } ∧
      (sweepWaiting 32).eng.sweep = some 0 ∧ 32 ≤ (sweepWaiting 32).voice.queue.length) ∧
    (sweepWaiting 31).voice.queue.length < 32 := by
  unfold Takes
  decide +kernel

/-- The record of position 5 with slot 0, and an item of kind `k` about to push, with `n` writes in the queue. -/
def pushing (k : ItemKind) (pu : Push) (js : List Job) (n : Nat) : State :=
  let s := queued n (budgeted 64 .keep (oneVoice .performing))
  { s with eng := { s.eng with item := some { kind := k, wait := .push pu, jobs := js } } }

/-- The state with four groups in the table. -/
def fourGroups (s : State) : State :=
  { s with voice := { s.voice with groups := [1, 2, 3, 4].map fun n => { openGroup with tag := n } } }

/-- Any layer of section 0. -/
def someLayer : Layer := { patch := 0, note := 60, sect := 0, trim := 0, pan := 0 }

/-- INIT's blank records from the 33rd on, with `n` writes in the queue. -/
def blanking (n : Nat) : State :=
  let s := queued n (initIn .voiceTable)
  let it : Item := { kind := .rebuild, wait := .push (.blank 32), jobs := ((List.finRange 64).drop 33).map .blank }
  { s with eng := { s.eng with item := some it } }

theorem groupRoom (n : Nat) (h : n ≤ 31) (s : State) (hg : s.voice.groups = []) : GroupRoom (queued n s) :=
  ⟨by have := (room n h s hg).1; omega, .inl (room n h s hg).2.1⟩

theorem witness_PushWaitsAndTheirEnds :
    (∀ k pu js n, Pushing (pushing k pu js n) k pu js) ∧ 32 ≤ (pushing .expiry (.blank 0) [] 32).voice.queue.length ∧
    (4 ≤ (fourGroups (pushing (.press 5) (.full 5 1 false someLayer 0 .push) [] 0)).voice.groups.length ∧
      fillingGroup (fourGroups (pushing (.press 5) (.full 5 1 false someLayer 0 .push) [] 0)).voice = none) ∧
    (∀ k pu js, GroupRoom (pushing k pu js 31)) ∧
    (∀ k pu js n, (pushing k pu js n).ctrl.op = .performing ∧
      findRec (pushing k pu js n).eng 5 = some (rec5 .hold false) ∧ SlotLaw (pushing k pu js n) ∧
      (0 : Slot) ∈ (pushing k pu js n).eng.order ∧ (1 : Slot) ∈ (pushing k pu js n).eng.free) ∧
    (pushing .hush (.blank 0) [] 31).voice.queue.length < 32 := by
  refine ⟨fun _ _ _ _ => rfl, by decide, ⟨by decide, by decide⟩, fun k pu js => ?_,
    fun _ _ _ _ => ⟨rfl, rfl, slotLaw_oneVoice, List.mem_singleton.mpr rfl, List.mem_cons_self⟩, by decide⟩
  exact groupRoom 31 (by decide) { budgeted 64 .keep (oneVoice .performing) with
    eng := { (oneVoice .performing).eng with item := some { kind := k, wait := .push pu, jobs := js } } } rfl

theorem witness_TheRestOfTheBlankRecords :
    (∀ n, Pushing (blanking n) .rebuild (.blank 32) (((List.finRange 64).drop 33).map .blank) ∧
      (blanking n).eng.order = []) ∧
    (32 : Slot) :: (List.finRange 64).drop 33 = (List.finRange 64).drop 32 ++ [] ∧
    (32 : Slot) :: (List.finRange 64).drop 33 = ((List.finRange 64).drop 32).take 1 ++ (List.finRange 64).drop 33 ∧
    (blanking 0).voice.queue.length + ((List.finRange 64).drop 32).length = 32 ∧
    (blanking 31).voice.queue.length + (((List.finRange 64).drop 32).take 1).length = 32 ∧
    (after .pushWaitEnd (blanking 0)).eng.item = none ∧
    (after .pushWaitEnd (blanking 31)).eng.item = some
      { kind := .rebuild, wait := .push (.blank 33), jobs := ((List.finRange 64).drop 34).map .blank } := by
  refine ⟨fun _ => ⟨rfl, rfl⟩, by decide +kernel⟩

/-- The last push of a record that leaves, with the places of both walks at it. -/
theorem test_places_after_a_waiting_push :
    (let s := pushing (.sustainStep 5) (.freeing 0 true) [.removeRecord 5] 31;
      let t := after .pushWaitEnd { s with eng := { s.eng with revWalk := some 5, sweep := some 0 } };
      t.eng.revWalk = none ∧ t.eng.sweep = none ∧ t.eng.held = [] ∧ t.eng.item = none) ∧
    (let s := pushing (.reversalStep 5) (.releasing 5 0 3) [] 31;
      let t := after .pushWaitEnd { s with eng := { s.eng with revWalk := some 5, sweep := some 0 } };
      t.eng.revWalk = none ∧ t.eng.sweep = some 0 ∧ t.eng.held.map (·.voices) = [[]]) := by decide +kernel

/-- A FULL write that had to wait starts its voice; outside PERFORMING it is not pushed. -/
theorem test_a_waiting_full_write :
    (let t := after .pushWaitEnd (pushing (.press 5) (.full 5 1 false someLayer 0 .push) [] 31);
      t.eng.order = [0, 1] ∧ t.eng.held.map (·.voices) = [[0, 1]] ∧ t.eng.item = none ∧ t.voice.queue.length = 32) ∧
    (let s := pushing (.press 5) (.full 5 1 false someLayer 0 .push) [] 31;
      let t := after .pushWaitEnd { s with ctrl := { s.ctrl with op := .settling } };
      t.eng.order = [0] ∧ t.eng.item = none ∧ t.voice.queue.length = 31) ∧
    after .pushWaitEnd (fourGroups (pushing (.press 5) (.full 5 1 false someLayer 0 .push) [] 0)) =
      fourGroups (pushing (.press 5) (.full 5 1 false someLayer 0 .push) [] 0) := by decide +kernel

/-- Each law holds in a state where it says something, and that state steps. -/
theorem witness_EveryStepKeepsTheSlotAndHeldLaws :
    SlotLaw (oneVoice .performing) ∧ HeldLaw (oneVoice .performing) ∧ HeldLaw fullTable ∧
      Runs (oneVoice .performing) := by
  refine ⟨slotLaw_oneVoice, ?_, ?_, _, rfl⟩ <;> unfold HeldLaw <;> decide +kernel

theorem listed_oneVoice (k : ItemKind) (pu : Push) (js : List Job) (n : Nat) :
    HeldLaw (pushing k pu js n) ∧ ListedLaw (pushing k pu js n) := by
  show HeldLaw (oneVoice .performing) ∧ ListedLaw (oneVoice .performing)
  unfold HeldLaw ListedLaw
  decide +kernel

/-- The laws of the held-button table with an item that waits for room: one that releases a voice and then takes its
record away, one that starts layers, and one that waits for its program. -/
theorem witness_EveryStepKeepsTheListedLaw :
    (let s := pushing (.press 5) (.releasing 5 0 3) [.removeRecord 5, .pressEntry 5] 32;
      SlotLaw s ∧ HeldLaw s ∧ ListedLaw s ∧ ItemLaw s) ∧
    (let s := pushing (.press 5) (.full 5 1 false someLayer 0 .push) [.layer 5 1 someLayer] 32;
      SlotLaw s ∧ HeldLaw s ∧ ListedLaw s ∧ ItemLaw s) ∧
    ItemLaw pressVoicing := by
  refine ⟨⟨slotLaw_oneVoice, (listed_oneVoice _ _ _ _).1, (listed_oneVoice _ _ _ _).2, ?_⟩,
    ⟨slotLaw_oneVoice, (listed_oneVoice _ _ _ _).1, (listed_oneVoice _ _ _ _).2, ?_⟩, ?_⟩
  · rintro it ⟨⟩
    refine ⟨fun before j after hs r hr hj i hi => ?_, by decide +kernel, by decide, by decide, fun h => by cases h⟩
    match before, hs with
    | [], hs => cases hs; simp at hj
    | [_], hs =>
      cases hs
      simp only [pushing, queued, budgeted, oneVoice, List.mem_singleton] at hr
      subst hr
      simpa [rec5, Job.letsGo] using hi
    | [_, _], hs => cases hs; simp at hj
    | _ :: _ :: _ :: b, hs => simp [Item.todo, Push.job] at hs
  · rintro it ⟨⟩
    refine ⟨fun before j after hs r hr hj i hi => ?_, by decide +kernel, by decide, by decide, fun h => by cases h⟩
    match before, hs with
    | [], hs => cases hs; simp at hj
    | [_], hs => cases hs; simp at hj
    | _ :: _ :: b, hs => simp [Item.todo, Push.job] at hs
  · rintro it ⟨⟩
    exact ⟨fun before j after hs => by simp [Item.todo] at hs, by decide +kernel, by decide,
      by decide +kernel, fun h => by cases h⟩

theorem witness_EveryStepKeepsTheEventLaw :
    ControlLaw (after (.pWrite (wr 0x010204 0 0b0010 0x00000100)) (inState .performing)) ∧
      EventLaw (after (.pWrite (wr 0x010204 0 0b0010 0x00000100)) (inState .performing)) := by
  unfold ControlLaw EventLaw eventKinds
  decide +kernel

theorem witness_ControlLawWithACommandInProgress : ControlLaw (inProgress .ack) := by
  unfold ControlLaw
  decide +kernel

theorem witness_EveryStepKeepsTheOperatingLaws :
    ControlLaw (inState .performing) ∧ CapacityLaw (inState .performing) ∧ CacheLaw (cached 5 0 (inState .performing)) ∧
      TrackerLaw (inState .performing) ∧ Runs (inState .performing) := by
  refine ⟨controlLaw_working _ (by decide), ?_, ?_, ?_, _, rfl⟩
  · unfold CapacityLaw; decide +kernel
  · unfold CacheLaw; decide +kernel
  · unfold TrackerLaw; decide +kernel

theorem witness_NoOpenGroupIsEverRead :
    HeldReadLaw (holdingRead (.waiting frameRead)) ∧ FillLaw (holdingRead (.waiting frameRead)) ∧
      TOpen (holdingRead (.waiting frameRead)) ∧
      (holdingRead (.waiting frameRead)).ctrl.valid = true ∧
      (holdingRead (.waiting frameRead)).ctrl.copy.check (controlBase (holdingRead (.waiting frameRead)).ctrl.dsel) = none ∧
      touchesOpen (holdingRead (.waiting frameRead)) frameRead = true := by
  refine ⟨?_, ⟨by decide, fun _ g hg => ?_⟩, ⟨rfl, rfl⟩, rfl, by decide +kernel, by decide +kernel⟩
  · exact ⟨by decide, by decide, .inr ⟨rfl, by decide +kernel⟩⟩
  · simp only [holdingRead, grouped, List.mem_cons, List.not_mem_nil, or_false] at hg
    subst hg
    rfl

theorem witness_TheGuardLockHoldsUntilPowerOn :
    (guardLocked true).ctrl.guard.lock = true ∧ Instr.guard (arg 0) ≠ .powerOnDetect ∧
      (∃ t, exec (.guard (arg 0)) (guardLocked true) = .next t) ∧
      (State.reset.ctrl.op = .held ∧ State.reset.pins.detectorActive = true) ∧
      heldByReset.ctrl.op = .held ∧ heldByReset.pins.detectorActive = false ∧ heldByReset.ctrl.guard.lock = true :=
  ⟨rfl, by decide, ⟨_, rfl⟩, ⟨rfl, rfl⟩, rfl, rfl, rfl⟩

end Sys2Proof.Tests
end

section
/-! PROOFS. What most operations leave alone of what the laws of the state speak of. -/

namespace Sys2Proof.Machine

/-- Nothing that the laws of operating state, events, sizes, cache and tracker speak of has changed, but that a
collection may have shrunk. INIT may have gone on to another phase. -/
structure Quiet (s t : State) : Prop where
  ctrl : t.ctrl = { s.ctrl with
    phase := t.ctrl.phase, argRead := t.ctrl.argRead, argAhead := t.ctrl.argAhead, bank := t.ctrl.bank
    swap := t.ctrl.swap }
  phase : t.ctrl.phase.isSome = s.ctrl.phase.isSome
  down : t.scan.down = s.scan.down
  events : t.scan.events = s.scan.events
  magnitude : t.bellows.magnitude = s.bellows.magnitude
  notified : t.bellows.notified = s.bellows.notified
  hold : t.bellows.hold = s.bellows.hold
  level : t.bellows.levelNotice = s.bellows.levelNotice ∨ t.bellows.levelNotice = none
  applied : t.eng.appliedMag ≤ s.eng.appliedMag
  frames : t.eng.pendingFrames ≤ s.eng.pendingFrames
  cache : t.map.cache = s.map.cache
  writes : t.player.writes.length ≤ s.player.writes.length
  arb : t.arb = { s.arb with access := t.arb.access }
  queue : t.voice.queue.length ≤ s.voice.queue.length
  groups : t.voice.groups.length ≤ s.voice.groups.length

namespace Quiet

variable {s t u : State}

theorem refl (s : State) : Quiet s s := by constructor <;> simp

theorem trans (h : Quiet s t) (k : Quiet t u) : Quiet s u where
  ctrl := by rw [k.ctrl, h.ctrl]
  phase := k.phase.trans h.phase
  down := k.down.trans h.down
  events := k.events.trans h.events
  magnitude := k.magnitude.trans h.magnitude
  notified := k.notified.trans h.notified
  hold := k.hold.trans h.hold
  level := by
    rcases k.level with e | e
    · rw [e]; exact h.level
    · exact .inr e
  applied := k.applied.trans h.applied
  frames := k.frames.trans h.frames
  cache := k.cache.trans h.cache
  writes := k.writes.trans h.writes
  arb := by rw [k.arb, h.arb]
  queue := k.queue.trans h.queue
  groups := k.groups.trans h.groups

theorem count (h : Quiet s t) (r : Requester) : t.arb.count r = s.arb.count r := by
  rw [h.arb]
  cases r <;> rfl

theorem guard (h : Quiet s t) : t.ctrl.guard = s.ctrl.guard := by rw [h.ctrl]

theorem op (h : Quiet s t) : t.ctrl.op = s.ctrl.op := by rw [h.ctrl]

/-- An operation that keeps the control unit, the tracker, the down image and the collections is quiet. -/
theorem of_report (h : Quiet s t) (a : State) : Quiet s (report a t) :=
  h.trans (by constructor <;> simp)

end Quiet

/-- Nothing that the laws of sizes, cache and tracker speak of has grown. -/
structure Smaller (s t : State) : Prop where
  settleFrames : t.ctrl.settleFrames ≤ s.ctrl.settleFrames
  magnitude : t.bellows.magnitude ≤ s.bellows.magnitude
  notified : t.bellows.notified ≤ s.bellows.notified
  hold : t.bellows.hold ≤ s.bellows.hold
  level : t.bellows.levelNotice = s.bellows.levelNotice ∨ t.bellows.levelNotice = none
  applied : t.eng.appliedMag ≤ s.eng.appliedMag
  frames : t.eng.pendingFrames ≤ s.eng.pendingFrames
  cache : t.map.cache = s.map.cache ∨ t.map.cache = []
  writes : t.player.writes.length ≤ s.player.writes.length
  counts : ∀ r, t.arb.count r ≤ s.arb.count r
  queue : t.voice.queue.length ≤ s.voice.queue.length
  groups : t.voice.groups.length ≤ s.voice.groups.length

theorem Quiet.smaller {s t : State} (h : Quiet s t) : Smaller s t where
  settleFrames := by rw [h.ctrl]
  magnitude := h.magnitude.le
  notified := h.notified.le
  hold := h.hold.le
  level := h.level
  applied := h.applied
  frames := h.frames
  cache := .inl h.cache
  writes := h.writes
  counts r := (h.count r).le
  queue := h.queue
  groups := h.groups

theorem Smaller.trans {s t u : State} (h : Smaller s t) (k : Smaller t u) : Smaller s u where
  settleFrames := k.settleFrames.trans h.settleFrames
  magnitude := k.magnitude.trans h.magnitude
  notified := k.notified.trans h.notified
  hold := k.hold.trans h.hold
  level := k.level.elim (fun e => e ▸ h.level) .inr
  applied := k.applied.trans h.applied
  frames := k.frames.trans h.frames
  cache := k.cache.elim (fun e => e ▸ h.cache) .inr
  writes := k.writes.trans h.writes
  counts r := (k.counts r).trans (h.counts r)
  queue := k.queue.trans h.queue
  groups := k.groups.trans h.groups

/-! ### The status unit, the ports and the fetcher -/

theorem quiet_raiseFlag (f : BitVec 7) (s : State) : Quiet s (raiseFlag f s) := by constructor <;> simp
theorem quiet_logFault (k : FaultKind) (p : PortId) (a : Addr) (s : State) : Quiet s (logFault k p a s) := by
  constructor <;> simp
theorem quiet_setCounters (g : Counters → Counters) (s : State) : Quiet s (setCounters g s) := by constructor <;> simp
theorem quiet_dropFor (r : DropReason) (s : State) : Quiet s (dropFor r s) := by constructor <;> simp
theorem quiet_ackFlags (m : BitVec 7) (s : State) : Quiet s (ackFlags m s) := by constructor <;> simp
theorem quiet_takeOpcode (o : Byte) (s : State) : Quiet s (takeOpcode o s) := by constructor <;> simp
theorem quiet_finish (w : Awaited) (r : CmdResult) (s : State) : Quiet s (finish w r s) := by constructor <;> simp
theorem quiet_answer (r : CmdResult) (s : State) : Quiet s (answer r s) := quiet_finish _ r s
theorem quiet_leavePending (w : Awaited) (s : State) : Quiet s (leavePending w s) := by constructor <;> simp
theorem quiet_beginSnapshot (s : State) : Quiet s (beginSnapshot s) := by constructor <;> simp
theorem quiet_requestSnapshot (s : State) : Quiet s (requestSnapshot s) := by constructor <;> simp
theorem quiet_answerP (a : Answer) (s : State) : Quiet s (answerP a s) := by constructor <;> simp
theorem quiet_answerT (a : Answer) (s : State) : Quiet s (answerT a s) := by constructor <;> simp
theorem quiet_freePort (s : State) : Quiet s (freePort s) := by constructor <;> simp [freePort]
theorem quiet_logError (a : Access) (e : Bool) (s : State) : Quiet s (logError a e s) := by constructor <;> simp
theorem quiet_setTone (t : Tone) (s : State) : Quiet s (s.setTone t) := by constructor <;> simp
theorem quiet_setPins (x : Pins) (s : State) : Quiet s (s.setPins x) := by constructor <;> simp
theorem quiet_endFetch (s : State) : Quiet s (endFetch s) := by constructor <;> simp [endFetch]
theorem quiet_setSects (x : Tbl 8 SectRecord) (s : State) : Quiet s (s.setMap { s.map with sects := x }) := by
  constructor <;> simp
theorem quiet_setFetch (x : Option Fetch) (s : State) : Quiet s (s.setMap { s.map with fetch := x }) := by
  constructor <;> simp
theorem quiet_setEngReq (x : Option EngReq) (s : State) : Quiet s (s.setMap { s.map with engReq := x }) := by
  constructor <;> simp

/-- An engine whose applied magnitude does not rise and that gains no pending frame. -/
theorem quiet_setEng {s : State} {e : Engine} (hm : e.appliedMag ≤ s.eng.appliedMag := by exact Nat.le_refl _)
    (hf : e.pendingFrames ≤ s.eng.pendingFrames := by exact Nat.le_refl _) : Quiet s (s.setEng e) := by
  constructor <;> simp [hm, hf]

theorem quiet_chooseFetch (s : State) : Quiet s (chooseFetch s) where
  ctrl := by rw [chooseFetch_ctrl]
  phase := by simp
  down := by simp
  events := by simp
  magnitude := by simp
  notified := by simp
  hold := by simp
  level := by simp
  applied := by simp
  frames := by simp
  cache := by simp
  writes := by simp
  arb := by simp
  queue := by simp
  groups := by simp

theorem quiet_overtake (f : Bank → Pos → Bool) (s : State) : Quiet s (overtake f s) := by
  unfold overtake
  repeat' split
  all_goals first | exact Quiet.refl s | exact quiet_setFetch _ s

/-! ### Swaps -/

theorem quiet_completeSwap (s : State) : Quiet s (completeSwap s) := by constructor <;> simp [completeSwap]

theorem quiet_takeSwap (w : Swap) (s : State) : Quiet s (takeSwap w s) := by
  unfold takeSwap
  dsimp only []
  have h : Quiet s (report s (s.setCtrl { s.ctrl with bank := w.incoming })) := by constructor <;> simp
  split
  · exact h.trans (by constructor <;> simp)
  · exact h.trans (quiet_completeSwap _)

theorem quiet_testSwap (s : State) : Quiet s (testSwap s) := by
  unfold testSwap
  split
  · split
    · exact quiet_takeSwap _ s
    · exact Quiet.refl s
  · exact Quiet.refl s

theorem quiet_endRestrike (s : State) : Quiet s (endRestrike s) := by
  unfold endRestrike
  split
  · exact (quiet_setEng (s := s) (e := { s.eng with restrikeWalk := false })).trans (quiet_completeSwap _)
  · exact Quiet.refl s

theorem quiet_testSwapLanding (w : WriteReq) (s : State) : Quiet s (testSwapLanding w s) := by
  unfold testSwapLanding
  split
  · split
    · exact quiet_testSwap s
    · exact Quiet.refl s
  · exact Quiet.refl s

theorem quiet_argumentNearer (s : State) : Quiet s (argumentNearer s) := by
  unfold argumentNearer
  split
  · constructor <;> simp
  · exact Quiet.refl s

/-! ### The end of an item, and its waits -/

theorem quiet_tryFill (s : State) : Quiet s (tryFill s) := by
  unfold tryFill
  split
  · split
    · exact quiet_setTone _ s
    · exact Quiet.refl s
  all_goals exact Quiet.refl s

/-- Groups only leave the table when it closes some (R118). -/
theorem quiet_closeGroups (s : State) : Quiet s (closeGroups s) := by
  refine Quiet.trans ?_ (quiet_tryFill _)
  constructor <;> simp [List.length_filter_le]

theorem quiet_endFilling (s : State) : Quiet s (endFilling s) := by
  refine Quiet.trans ?_ (quiet_closeGroups _)
  constructor <;> simp

theorem quiet_leaveFetch (w : Wait) (s : State) : Quiet s (leaveFetch w s) := by
  unfold leaveFetch
  repeat' split
  all_goals first
    | exact Quiet.refl s
    | exact quiet_setEngReq _ s
    | exact quiet_setEng

theorem quiet_endItem (s : State) : Quiet s (endItem s) := by
  unfold endItem
  split
  · next it _ =>
    exact ((quiet_setEng (s := s) (e := { s.eng with item := none })).trans
      (quiet_leaveFetch it.wait _)).trans (quiet_endFilling _)
  · exact Quiet.refl s

theorem quiet_waitFor (k : ItemKind) (w : Wait) (js : List Job) (s : State) : Quiet s (waitFor k w js s) :=
  quiet_setEng

theorem quiet_missEntry (k : ItemKind) (b : Bank) (p : Pos) (s : State) : Quiet s (missEntry k b p s) := by
  unfold missEntry
  split
  · exact quiet_waitFor _ _ _ s
  · exact (quiet_setEngReq _ s).trans (quiet_waitFor _ _ _ _)

theorem quiet_handEntry (b : Bank) (p : Pos) (w : Word) (s : State) : Quiet s (handEntry b p w s).2 := by
  constructor <;> simp

/-! ### INIT's phases -/

/-- INIT goes on to another phase (1.7). -/
theorem quiet_setPhase {s : State} {ph : InitPhase} (h : s.ctrl.phase.isSome = true) :
    Quiet s (s.setCtrl { s.ctrl with phase := some ph }) := by
  constructor <;> simp [h]

theorem quiet_enterSnapshotPhase {s : State} (h : s.ctrl.phase.isSome = true) : Quiet s (enterSnapshotPhase s) :=
  (((quiet_setPhase h).of_report s).trans (quiet_finish _ _ _)).trans (quiet_beginSnapshot _)

end Sys2Proof.Machine
end

section
/-! PROOFS. What keeps a law of the state: one clause for each move that is not quiet, and every command is made of such
moves. -/

namespace Sys2Proof.Machine

/-- `P` survives every move that a command is made of, the entry to HELD at power-on apart. With `C`, `P` includes the
law of the control unit, and the moves are guarded by what that law says. -/
structure Kept (C : Prop) (P : State → Prop) : Prop where
  quiet {s t : State} : Quiet s t → P s → P t
  control {s : State} : C → P s → ControlLaw s
  held {s : State} : P s → P (enterHeld false s)
  release {s : State} (d : BitVec 2) (b : Bool) : s.ctrl.op = .held → P s → P (releaseHeld d b s)
  reinit {s : State} : P s → P (takeReinit s)
  descriptor {s : State} {d : Option Desc} {v : Bool} : s.ctrl.phase.isSome = true →
    (v = true → (d.getD Desc.zero).check (controlBase s.ctrl.dsel) = none) → P s →
    P (s.setCtrl { s.ctrl with desc := d, valid := v })
  initEnd {s : State} : s.ctrl.phase.isSome = true → P s → P (endInit s)
  hushReading {s : State} (b : Bool) : P s → P (workOut (s.setCtrl { s.ctrl with hushReading := b }))
  sustReading {s : State} (b : Bool) : P s → P (workOutSustain (s.setCtrl { s.ctrl with sustReading := b }))
  sustainFlag {s : State} (b : Bool) : P s → P (workOutSustain (s.setCtrl { s.ctrl with sustainFlag := b }))
  hush {s : State} : P s → P (announceHush s)
  performing {s : State} : s.ctrl.op = .transparent → (C → s.ctrl.valid = true) → P s → P (enterPerforming s)
  settling {s : State} : s.ctrl.op = .performing → P s → P (enterSettling s)
  transparent {s : State} : s.ctrl.op = .performing → s.scan.events = [] → P s → P (enterTransparent s)
  settled {s : State} : s.ctrl.settleCut = true ∨ s.ctrl.op = .settling → P s → P (endSettling s)
  guard {s : State} {g : Guard} : s.ctrl.guard.lock = false → g.first ≤ g.last → P s →
    P (s.setCtrl { s.ctrl with guard := g })
  lock {s : State} : P s → P (s.setCtrl { s.ctrl with guard := { s.ctrl.guard with lock := true } })
  argument {s : State} {o : Opcode} : s.ctrl.op.working = true → o.hasArg = true →
    s.ctrl.valid = true ∨ o.anyDescriptor = true → P s → P (s.setCtrl { s.ctrl with command := some o })
  noCommand {s : State} : P s → P (s.setCtrl { s.ctrl with command := none })
  settleFrame {s : State} : P s →
    P (s.setCtrl { s.ctrl with settleFrames := nextSettleFrame s.ctrl.settleFrames })
  settleCut {s : State} : s.ctrl.op = .settling → P s →
    P (s.setCtrl { s.ctrl with settleCut := true, settleTimer := none })
  event {s : State} : P s → P (s.setScan { s.scan with events := s.scan.events.tail })
  trip {s : State} : P s → P (s.setScan s.scan.trip)
  buttons {s : State} {l : List (Pos × Bool)} : (l.map (·.1)).Nodup →
    eventCount s.ctrl.op (hushPinActive s.ctrl) s.scan l ≤ s.scan.freeSpace → P s →
    P (l.foldl (fun t x => report t (t.setScan (t.scan.apply t.ctrl.op (hushPinActive t.ctrl) x))) s)
  sample {s : State} (d : Desc) (op : OpState) (p : Int) : P s → P (s.setBellows (s.bellows.sample d op p))
  hold {s : State} : P s → P (s.setBellows (s.bellows.frame s.ctrl.copy s.ctrl.op))
  level {s : State} {m : Nat} : s.bellows.levelNotice = some m → P s → P (takeLevelNotice m s)
  evict {s : State} (b : Bank) (p : Pos) : P s → P (s.setMap { s.map with cache := evict b p s.map.cache })
  flush {s : State} : P s → P (s.setMap { s.map with cache := [] })
  promote {s : State} {e : CacheEntry} : e ∈ s.map.cache → P s →
    P (s.setMap { s.map with cache := promote e s.map.cache })
  install {s : State} (e : CacheEntry) : P s → P (s.setMap { s.map with cache := install e s.map.cache })
  post {s : State} (w : WriteReq) : s.player.writes.length < 8 → P s →
    P (s.setPlayer { s.player with writes := s.player.writes ++ [w] })
  grant {s : State} : P s → P (grant s)
  push {s : State} {pu : Push} : canPush s pu = true → P s → P (doPush pu s)
  frameCount {s : State} : P s → P (s.setEng { s.eng with pendingFrames := addFrame s.eng.pendingFrames })

namespace Kept

variable {C : Prop} {P : State → Prop} {s : State}

/-! ### The items of the voicing engine -/

theorem afterItem (h : Kept C P) (k : ItemKind) (hs : P s) : P (afterItem k s) := by
  unfold Machine.afterItem
  split
  · split
    · exact h.quiet quiet_setEng hs
    · exact hs
  · exact h.quiet quiet_setEng hs
  · split
    · next hc => exact h.settled (.inl hc) hs
    · exact hs
  all_goals exact hs

theorem itemEnd (h : Kept C P) (k : ItemKind) (hs : P s) : P (itemEnd k s) :=
  h.afterItem k (h.quiet (Quiet.trans quiet_setEng (quiet_endFilling _)) hs)

theorem waitFor (h : Kept C P) (k : ItemKind) (w : Wait) (js : List Job) (hs : P s) : P (waitFor k w js s) :=
  h.quiet (quiet_waitFor k w js s) hs

theorem voiceRecord (h : Kept C P) (k : ItemKind) (p : Pos) (hs : P s) : P (voiceRecord k p s) := by
  unfold Machine.voiceRecord
  split
  · exact h.itemEnd k hs
  · split
    · exact h.itemEnd k hs
    · split
      · exact h.itemEnd k hs
      · split
        · exact h.waitFor _ _ _ hs
        · exact h.waitFor _ _ _ (h.quiet (quiet_setEngReq _ s) hs)

theorem missEntry (h : Kept C P) (k : ItemKind) (b : Bank) (p : Pos) (hs : P s) : P (missEntry k b p s) :=
  h.quiet (quiet_missEntry k b p s) hs

theorem pressEntered (h : Kept C P) (b : Bank) (p : Pos) (n : EntrySnap) (hs : P s) : P (pressEntered b p n s) := by
  unfold Machine.pressEntered
  dsimp only []
  split
  · exact h.voiceRecord _ _ (h.quiet ((quiet_setEng).of_report s) hs)
  · exact h.itemEnd _ hs

/-- A hit in the map cache moves an entry of it to the front (R76). -/
theorem hitEntry (h : Kept C P) {b : Bank} {p : Pos} {e : CacheEntry} (he : lookupEntry b p s.map.cache = some e)
    (hs : P s) : P (hitEntry e s).2 :=
  h.quiet (quiet_handEntry _ _ _ _) (h.promote (List.mem_of_find?_eq_some he) hs)

theorem pressRequest (h : Kept C P) (p : Pos) (hs : P s) : P (pressRequest p s) := by
  unfold Machine.pressRequest
  split
  · exact h.itemEnd _ (h.quiet (quiet_dropFor _ s) hs)
  · dsimp only []
    split
    · next e he => exact h.pressEntered _ _ _ (h.hitEntry he hs)
    · exact h.missEntry _ _ _ hs

theorem runJobs (h : Kept C P) (k : ItemKind) (js : List Job) (hs : P s) : P (runJobs k js s) :=
  runJobs_keeps (P := P) (fun _ => h.itemEnd k) (fun w js _ => h.waitFor k w js) (fun _ _ hp => h.push hp)
    (fun p t => h.quiet ((quiet_setEng).of_report t))
    (fun t => h.quiet (quiet_endFilling t)) (fun t => h.quiet ((quiet_setEng).of_report t))
    (fun p _ => h.pressRequest p) (fun p _ => h.voiceRecord k p) (fun r t => h.quiet (quiet_dropFor r t)) js s hs

theorem resumePush (h : Kept C P) (it : Item) (pu : Push) (hs : P s) : P (resumePush it pu s) := by
  unfold Machine.resumePush
  split
  · next hp =>
    split
    · exact h.runJobs _ _ (h.push hp hs)
    · exact h.itemEnd _ hs
  · exact hs

theorem restrikeEntered (h : Kept C P) (b : Bank) (p : Pos) (n : EntrySnap) (hs : P s) :
    P (restrikeEntered b p n s) := by
  unfold Machine.restrikeEntered
  have hu : P (s.setEng (updateRec p (fun r => { r with snap := n, bank := b }) s.eng)) :=
    h.quiet quiet_setEng hs
  dsimp only []
  split
  · exact h.itemEnd _ hu
  · exact h.runJobs _ _ hu

theorem entryGiven (h : Kept C P) (k : ItemKind) (b : Bank) (p : Pos) (n : EntrySnap) (hs : P s) :
    P (entryGiven k b p n s) := by
  unfold Machine.entryGiven
  split
  · exact h.pressEntered _ _ _ hs
  · exact h.restrikeEntered _ _ _ hs
  all_goals exact h.itemEnd _ hs

theorem requestEntry (h : Kept C P) (k : ItemKind) (b : Bank) (p : Pos) (hs : P s) : P (requestEntry k b p s) := by
  unfold Machine.requestEntry
  split
  · next e he => exact h.entryGiven _ _ _ _ (h.hitEntry he hs)
  · exact h.missEntry _ _ _ hs

theorem undiscard (h : Kept C P) (hs : P s) : P (s.setEng { s.eng with awaitDiscard := false }) :=
  h.quiet quiet_setEng hs

theorem deliverEntry (h : Kept C P) (b : Bank) (p : Pos) (n : EntrySnap) (hs : P s) : P (deliverEntry b p n s) := by
  unfold Machine.deliverEntry
  split
  · split
    · exact h.entryGiven _ _ _ _ hs
    · exact h.requestEntry _ _ _ (h.undiscard hs)
    · exact h.voiceRecord _ _ (h.undiscard hs)
    all_goals exact h.undiscard hs
  · exact h.undiscard hs

theorem deliverProgram (h : Kept C P) (ls : List (Fin 8 × Layer)) (hs : P s) : P (deliverProgram ls s) := by
  unfold Machine.deliverProgram
  split
  · split
    · exact h.runJobs _ _ hs
    · exact h.requestEntry _ _ _ (h.undiscard hs)
    · exact h.voiceRecord _ _ (h.undiscard hs)
    all_goals exact h.undiscard hs
  · exact h.undiscard hs

theorem chooseFetch (h : Kept C P) (hs : P s) : P (chooseFetch s) := h.quiet (quiet_chooseFetch s) hs

theorem hushItem (h : Kept C P) (hs : P s) : P (hushItem s) := by
  unfold Machine.hushItem
  apply h.runJobs
  apply h.quiet (quiet_endRestrike _)
  apply h.quiet (quiet_setEng (hf := by exact Nat.zero_le _))
  split
  · exact h.quiet (quiet_raiseFlag _ s) hs
  · exact hs

theorem reversalStep (h : Kept C P) (p : Pos) (hs : P s) : P (reversalStep p s) := by
  unfold Machine.reversalStep
  split
  · next r _ =>
    apply h.chooseFetch
    unfold reversalVisit
    have hu : P (turnRecord r.pos s) := h.quiet quiet_setEng hs
    dsimp only []
    split
    · exact h.itemEnd _ hs
    · split
      · exact h.itemEnd _ hu
      · exact h.runJobs _ _ hu
      · exact h.runJobs _ _ hu
  · exact h.quiet quiet_setEng hs

theorem takeEvent (h : Kept C P) (hs : P s) : P (takeEvent s) := h.quiet ((Quiet.refl _).of_report s) (h.event hs)

theorem pressItem (h : Kept C P) (p : Pos) (hs : P s) : P (pressItem p s) := by
  unfold Machine.pressItem
  dsimp only []
  split
  · exact h.runJobs _ _ (h.takeEvent hs)
  · exact h.pressRequest _ (h.takeEvent hs)

theorem releaseItem (h : Kept C P) (p : Pos) (hs : P s) : P (releaseItem p s) := by
  unfold Machine.releaseItem
  dsimp only []
  split
  · exact h.itemEnd _ (h.takeEvent hs)
  · split
    · exact h.itemEnd _ (h.quiet quiet_setEng (h.takeEvent hs))
    · exact h.runJobs _ _ (h.takeEvent hs)

theorem sustainStep (h : Kept C P) (hs : P s) : P (sustainStep s) := by
  unfold Machine.sustainStep
  split
  · exact h.quiet quiet_setEng hs
  · split
    · exact h.quiet quiet_setEng hs
    · exact h.runJobs _ _ hs

theorem restrikeStep (h : Kept C P) (hs : P s) : P (restrikeStep s) := by
  unfold Machine.restrikeStep
  split
  · exact h.quiet (quiet_endRestrike s) hs
  · exact h.chooseFetch (h.requestEntry _ _ _ hs)

theorem sweepStep (h : Kept C P) (i : Slot) (hs : P s) : P (sweepStep i s) := by
  unfold Machine.sweepStep
  dsimp only []
  split
  · exact h.itemEnd _ hs
  · split
    · next hp => exact h.itemEnd _ (h.push hp hs)
    · exact h.waitFor _ _ _ hs

/-! ### Frame starts and timers -/

theorem beginSettleCut (h : Kept C P) (ho : s.ctrl.op = .settling) (hs : P s) : P (beginSettleCut s) := by
  unfold Machine.beginSettleCut
  have hu := h.settleCut ho hs
  dsimp only []
  split
  · exact hu
  · split
    · exact h.quiet ((quiet_setEng).trans (quiet_endItem _)) hu
    all_goals exact hu

theorem frameScan (h : Kept C P) (hs : P s) : P (frameScan s) := by
  unfold Machine.frameScan
  have hq : Quiet s (s.setScan (s.scan.tick s.ctrl.copy s.ctrl.op)) := by
    constructor <;> simp [Scan.tick] <;> split <;> rfl
  have ht := h.quiet hq hs
  dsimp only []
  split
  · apply h.quiet (quiet_raiseFlag _ _)
    apply h.quiet quiet_setEng
    exact h.quiet ((Quiet.refl _).of_report s) (h.trip ht)
  · exact ht

theorem frameSettle (h : Kept C P) (ho : s.ctrl.op = .settling) (hs : P s) : P (frameSettle s) := by
  unfold Machine.frameSettle
  have hu := h.settleFrame hs
  dsimp only []
  split
  · exact hu
  · split
    · exact h.settled (.inr ho) hu
    · split
      · exact h.beginSettleCut ho hu
      · exact hu

theorem frameControl (h : Kept C P) (hs : P s) : P (frameControl s) := by
  unfold Machine.frameControl
  split
  · exact h.quiet (quiet_testSwap s) hs
  · next ho => exact h.frameSettle (by simpa using ho) (h.quiet (quiet_testSwap s) hs)
  all_goals exact hs

theorem frameStart (h : Kept C P) (hs : P s) : P (frameStart s) := by
  unfold Machine.frameStart
  apply h.frameControl
  apply h.frameScan
  apply h.quiet ((Quiet.refl _).of_report _)
  exact h.hold (h.frameCount (h.quiet ((quiet_setTone _ s).of_report s) hs))

theorem answerTRead (h : Kept C P) (r : ReadReq) (d : Tbl 8 Word) (hs : P s) : P (answerTRead r d s) := by
  unfold Machine.answerTRead
  have hu := h.quiet (quiet_answerT (.accept (answerWords r d)) s) hs
  dsimp only []
  split
  · exact h.frameStart hu
  · exact hu

end Kept

end Sys2Proof.Machine
end

section
/-! PROOFS. Where the words of one write lie: distinct aligned words, and a write of the command slot leaves the control
block nowhere. -/

namespace Sys2Proof.Machine

theorem controlBase_bound (d : BitVec 2) : controlBase d ≤ 0xF0000 ∧ controlBase d % 32 = 0 := by
  revert d; decide

/-- The words of an aligned request are aligned (R20). -/
theorem wordAddr_aligned {r : ReadReq} (h : r.start.toNat % 4 = 0) (i : Nat) : (wordAddr r i).toNat % 4 = 0 := by
  unfold wordAddr
  split
  · simp only [BitVec.toNat_add, BitVec.toNat_ofNat]; omega
  · simp only [BitVec.toNat_ofNat]; omega

/-- A request names no word twice (R20). -/
theorem wordAddr_injective {r : ReadReq} {i j : Nat} (hi : i < 8) (hj : j < 8) (h : wordAddr r i = wordAddr r j) :
    i = j := by
  have hn := congrArg BitVec.toNat h
  have := r.start.isLt
  unfold wordAddr at hn
  split at hn
  · simp only [BitVec.toNat_add, BitVec.toNat_ofNat] at hn; omega
  · simp only [BitVec.toNat_ofNat] at hn; omega

/-- A request that names a word of the command slot stays within the control block. -/
theorem wordAddr_control {r : ReadReq} {d : BitVec 2} {i j : Nat} (hi : i < 8) (hj : j < 8)
    (h₁ : controlBase d + 0x80 ≤ (wordAddr r i).toNat) (h₂ : (wordAddr r i).toNat < controlBase d + 0x88) :
    controlBase d ≤ (wordAddr r j).toNat ∧ (wordAddr r j).toNat < controlBase d + 512 := by
  obtain ⟨hb, hm⟩ := controlBase_bound d
  have := r.start.isLt
  revert h₁ h₂
  unfold wordAddr
  split
  · simp only [BitVec.toNat_add, BitVec.toNat_ofNat]; omega
  · simp only [BitVec.toNat_ofNat]; omega

theorem mem_namedAddrs {r : ReadReq} {a : Addr} (h : a ∈ namedAddrs r) : ∃ i < 8, wordAddr r i = a := by
  obtain ⟨i, hi, rfl⟩ := List.mem_map.mp h
  have := r.more.isLt
  exact ⟨i, by simp [ReadReq.len] at hi; omega, rfl⟩

theorem map_addr_namedWords (w : WriteReq) : (namedWords w).map (·.addr) = namedAddrs w.toReadReq := by
  simp [namedWords, namedAddrs, Function.comp_def]

/-- The command slot lies in the control block, and the regions outside it (R3, R24). -/
theorem bounds_of_command {c : Control} {a : Addr} (h : areaOf c a = .command) :
    controlBase c.dsel + 0x80 ≤ a.toNat ∧ a.toNat < controlBase c.dsel + 0x88 := by
  unfold areaOf at h
  dsimp only [] at h
  split at h
  · next hw =>
    simp only [within, decide_eq_true_eq] at hw
    unfold controlPart at h
    split at h <;> [simp at h; skip]
    split at h <;> [omega; skip]
    (repeat' split at h) <;> simp at h
  · (repeat' split at h) <;> simp at h

/-- No write names both a word of the command slot and a button. -/
theorem not_scan_of_command {c : Control} {r : ReadReq} {a b : Addr} (ha : a ∈ namedAddrs r) (hb : b ∈ namedAddrs r)
    (hc : areaOf c a = .command) : areaOf c b ≠ .scan := by
  obtain ⟨i, hi, rfl⟩ := mem_namedAddrs ha
  obtain ⟨j, hj, rfl⟩ := mem_namedAddrs hb
  obtain ⟨h₁, h₂⟩ := bounds_of_command hc
  obtain ⟨h₃, h₄⟩ := wordAddr_control hi hj h₁ h₂
  rw [areaOf_control h₃ h₄]
  unfold controlPart
  (repeat' split) <;> simp

/-! ### The areas of a write, each once (R24) -/

theorem areasInOrder_nodup (c : Control) (as : List Addr) : (areasInOrder c as).Nodup := by
  have key : ∀ (l acc : List Area), acc.Nodup →
      (l.foldl (fun acc x => if acc.contains x then acc else acc ++ [x]) acc).Nodup := by
    intro l
    induction l with
    | nil => exact fun acc h => h
    | cons y l ih =>
      intro acc h
      apply ih
      dsimp only []
      split
      · exact h
      · next hc => exact List.concat_eq_append ▸ h.concat (by simpa using hc)
  exact key _ _ List.nodup_nil

/-! ### The buttons of a SCAN part, each once (R43) -/

theorem insertByAddr_perm (w : NamedWord) (l : List NamedWord) : (insertByAddr w l).Perm (w :: l) := by
  induction l with
  | nil => exact .refl _
  | cons v l ih =>
    unfold insertByAddr
    split
    · exact .refl _
    · exact (ih.cons v).trans (.swap w v l)

theorem sortByAddr_perm (ws : List NamedWord) : (sortByAddr ws).Perm ws := by
  induction ws with
  | nil => exact .refl _
  | cons w ws ih => exact (insertByAddr_perm w _).trans (ih.cons w)

/-- The words of an aligned write stand at least four bytes apart. -/
theorem namedWords_apart {w : WriteReq} (h : w.start.toNat % 4 = 0) :
    (namedWords w).Pairwise fun u v =>
      u.addr.toNat % 4 = 0 ∧ v.addr.toNat % 4 = 0 ∧ u.addr.toNat ≠ v.addr.toNat := by
  unfold namedWords
  rw [List.pairwise_map]
  have hlen : w.toReadReq.len ≤ 8 := by
    have := w.more.isLt
    simp only [ReadReq.len]
    omega
  refine List.Pairwise.imp_of_mem ?_ (List.nodup_range (n := w.toReadReq.len))
  intro i j hi hj hne
  refine ⟨wordAddr_aligned h i, wordAddr_aligned h j, fun e => hne ?_⟩
  rw [List.mem_range] at hi hj
  exact wordAddr_injective (by omega) (by omega) (BitVec.eq_of_toNat_eq e)

/-- A position that a word gives a new state lies at one of the word's four bytes. -/
theorem pos_of_buttonsOfWord {d : Desc} {w : NamedWord} {p : Pos} (h : p ∈ (buttonsOfWord d w).map (·.1)) :
    ∃ i < 4, p.val = w.addr.toNat - d.scan.toNat + i := by
  simp only [buttonsOfWord, List.map_map, List.mem_map, List.mem_filter, List.mem_range, Bool.and_eq_true,
    Function.comp_apply, offsetFrom] at h
  obtain ⟨i, ⟨hi, -, hlt⟩, rfl⟩ := h
  have hlt' := of_decide_eq_true hlt
  refine ⟨i, hi, ?_⟩
  simp only [Fin.ofNat_eq_cast, Fin.val_natCast]
  omega

theorem buttonsOfWord_nodup (d : Desc) (w : NamedWord) : ((buttonsOfWord d w).map (·.1)).Nodup := by
  unfold buttonsOfWord
  rw [List.map_map, List.nodup_map_iff_inj_on (List.nodup_range.filter _)]
  intro i hi j hj e
  simp only [List.mem_filter, Bool.and_eq_true, decide_eq_true_eq] at hi hj
  have := congrArg Fin.val e
  simp only [Function.comp_apply, Fin.ofNat_eq_cast, Fin.val_natCast] at this
  omega

/-- A SCAN part gives each position one new state at most. -/
theorem buttonChanges_nodup {c : Control} {w : WriteReq} (h : w.start.toNat % 4 = 0) :
    ((buttonChanges c.copy (partOf c .scan (namedWords w))).map (·.1)).Nodup := by
  unfold buttonChanges
  rw [List.map_flatMap, List.nodup_flatMap]
  refine ⟨fun x _ => buttonsOfWord_nodup _ x, ?_⟩
  have hp := (sortByAddr_perm (partOf c .scan (namedWords w)))
  have hapart : (sortByAddr (partOf c .scan (namedWords w))).Pairwise fun u v =>
      u.addr.toNat % 4 = 0 ∧ v.addr.toNat % 4 = 0 ∧ u.addr.toNat ≠ v.addr.toNat :=
    (hp.pairwise_iff (fun ⟨h₁, h₂, h₃⟩ => ⟨h₂, h₁, Ne.symm h₃⟩)).mpr ((namedWords_apart h).filter _)
  refine List.Pairwise.imp_of_mem ?_ hapart
  intro u v hu hv ⟨h₁, h₂, h₃⟩
  have inScan {x : NamedWord} (hx : x ∈ sortByAddr (partOf c .scan (namedWords w))) :
      c.copy.scan.toNat ≤ x.addr.toNat := by
    have hx' := (hp.mem_iff.mp hx)
    simp only [partOf, List.mem_filter, decide_eq_true_eq] at hx'
    have := (within_of_areaOf hx'.2).1 rfl
    simp only [within, decide_eq_true_eq] at this
    exact this.1
  have hu' := inScan hu
  have hv' := inScan hv
  intro p hpu hpv
  obtain ⟨i, hi, ei⟩ := pos_of_buttonsOfWord hpu
  obtain ⟨j, hj, ej⟩ := pos_of_buttonsOfWord hpv
  omega

end Sys2Proof.Machine
end

section
/-! PROOFS. Every command is made of the moves of `Kept`: requests, the player's commands, and the answers of RAM. -/

namespace Sys2Proof.Machine

namespace Kept

variable {C : Prop} {P : State → Prop} {s : State}

/-! ### The player's commands -/

theorem answer (h : Kept C P) (r : CmdResult) (hs : P s) : P (answer r s) := h.quiet (quiet_answer r s) hs

theorem actPerform (h : Kept C P) (hv : C → s.ctrl.valid = true) (hs : P s) : P (actPerform s) := by
  unfold Machine.actPerform
  split
  · next ho =>
    split
    · exact h.answer _ hs
    · exact h.answer _ (h.performing ho hv hs)
  · exact h.answer _ hs
  · exact h.answer _ hs
  all_goals exact hs

theorem actSettle (h : Kept C P) (hs : P s) : P (actSettle s) := by
  unfold Machine.actSettle
  split
  · next ho => exact h.quiet (quiet_leavePending _ _) (h.settling ho hs)
  · exact h.answer _ hs
  · exact h.answer _ hs
  all_goals exact hs

theorem actCut (h : Kept C P) (hs : P s) : P (actCut s) := by
  unfold Machine.actCut
  split
  · next ho => exact h.answer _ (h.transparent (by simpa using ho) (announceHush_hushed s).1 (h.hush hs))
  · exact h.answer _ hs
  · exact h.answer _ hs
  all_goals exact hs

theorem actSwap (h : Kept C P) (m : SwapMode) (hs : P s) : P (actSwap m s) := by
  unfold Machine.actSwap
  split
  · exact h.answer _ hs
  · have hq (w : Swap) : Quiet s (s.setCtrl { s.ctrl with swap := some w }) := by constructor <;> simp
    have hu := h.quiet (((hq { mode := m, incoming := s.ctrl.bank.other, taken := false }).of_report s).trans
      (quiet_leavePending .swap _)) hs
    dsimp only []
    split
    · exact h.quiet (quiet_testSwap _) hu
    · exact hu

theorem actGuard (h : Kept C P) (a : Word) (hs : P s) : P (actGuard a s) := by
  unfold Machine.actGuard
  split
  · exact h.answer _ hs
  · next hl =>
    split
    · exact h.answer _ hs
    · split
      · exact h.answer _ hs
      · next ho =>
        refine h.answer _ (h.guard (by simpa using hl) ?_ hs)
        have h₁ : fieldAt a 0 8 < 256 := (bitsAt a 0 8).isLt
        have h₂ : fieldAt a 8 8 < 256 := (bitsAt a 8 8).isLt
        rw [Fin.le_iff_val_le_val]
        simp only [Fin.ofNat_eq_cast, Fin.val_natCast]
        omega

theorem actPlain (h : Kept C P) (o : Opcode) (hv : C → o = .perform → s.ctrl.valid = true) (hs : P s) :
    P (actPlain o s) := by
  cases o with
  | perform => exact h.actPerform (fun c => hv c rfl) hs
  | panic => exact h.answer _ (h.hush hs)
  | guardLock => exact h.answer _ (h.lock hs)
  | flush => exact h.answer _ (h.quiet (quiet_overtake _ _) (h.flush hs))
  | reinit => exact h.reinit hs
  | standby | swap | sustain | guard | ack => exact hs

theorem actWith (h : Kept C P) (o : Opcode) (a : Word) (hv : C → o = .perform → s.ctrl.valid = true) (hs : P s) :
    P (actWith o a s) := by
  unfold Machine.actWith
  split
  · split
    · exact h.actSettle hs
    · exact h.actCut hs
    · exact h.answer _ hs
  · split
    · exact h.actSwap _ hs
    · exact h.answer _ hs
  · split
    · exact h.answer _ (h.sustainFlag _ hs)
    · exact h.answer _ (h.sustainFlag _ hs)
    · exact h.answer _ hs
  · exact h.actGuard _ hs
  · exact h.answer _ (h.quiet (quiet_ackFlags _ s) hs)
  all_goals exact h.actPlain _ hv hs

/-- A command is taken in a working state only, and it waits for an argument only if it has one (R167, R168). -/
theorem takeCommand (h : Kept C P) (w : Word) (a : Option Word) (n : Nat) (hw : s.ctrl.op.working = true)
    (hs : P s) : P (takeCommand w a n s) := by
  unfold Machine.takeCommand
  have hu := h.quiet (quiet_takeOpcode (byteAt w 0) s) hs
  dsimp only []
  split
  · exact h.answer _ hu
  · next o _ =>
    split
    · exact h.answer _ hu
    · split
      · exact h.answer _ hu
      · next hr =>
        have hv : s.ctrl.valid = true ∨ o.anyDescriptor = true := by
          cases hv : s.ctrl.valid <;> cases ha : o.anyDescriptor <;> simp_all
        have hp : C → o = .perform → (takeOpcode (byteAt w 0) s).ctrl.valid = true := by
          rintro - rfl
          simpa [Opcode.anyDescriptor] using hv
        split
        · next hg =>
          split
          · exact h.actWith _ _ hp hu
          · have hc := h.argument (s := takeOpcode (byteAt w 0) s) (by simpa using hw) hg (by simpa using hv) hu
            exact h.quiet (by constructor <;> simp [requestArgument]) hc
        · exact h.actPlain _ hp hu

/-! ### The parts of a P write -/

theorem announceScan (h : Kept C P) {ws : List NamedWord} (hn : ((buttonChanges s.ctrl.copy ws).map (·.1)).Nodup)
    (hc : eventCount s.ctrl.op (hushPinActive s.ctrl) s.scan (buttonChanges s.ctrl.copy ws) ≤ s.scan.freeSpace)
    (hs : P s) : P (announceScan ws s) := by
  unfold Machine.announceScan
  have hq : Quiet s (s.setScan { s.scan with silence := 0 }) := by constructor <;> simp
  have hu := h.buttons (s := s.setScan { s.scan with silence := 0 }) hn hc (h.quiet hq hs)
  dsimp only []
  split
  · exact hu
  · exact h.quiet ((Quiet.refl _).of_report _) (h.sample _ _ _ hu)

theorem announceMap (h : Kept C P) (b : Bank) (ws : List NamedWord) (hs : P s) : P (announceMap b ws s) := by
  unfold Machine.announceMap
  split
  · exact hs
  · exact foldl_keeps _ _ (fun t x ht => h.quiet (quiet_overtake _ _) (h.evict _ _ ht)) _ hs

theorem announceSections (h : Kept C P) (ws : List NamedWord) (hs : P s) : P (announceSections ws s) := by
  unfold Machine.announceSections
  split
  · exact hs
  · exact foldl_keeps _ _ (fun t x ht => h.quiet (quiet_setSects _ t) ht) _ hs

theorem announceCommand (h : Kept C P) (ws : List NamedWord) (hw : s.ctrl.op.working = true) (hs : P s) :
    P (announceCommand ws s) := by
  unfold Machine.announceCommand
  dsimp only []
  split
  · exact hs
  · exact h.takeCommand _ _ _ hw hs

/-- The parts of a write are announced one after another. At most one of them is a part in which buttons or a command
stand, and it meets the control unit and the scan monitor as they were. -/
theorem foldl_announce (h : Kept C P) {ws : Area → List NamedWord} {l : List Area} (hl : l.Nodup)
    (hx : ¬(.scan ∈ l ∧ .command ∈ l))
    (hscan : ∀ t, t.ctrl = s.ctrl → t.scan = s.scan → P t → P (announce .scan (ws .scan) t))
    (hcmd : ∀ t, t.ctrl = s.ctrl → P t → P (announce .command (ws .command) t)) (t : State)
    (hf : .scan ∈ l ∨ .command ∈ l → t.ctrl = s.ctrl ∧ t.scan = s.scan) (ht : P t) :
    P (l.foldl (fun t x => announce x (ws x) t) t) := by
  induction l generalizing t with
  | nil => exact ht
  | cons x l ih =>
    obtain ⟨hxl, hl'⟩ := List.nodup_cons.mp hl
    have hx' : ¬(.scan ∈ l ∧ .command ∈ l) := fun ⟨h₁, h₂⟩ => hx ⟨.tail _ h₁, .tail _ h₂⟩
    rw [List.foldl_cons]
    cases x with
    | scan =>
      obtain ⟨h₁, h₂⟩ := hf (.inl (.head _))
      have hno : ¬(.scan ∈ l ∨ .command ∈ l) := fun hm => hm.elim hxl fun hc => hx ⟨.head _, .tail _ hc⟩
      exact ih hl' hx' _ (fun hm => absurd hm hno) (hscan t h₁ h₂ ht)
    | command =>
      obtain ⟨h₁, -⟩ := hf (.inr (.head _))
      have hno : ¬(.scan ∈ l ∨ .command ∈ l) := fun hm => hm.elim (fun hc => hx ⟨.tail _ hc, .head _⟩) hxl
      exact ih hl' hx' _ (fun hm => absurd hm hno) (hcmd t h₁ ht)
    | mapA =>
      refine ih hl' hx' _ (fun hm => ?_) (h.announceMap .bankA _ ht)
      simpa [announce] using hf (hm.imp (.tail _) (.tail _))
    | mapB =>
      refine ih hl' hx' _ (fun hm => ?_) (h.announceMap .bankB _ ht)
      simpa [announce] using hf (hm.imp (.tail _) (.tail _))
    | sections =>
      refine ih hl' hx' _ (fun hm => ?_) (h.announceSections _ ht)
      simpa [announce] using hf (hm.imp (.tail _) (.tail _))
    | descriptor | spareLow | status | spareHigh | programs | voices | ram | beyond | other =>
      exact ih hl' hx' t (fun hm => hf (hm.imp (.tail _) (.tail _))) ht

theorem acceptPWrite (h : Kept C P) {w : WriteReq} (ha : PAccepts s w) (hs : P s) : P (pWrite w s) := by
  rw [pWrite_accepted ha]
  obtain ⟨⟨hw, -⟩, hbad, -, hq, hroom⟩ := ha
  have hal : w.start.toNat % 4 = 0 := by
    simp only [badForm, Bool.or_eq_false_iff, badStart] at hbad
    simpa using hbad.1
  have hboth : ¬(.scan ∈ areasInOrder s.ctrl ((namedWords w).map (·.addr)) ∧
      .command ∈ areasInOrder s.ctrl ((namedWords w).map (·.addr))) := by
    rintro ⟨h₁, h₂⟩
    rw [map_addr_namedWords] at h₁ h₂
    obtain ⟨b, hb, hsb⟩ := mem_areasInOrder h₁
    obtain ⟨a, ha, hca⟩ := mem_areasInOrder h₂
    exact not_scan_of_command ha hb hca hsb
  refine h.chooseFetch (h.foldl_announce (s := s) (ws := fun x => partOf s.ctrl x (namedWords w))
    (areasInOrder_nodup _ _) hboth ?_ ?_ _ (fun _ => ⟨by simp, by simp⟩)
    (h.quiet (quiet_answerP _ _) (h.post w hq hs)))
  · intro t hc hsc ht
    refine h.announceScan ?_ ?_ ht
    · rw [hc]; exact buttonChanges_nodup hal
    · simpa [scanDefers, hc, hsc] using hroom
  · intro t hc ht
    exact h.announceCommand _ (by rw [hc]; exact hw) ht

/-! ### Requests -/

theorem refusedP (h : Kept C P) (k : FaultKind) (a : Addr) (hs : P s) : P (answerP .refuse (logFault k .portP a s)) :=
  h.quiet ((quiet_logFault _ _ _ s).trans (quiet_answerP _ _)) hs

theorem refusedT (h : Kept C P) (k : FaultKind) (a : Addr) (hs : P s) : P (answerT .refuse (logFault k .portT a s)) :=
  h.quiet ((quiet_logFault _ _ _ s).trans (quiet_answerT _ _)) hs

theorem pWrite (h : Kept C P) (w : WriteReq) (hs : P s) : P (pWrite w s) := by
  by_cases ha : PAccepts s w
  · exact h.acceptPWrite ha hs
  unfold Machine.pWrite
  split
  · exact hs
  · next hr =>
    split
    · exact h.quiet (quiet_answerP _ s) hs
    · next hw =>
      split
      · exact h.refusedP _ _ hs
      · next hb =>
        split
        · exact h.refusedP _ _ hs
        · next hf =>
          split
          · exact h.quiet ((quiet_setCounters _ s).trans (quiet_answerP _ _)) hs
          · next hq =>
            split
            · exact h.quiet ((quiet_setCounters _ s).trans (quiet_answerP _ _)) hs
            · next hd =>
              refine absurd ?_ ha
              exact ⟨⟨by simpa using hw, by simpa using hr⟩, by simpa using hb, hf,
                by simpa [Config.pQueueMax] using hq, by simpa using hd⟩

theorem pRead (h : Kept C P) (r : ReadReq) (hs : P s) : P (pRead r s) := by
  unfold Machine.pRead
  split
  · exact hs
  · split
    · exact h.quiet (quiet_answerP _ s) hs
    · split
      · exact h.refusedP _ _ hs
      · split
        · exact h.refusedP _ _ hs
        · split
          · exact h.quiet ((quiet_requestSnapshot s).trans (quiet_answerP _ _)) hs
          · refine h.quiet ?_ hs
            unfold acceptPRead
            constructor <;> dsimp only [] <;> split <;> simp

theorem serveT (h : Kept C P) (q : ToneReq) (hs : P s) : P (serveT q s) :=
  h.quiet (by constructor <;> simp) hs

theorem tRead (h : Kept C P) (r : ReadReq) (hs : P s) : P (tRead r s) := by
  unfold Machine.tRead
  split
  · exact hs
  · split
    · exact h.quiet (quiet_answerT _ s) hs
    · split
      · exact h.refusedT _ _ hs
      · split
        · exact h.refusedT _ _ hs
        · split
          · exact h.answerTRead _ _ (h.quiet (quiet_setTone _ s) hs)
          · exact h.quiet ((quiet_setTone _ s).trans (quiet_answerT _ _)) hs
          · exact h.quiet (quiet_answerT _ s) hs
          · exact h.serveT _ hs

theorem tWrite (h : Kept C P) (w : WriteReq) (hs : P s) : P (tWrite w s) := by
  unfold Machine.tWrite
  split
  · exact hs
  · split
    · exact h.quiet (quiet_answerT _ s) hs
    · split
      · exact h.refusedT _ _ hs
      · split
        · exact h.refusedT _ _ hs
        · exact h.serveT _ hs

end Kept

end Sys2Proof.Machine
end

section
/-! PROOFS. Every command is made of the moves of `Kept`: the answers of RAM, INIT, and the step itself. -/

namespace Sys2Proof.Machine

namespace Kept

variable {C : Prop} {P : State → Prop} {s : State}

/-! ### The answers of RAM -/

/-- RAM's answer keeps `P` when its effect does. -/
theorem landing (h : Kept C P) {isMine : Owner → Bool} {e : Bool} {effect : Access → State → State}
    (he : ∀ a t, P t → P (effect a t)) (hs : P s) : P (landing isMine e effect s) :=
  landing_keeps (h.quiet (quiet_freePort s)) (fun a t => h.quiet (quiet_logError a e t)) (fun a t _ _ => he a t) hs

theorem pWriteLanded (h : Kept C P) (a : Access) (hs : P s) : P (pWriteLanded a s) := by
  have hq : Quiet s (s.setPlayer { s.player with writes := s.player.writes.tail }) := by constructor <;> simp
  exact h.chooseFetch (h.quiet ((hq.trans (quiet_argumentNearer _)).trans (quiet_testSwapLanding _ _)) hs)

theorem pReadDone (h : Kept C P) (x : RamAnswer) (a : Access) (hs : P s) : P (pReadDone x a s) :=
  h.quiet (by constructor <;> simp [Machine.pReadDone] <;> split <;> simp) hs

theorem quiet_endService (s : State) : Quiet s (endService s) := by constructor <;> simp [endService]

theorem tReadDone (h : Kept C P) (x : RamAnswer) (a : Access) (hs : P s) : P (tReadDone x a s) := by
  have hu := h.quiet (quiet_endService s) hs
  cases x with
  | done w => exact h.answerTRead _ _ hu
  | error => exact h.quiet (quiet_answerT _ _) hu

theorem tWriteDone (h : Kept C P) (k : RamAck) (hs : P s) : P (tWriteDone k s) := by
  have hu := h.quiet (quiet_endService s) hs
  cases k with
  | done => exact h.quiet (quiet_answerT _ _) hu
  | error => exact h.quiet (quiet_answerT _ _) hu

theorem voiceLanded (h : Kept C P) (hs : P s) : P (voiceLanded s) := by
  unfold Machine.voiceLanded
  split
  · exact hs
  · next v vs hv =>
    refine h.quiet (Quiet.trans ?_ (quiet_closeGroups _)) hs
    constructor <;> simp [landTag] <;> split <;> simp [hv]

theorem fillLanded (h : Kept C P) (x : RamAnswer) (hs : P s) : P (fillLanded x s) := by
  unfold Machine.fillLanded
  dsimp only []
  split
  · split
    · exact h.quiet (quiet_setTone _ s) hs
    · exact h.quiet (quiet_setTone _ s) hs
  all_goals exact h.quiet ((quiet_setTone _ s).trans (quiet_tryFill _)) hs

theorem entryLanded (h : Kept C P) (x : RamAnswer) (b : Bank) (p : Pos) (hs : P s) : P (entryLanded x b p s) := by
  have hu := h.quiet (quiet_endFetch s) hs
  unfold Machine.entryLanded
  dsimp only []
  split
  · exact h.chooseFetch (h.deliverEntry _ _ _ hu)
  · refine h.chooseFetch (h.deliverEntry _ _ _ (h.quiet (quiet_handEntry _ _ _ _) ?_))
    have kept (e : CacheEntry) (o : Bool) : P (if o = true then endFetch s else
        (endFetch s).setMap { (endFetch s).map with cache := Machine.install e (endFetch s).map.cache }) := by
      split
      · exact hu
      · exact h.install _ hu
    exact kept _ _

theorem programLanded (h : Kept C P) (x : RamAnswer) (n : ProgNo) (hs : P s) : P (programLanded x n s) := by
  have hu := h.quiet (quiet_endFetch s) hs
  unfold Machine.programLanded
  split
  · exact hs
  · split
    · exact h.chooseFetch (h.deliverProgram _ hu)
    · split
      · exact h.chooseFetch (h.deliverProgram _ hu)
      · dsimp only []
        split
        · exact h.chooseFetch (h.deliverProgram _ hu)
        · split
          · exact h.quiet (quiet_setFetch _ s) hs
          · exact h.chooseFetch (h.deliverProgram _ (h.quiet (quiet_logFault _ _ _ _) hu))

theorem reloadLanded (h : Kept C P) (x : RamAnswer) (i : SectNo) (hs : P s) : P (reloadLanded x i s) :=
  h.chooseFetch (h.quiet ((quiet_endFetch s).trans (quiet_setSects _ _)) hs)

/-- A command that waits for its argument is none that acts without one (R168). -/
theorem argumentLanded (h : Kept C P) (x : RamAnswer) (hs : P s) : P (argumentLanded x s) := by
  have hu := h.noCommand (h.quiet (quiet_endFetch s) hs)
  have hu' : P ((endFetch s).setCtrl { (endFetch s).ctrl with command := none, argRead := .none, argAhead := 0 }) :=
    h.quiet (by constructor <;> simp) hu
  unfold Machine.argumentLanded
  dsimp only []
  split
  · exact h.chooseFetch hu'
  · next o ho =>
    split
    · refine h.chooseFetch (h.actWith _ _ ?_ hu')
      rintro c rfl
      obtain ⟨-, -, -, -, -, -, -, hcmd⟩ := h.control c hs
      simp [Opcode.hasArg] at hcmd
      exact absurd (hcmd _ ho).2.1 (by simp)
    · exact h.chooseFetch (h.answer _ hu')

theorem snapshotLanded (h : Kept C P) (hs : P s) : P (snapshotLanded s) := by
  unfold Machine.snapshotLanded
  split
  · exact hs
  · split
    · exact h.quiet (by constructor <;> simp) hs
    · exact h.quiet (by constructor <;> simp) hs

/-! ### INIT (R13, R14, R15) -/

theorem descriptorRead (h : Kept C P) (hp : s.ctrl.phase.isSome = true) (ws : List Word) (f : Bool) (hs : P s) :
    P (descriptorRead ws f s) := by
  unfold Machine.descriptorRead
  dsimp only []
  have bad (d : Option Desc) (a : Addr) : P (enterSnapshotPhase (logFault .descBad .bridge a
      (s.setCtrl { s.ctrl with desc := d, valid := false }))) := by
    have hu := h.descriptor (d := d) (v := false) hp (by simp) hs
    refine h.quiet (quiet_enterSnapshotPhase ?_) (h.quiet (quiet_logFault _ _ _ _) hu)
    rw [logFault_ctrl]
    exact hp
  split
  · exact bad s.ctrl.desc _
  · split
    · next hd =>
      have hu := h.descriptor (d := some (Desc.ofWords ws)) (v := true) hp (fun _ => by rw [Option.getD_some, hd]) hs
      exact h.quiet (by constructor <;> simp [hp]) hu
    · exact bad _ _

theorem descriptorLanded (h : Kept C P) (x : RamAnswer) (hs : P s) : P (descriptorLanded x s) := by
  have hu := h.quiet (quiet_endFetch s) hs
  unfold Machine.descriptorLanded
  split
  · next hph =>
    have hp : (endFetch s).ctrl.phase.isSome = true := by simp [endFetch, hph]
    dsimp only []
    split
    · exact h.chooseFetch (h.descriptorRead hp _ _ hu)
    · exact h.chooseFetch (h.quiet (quiet_setPhase hp) hu)
  all_goals exact hu

theorem beginVoiceTable (h : Kept C P) (hp : s.ctrl.phase.isSome = true) (hs : P s) : P (beginVoiceTable s) := by
  have hu := h.quiet (quiet_setPhase (ph := .voiceTable) hp) hs
  exact h.runJobs _ _ (h.quiet
    ((quiet_setEng (hm := Nat.zero_le _) (hf := Nat.zero_le _)).of_report _) hu)

theorem sectionsLanded (h : Kept C P) (x : RamAnswer) (hs : P s) : P (sectionsLanded x s) := by
  have hu := h.quiet (quiet_endFetch s) hs
  unfold Machine.sectionsLanded
  split
  · next k hph =>
    have hp : (endFetch s).ctrl.phase.isSome = true := by simp [endFetch, hph]
    have hi := h.quiet (quiet_setSects (installPair k x (endFetch s).map.sects) _) hu
    dsimp only []
    split
    · exact h.beginVoiceTable hp hi
    · exact h.chooseFetch (h.quiet (quiet_setPhase hp) hi)
  all_goals exact hu

/-! ### Frame starts that bring something about, and the timers -/

theorem tReadCompletes (h : Kept C P) (x : RamAnswer) (hs : P s) : P (tReadCompletes x s) :=
  h.landing (fun a _ => h.tReadDone x a) hs

theorem frameAnswer (h : Kept C P) (f : FrameCause) (hs : P s) : P (frameAnswer f s) := by
  cases f with
  | completes words => exact h.tReadCompletes _ hs
  | heldRead r => exact h.tRead _ hs

theorem reachTime (h : Kept C P) (t : Nat) (hs : P s) : P (reachTime t s) :=
  h.quiet (by constructor <;> simp [Machine.reachTime]) hs

theorem length_markLate (l : List Group) : (markLate l).length = l.length := by
  induction l with
  | nil => rfl
  | cons g l ih =>
    unfold markLate
    split <;> simp [ih]

theorem groupLate (h : Kept C P) (g : Group) (hs : P s) : P (groupLate g s) := by
  unfold Machine.groupLate
  have hu := h.reachTime (g.openedAt + s.ctrl.copy.holdLimit.toNat) hs
  refine h.quiet (quiet_tryFill _) (h.quiet (quiet_raiseFlag _ _) (h.quiet (quiet_setCounters _ _) (h.quiet ?_ hu)))
  constructor <;> simp [length_markLate]

/-! ### The step -/

/-- The command makes the power-on detector active (R10, R163). -/
def PowersOn (i : Instr) (s : State) : Prop :=
  i = .powerOnDetect ∨
    ∃ x d b, i = .heldRelease x false d b ∧ s.ctrl.op = .held ∧ s.pins.detectorActive = false

theorem heldRelease (h : Kept C P) {x y : Bool} {d : BitVec 2} {b : Bool} {t : State}
    (hx : execHeldRelease x y d b s = .next t) (hp : PowersOn (.heldRelease x y d b) s → P t) (hs : P s) : P t := by
  unfold execHeldRelease at hx
  split at hx
  · next ho =>
    have hu (p : Pins) : P (s.setPins p) := h.quiet (quiet_setPins p s) hs
    simp only [Host.Outcome.next.injEq] at hx
    split at hx
    · subst hx
      exact h.release _ _ (by simpa using ho) (hu _)
    · split at hx
      · next hd =>
        simp only [Bool.and_eq_true, Bool.not_eq_true'] at hd
        exact hp (.inr ⟨x, d, b, by rw [hd.1], ho, hd.2⟩)
      · subst hx
        exact hu _
  · cases hx
    exact hs

/-- Every command is made of the moves of `Kept`, and of the entry to HELD at power-on. -/
theorem exec (h : Kept C P) {i : Instr} {t : State} (hx : exec i s = .next t) (hp : PowersOn i s → P t) (hs : P s) :
    P t := by
  cases i with
  | powerOnDetect => exact hp (.inl rfl)
  | resetLow =>
    cases hx
    dsimp only []
    split
    · exact h.quiet (quiet_setPins _ s) hs
    · exact h.held (h.quiet (quiet_setPins _ s) hs)
  | heldRelease x y d b => exact h.heldRelease hx hp hs
  | drainPhaseEnd =>
    simp only [Machine.exec, execDrainPhaseEnd] at hx
    split at hx <;> cases hx
    · next hc => exact h.chooseFetch (h.quiet (quiet_setPhase (by simp [hc.1])) hs)
    · exact hs
  | descriptorReadLands a => cases hx; exact h.landing (fun _ _ => h.descriptorLanded a) hs
  | sectionsPhaseReadLands a => cases hx; exact h.landing (fun _ _ => h.sectionsLanded a) hs
  | voiceTablePhaseEnd =>
    simp only [Machine.exec, execVoiceTablePhaseEnd] at hx
    split at hx <;> cases hx
    · next hc => exact h.quiet (quiet_enterSnapshotPhase (by simp [hc.1])) hs
    · exact hs
  | initEnd =>
    simp only [Machine.exec, execInitEnd] at hx
    split at hx <;> cases hx
    · next hc => exact h.initEnd (by simp [hc.1]) hs
    · exact hs
  | hushPinChange high =>
    cases hx
    have hu := h.quiet (quiet_setPins { s.pins with hush := high } s) hs
    dsimp only []
    split
    · exact hu
    · unfold readHush
      dsimp only []
      split
      · exact h.hush (h.hushReading _ hu)
      · exact h.hushReading _ hu
  | sustPinChange high =>
    cases hx
    have hu := h.quiet (quiet_setPins { s.pins with sust := high } s) hs
    dsimp only []
    split
    · exact hu
    · exact h.sustReading _ hu
  | pWrite w => cases hx; exact h.pWrite _ hs
  | unknownOpcode o c | perform c | swap c | panic c | sustain c | guard c | guardLock c | ack c | reinit c | flush c =>
    cases hx; exact h.pWrite _ hs
  | standbySettle x y | standbyCut x y => cases hx; exact h.pWrite _ hs
  | pRead r => cases hx; exact h.pRead _ hs
  | tRead r => cases hx; exact h.tRead _ hs
  | tWrite w => cases hx; exact h.tWrite _ hs
  | mportGrant => cases hx; exact h.grant hs
  | pWriteLands k => cases hx; exact h.landing (fun a _ => h.pWriteLanded a) hs
  | pReadCompletes a => cases hx; exact h.landing (fun x _ => h.pReadDone a x) hs
  | tReadCompletes a => cases hx; exact h.tReadCompletes _ hs
  | tWriteCompletes k => cases hx; exact h.landing (fun _ _ => h.tWriteDone k) hs
  | scanSilenceTrip f =>
    simp only [Machine.exec, execScanSilenceTrip] at hx
    split at hx <;> cases hx
    · exact h.frameAnswer f hs
    · exact hs
  | reversalHoldEnd f =>
    simp only [Machine.exec, execReversalHoldEnd] at hx
    split at hx <;> cases hx
    · exact h.frameAnswer f hs
    · exact hs
  | settleCut f =>
    simp only [Machine.exec, execSettleCut] at hx
    split at hx <;> cases hx
    · exact h.frameAnswer f hs
    · exact hs
  | settleTimerEnd =>
    simp only [Machine.exec, execSettleTimerEnd] at hx
    split at hx <;> [split at hx; skip] <;> cases hx
    · next ho => exact h.beginSettleCut (by simpa [Machine.reachTime] using ho) (h.reachTime _ hs)
    · exact hs
    · exact hs
  | groupLate =>
    simp only [Machine.exec, execGroupLate] at hx
    split at hx <;> cases hx
    · exact h.groupLate _ hs
    · exact hs
  | heldReadDiscard =>
    simp only [Machine.exec, execHeldReadDiscard] at hx
    split at hx <;> cases hx
    · exact h.quiet (quiet_setCounters _ _) (h.quiet (quiet_setTone _ _) (h.reachTime _ hs))
    all_goals exact hs
  | voiceWriteLands k => cases hx; exact h.landing (fun _ _ => h.voiceLanded) hs
  | heldReadFillLands a => cases hx; exact h.landing (fun _ _ => h.fillLanded a) hs
  | mapEntryFetchLands a =>
    cases hx
    refine h.landing (fun acc u hu => ?_) hs
    split
    · exact h.entryLanded _ _ _ hu
    · exact hu
  | programFetchLands a =>
    cases hx
    refine h.landing (fun acc u hu => ?_) hs
    split
    · exact h.programLanded _ _ hu
    · exact hu
  | sectionReloadLands a =>
    cases hx
    refine h.landing (fun acc u hu => ?_) hs
    split
    · exact h.reloadLanded _ _ hu
    · exact hu
  | argumentReadLands a => cases hx; exact h.landing (fun _ _ => h.argumentLanded a) hs
  | snapshotAccessLands k => cases hx; exact h.landing (fun _ _ => h.snapshotLanded) hs
  | pushWaitEnd =>
    simp only [Machine.exec, execPushWaitEnd] at hx
    split at hx <;> [split at hx; skip] <;> cases hx
    · exact h.chooseFetch (h.resumePush _ _ hs)
    all_goals exact hs
  | hushItem =>
    simp only [Machine.exec, execHushItem] at hx
    split at hx <;> cases hx
    · exact h.hushItem hs
    · exact hs
  | releaseAll =>
    simp only [Machine.exec, execReleaseAll] at hx
    split at hx <;> cases hx
    · exact h.runJobs _ _ (h.quiet quiet_setEng hs)
    · exact hs
  | takeReversalNotice =>
    simp only [Machine.exec, execTakeReversalNotice] at hx
    split at hx <;> [split at hx; skip] <;> cases hx
    · exact h.quiet (by constructor <;> simp [Machine.takeReversalNotice]) hs
    · exact hs
    · exact hs
  | reversalWalkStep =>
    simp only [Machine.exec, execReversalWalkStep] at hx
    split at hx <;> [split at hx; skip] <;> cases hx
    · exact h.reversalStep _ hs
    · exact hs
    · exact hs
  | frameExpiry =>
    simp only [Machine.exec, execFrameExpiry] at hx
    split at hx <;> cases hx
    · exact h.runJobs _ _ (h.quiet (quiet_setEng (hf := by exact Nat.zero_le _)) hs)
    · exact hs
  | press =>
    simp only [Machine.exec, execPress] at hx
    split at hx <;> [split at hx; skip] <;> cases hx
    · exact h.chooseFetch (h.pressItem _ hs)
    · exact hs
    · exact hs
  | release =>
    simp only [Machine.exec, execRelease] at hx
    split at hx <;> [split at hx; skip] <;> cases hx
    · exact h.releaseItem _ hs
    · exact hs
    · exact hs
  | sustainOffWalkStep =>
    simp only [Machine.exec, execSustainOffWalkStep] at hx
    split at hx <;> cases hx
    · exact h.sustainStep hs
    · exact hs
  | restrikeWalkStep =>
    simp only [Machine.exec, execRestrikeWalkStep] at hx
    split at hx <;> cases hx
    · exact h.restrikeStep hs
    · exact hs
  | takeLevelNotice =>
    simp only [Machine.exec, execTakeLevelNotice] at hx
    split at hx <;> [split at hx; skip] <;> cases hx
    · next m hm => exact h.level hm hs
    · exact hs
    · exact hs
  | levelSweepStep =>
    simp only [Machine.exec, execLevelSweepStep] at hx
    split at hx <;> [split at hx; skip] <;> cases hx
    · exact h.sweepStep _ hs
    · exact hs
    · exact hs

/-- A law that survives every move, and the entry to HELD at power-on too, is kept by every step. -/
theorem stepKeeps (h : Kept C P) (hp : ∀ s, P (enterHeld true s)) : StepKeeps P := by
  intro s t hs hst
  unfold step at hst
  split at hst
  · cases hst
    exact hs
  · next c rest _ =>
    refine h.exec hst (fun hc => ?_) (h.quiet (by constructor <;> simp) hs)
    rcases hc with rfl | ⟨x, d, b, rfl, ho, hd⟩
    · cases hst
      exact hp _
    · simp only [Machine.exec, execHeldRelease] at hst
      rw [if_pos ho] at hst
      have hd' : (!false && !s.pins.detectorActive) = true := by
        rw [show s.pins.detectorActive = false from hd]
        rfl
      simp only [Bool.and_false, Bool.false_eq_true, if_false, if_pos hd', Host.Outcome.next.injEq] at hst
      subst hst
      exact hp _

end Kept

end Sys2Proof.Machine
end

section
/-! PROOFS. The laws of sizes, cache and tracker survive every move (R29, R37, R56, R76, R94, R115, R117). -/

namespace Sys2Proof.Machine

/-- The laws of the collections' sizes, of the cache's tags and of the tracker's ranges. -/
def SizeLaws (s : State) : Prop := CapacityLaw s ∧ CacheLaw s ∧ TrackerLaw s

/-- What is smaller keeps the sizes. -/
theorem sizeLaws_of_smaller {s t : State} (h : Smaller s t) (hs : SizeLaws s) : SizeLaws t := by
  obtain ⟨⟨h₁, h₂, h₃, h₄, h₅, h₆, h₇, h₈, h₉, h₁₀⟩, ⟨hc, hn⟩, ⟨hm, hno, hh, hl, ha⟩⟩ := hs
  have count (r : Requester) {n : Nat} (hr : s.arb.count r ≤ n) : t.arb.count r ≤ n := (h.counts r).trans hr
  refine ⟨⟨h.writes.trans h₁, count .tone h₂, count .voice h₃, count .fetcher h₄, count .player h₅,
    count .snapshot h₆, h.queue.trans h₇, h.groups.trans h₈, h.frames.trans h₉, h.settleFrames.trans h₁₀⟩, ?_,
    h.magnitude.trans hm, h.notified.trans hno, h.hold.trans hh, ?_, h.applied.trans ha⟩
  · rcases h.cache with e | e
    · rw [CacheLaw, e]; exact ⟨hc, hn⟩
    · simp [CacheLaw, e]
  · rcases h.level with e | e
    · rwa [e]
    · simp [e]

/-! ### Smaller states -/

theorem smaller_report {s t : State} (h : Smaller s t) (a : State) : Smaller s (report a t) :=
  h.trans (((Quiet.refl t).of_report a).smaller)

/-- A change of the control unit that raises no settle frames makes nothing larger. -/
theorem smaller_setCtrl {s : State} {c : Control}
    (h : c.settleFrames ≤ s.ctrl.settleFrames := by exact Nat.le_refl _) : Smaller s (s.setCtrl c) := by
  constructor <;> simp [h]

theorem smaller_setScan {s : State} {c : Scan} : Smaller s (s.setScan c) := by constructor <;> simp

theorem smaller_releaseHeld (d : BitVec 2) (b : Bool) (s : State) : Smaller s (releaseHeld d b s) := by
  constructor <;> simp [releaseHeld]

theorem smaller_takeReinit (s : State) : Smaller s (takeReinit s) := by
  constructor <;> simp [takeReinit, Engine.reset, VoiceWriter.reset, MapUnit.reset, Bellows.dropNotices]
  intro r
  cases r <;> exact Nat.le_refl _

theorem smaller_workOut (s : State) : Smaller s (workOut s) := by constructor <;> simp

theorem smaller_workOutSustain (s : State) : Smaller s (workOutSustain s) := by
  constructor <;> simp [workOutSustain_eng]

theorem smaller_setOp (o : OpState) (s : State) : Smaller s (setOp o s) := by constructor <;> simp

theorem smaller_enterTransparent (s : State) : Smaller s (enterTransparent s) := by
  refine ((smaller_setOp .transparent s).trans (smaller_workOut _)).trans (Smaller.trans ?_ (quiet_testSwap _).smaller)
  constructor <;> simp

theorem smaller_enterSettling (s : State) : Smaller s (enterSettling s) := by
  refine Smaller.trans (Smaller.trans ?_ (quiet_endRestrike _).smaller) (smaller_workOut _)
  constructor <;> simp

theorem smaller_endSettling (s : State) : Smaller s (endSettling s) := by
  unfold endSettling
  refine Smaller.trans (Smaller.trans ?_ (smaller_enterTransparent _))
    (((quiet_raiseFlag _ _).trans (quiet_finish _ _ _)).smaller)
  refine Smaller.trans (t := s.setCtrl { s.ctrl with settleTimer := none, settleCut := false })
    smaller_setCtrl ?_
  dsimp only []
  refine smaller_report (Smaller.trans ?_ (quiet_setEng).smaller) _
  split
  · split
    · exact (quiet_endItem _).smaller
    · exact (Quiet.refl _).smaller
  · exact (Quiet.refl _).smaller

/-! ### Moves that make something larger -/

theorem sizeLaws_enterHeld (b : Bool) (s : State) : SizeLaws (enterHeld b s) := by
  simp [SizeLaws, CapacityLaw, CacheLaw, TrackerLaw, enterHeld, Arbiter.reset, VoiceWriter.reset, Engine.reset,
    Control.powerOn, MapUnit.reset, Bellows.reset]

theorem sizeLaws_announceHush {s : State} (h : SizeLaws s) : SizeLaws (announceHush s) := by
  unfold announceHush endForHush
  have hq : SizeLaws (report s (s.setScan s.scan.hush)) := sizeLaws_of_smaller (smaller_report smaller_setScan s) h
  dsimp only []
  generalize report s (s.setScan s.scan.hush) = u at hq ⊢
  obtain ⟨hcap, hcache, ⟨hm, hno, hh, hl, ha⟩⟩ := hq
  have hu : SizeLaws ((u.setEng { u.eng with
      appliedDir := u.bellows.revNotice.getD u.eng.appliedDir
      appliedMag := u.bellows.levelNotice.getD u.eng.appliedMag
      hushPending := .source }).setBellows u.bellows.dropNotices) := by
    refine ⟨hcap, hcache, hm, hno, hh, by simp [Bellows.dropNotices], ?_⟩
    cases hn : u.bellows.levelNotice with
    | none => simpa [hn] using ha
    | some m => simpa [hn] using hl m hn
  split
  · exact hu
  · exact sizeLaws_of_smaller (quiet_endItem _).smaller hu

theorem sizeLaws_enterPerforming {s : State} (h : SizeLaws s) : SizeLaws (enterPerforming s) := by
  refine sizeLaws_of_smaller (smaller_workOut _) ?_
  obtain ⟨hcap, hcache, ⟨hm, hno, hh, hl, ha⟩⟩ := sizeLaws_of_smaller (smaller_setOp .performing s) h
  refine ⟨hcap, hcache, hm, hm, hh, fun m e => ?_, ha⟩
  cases e
  exact hm

theorem sizeLaws_endInit {s : State} (h : SizeLaws s) : SizeLaws (endInit s) := by
  have clear (v : Bool) (u : State) (hu : SizeLaws u) :
      SizeLaws (if v then u else u.setMap { u.map with sects := Tbl.fill 8 SectRecord.zero }) := by
    split
    · exact hu
    · exact sizeLaws_of_smaller (quiet_setSects _ u).smaller hu
  unfold endInit
  dsimp only []
  split
  · exact sizeLaws_enterPerforming (clear _ _
      (sizeLaws_of_smaller ((smaller_report smaller_setCtrl s).trans smaller_setScan) h))
  · exact sizeLaws_of_smaller (smaller_enterTransparent _) (clear _ _
      (sizeLaws_of_smaller ((smaller_report smaller_setCtrl s).trans smaller_setScan) h))

/-! ### The tracker (R57 to R62) -/

theorem magnitude_clampPressure (p : Int) : (clampPressure p).natAbs ≤ 2047 := by
  unfold clampPressure
  omega

/-- The tracker's own part of its law. -/
def TrackerRanges (b : Bellows) : Prop :=
  b.magnitude ≤ 2047 ∧ b.notified ≤ 2047 ∧ b.hold ≤ 15 ∧ ∀ m, b.levelNotice = some m → m ≤ 2047

theorem trackerLaw_iff (s : State) : TrackerLaw s ↔ TrackerRanges s.bellows ∧ s.eng.appliedMag ≤ 2047 := by
  simp [TrackerLaw, TrackerRanges, and_assoc]

theorem TrackerRanges.testDir {b : Bellows} (h : TrackerRanges b) (d : Desc) (op : OpState) :
    TrackerRanges (b.testDir d op) := by
  obtain ⟨hm, hn, hh, hl⟩ := h
  have : d.reverseHold.toNat < 16 := d.reverseHold.isLt
  unfold Bellows.testDir
  split
  · exact ⟨hm, hn, hh, hl⟩
  · split
    · exact ⟨hm, hn, by simp [Bellows.turn]; omega, hl⟩
    · exact ⟨hm, hn, hh, hl⟩

theorem TrackerRanges.testLevel {b : Bellows} (h : TrackerRanges b) (d : Desc) : TrackerRanges (b.testLevel d) := by
  obtain ⟨hm, hn, hh, hl⟩ := h
  unfold Bellows.testLevel
  split
  · exact ⟨hm, hm, hh, fun m e => by cases e; exact hm⟩
  · exact ⟨hm, hn, hh, hl⟩

theorem TrackerRanges.sample {b : Bellows} (h : TrackerRanges b) (d : Desc) (op : OpState) (p : Int) :
    TrackerRanges (b.sample d op p) := by
  obtain ⟨-, hn, hh, hl⟩ := h
  have hb : TrackerRanges { b with
      magnitude := (clampPressure p).natAbs, motion := motionAfter d b.motion (clampPressure p) } :=
    ⟨magnitude_clampPressure p, hn, hh, hl⟩
  unfold Bellows.sample
  cases op with
  | performing | settling => exact (hb.testDir d _).testLevel d
  | held | init | transparent => exact hb.testDir d _

theorem TrackerRanges.frame {b : Bellows} (h : TrackerRanges b) (d : Desc) (op : OpState) :
    TrackerRanges (b.frame d op) := by
  obtain ⟨hm, hn, hh, hl⟩ := h
  have hb : TrackerRanges { b with hold := b.hold - 1 } := ⟨hm, hn, (Nat.sub_le _ _).trans hh, hl⟩
  unfold Bellows.frame
  dsimp only []
  split
  · exact ⟨hm, hn, hh, hl⟩
  · split
    · exact hb.testDir d op
    · exact hb

theorem sizeLaws_setBellows {s : State} {b : Bellows} (h : SizeLaws s)
    (hb : TrackerRanges s.bellows → TrackerRanges b) : SizeLaws (s.setBellows b) := by
  obtain ⟨hcap, hcache, ht⟩ := h
  rw [trackerLaw_iff] at ht
  exact ⟨hcap, hcache, (trackerLaw_iff _).mpr ⟨hb ht.1, ht.2⟩⟩

theorem sizeLaws_takeLevelNotice {s : State} {m : Nat} (hm : s.bellows.levelNotice = some m) (h : SizeLaws s) :
    SizeLaws (takeLevelNotice m s) := by
  obtain ⟨hcap, hcache, ⟨hg, hno, hh, hl, -⟩⟩ := h
  exact ⟨hcap, hcache, hg, hno, hh, by simp [takeLevelNotice], hl m hm⟩

/-! ### The map cache (R76) -/

/-- The tags of cache entries. -/
def tags (l : List CacheEntry) : List (Bank × Pos) := l.map fun e => (e.bank, e.pos)

theorem evict_sublist (b : Bank) (p : Pos) (l : List CacheEntry) : (evict b p l).Sublist l := List.filter_sublist

theorem tag_not_mem_evict (e : CacheEntry) (l : List CacheEntry) : (e.bank, e.pos) ∉ tags (evict e.bank e.pos l) := by
  simp only [tags, evict, List.mem_map, List.mem_filter, Bool.not_eq_true', decide_eq_false_iff_not, Prod.mk.injEq]
  rintro ⟨x, ⟨-, hx⟩, he⟩
  exact hx he

theorem tags_evict_nodup {l : List CacheEntry} (h : (tags l).Nodup) (b : Bank) (p : Pos) :
    (tags (evict b p l)).Nodup := ((evict_sublist b p l).map _).nodup h

theorem tags_promote_nodup {l : List CacheEntry} (h : (tags l).Nodup) (e : CacheEntry) :
    (tags (promote e l)).Nodup :=
  List.nodup_cons.mpr ⟨tag_not_mem_evict e l, tags_evict_nodup h _ _⟩

/-- An entry of the cache leaves its place when it moves to the front. -/
theorem length_promote {e : CacheEntry} {l : List CacheEntry} (h : e ∈ l) : (promote e l).length ≤ l.length := by
  have : (evict e.bank e.pos l).length < l.length :=
    List.length_filter_lt_length_iff_exists.mpr ⟨e, h, by simp⟩
  simpa [promote] using this

theorem sizeLaws_setCache {s : State} {l : List CacheEntry} (h : SizeLaws s)
    (hl : s.map.cache.length ≤ 32 → l.length ≤ 32) (hn : (tags s.map.cache).Nodup → (tags l).Nodup) :
    SizeLaws (s.setMap { s.map with cache := l }) := by
  obtain ⟨hcap, ⟨hlen, hnd⟩, ht⟩ := h
  exact ⟨hcap, ⟨hl hlen, hn hnd⟩, ht⟩

/-! ### Queues and counts -/

theorem sizeLaws_post {s : State} (w : WriteReq) (hw : s.player.writes.length < 8) (h : SizeLaws s) :
    SizeLaws (s.setPlayer { s.player with writes := s.player.writes ++ [w] }) := by
  obtain ⟨⟨-, hcap⟩, hrest⟩ := h
  exact ⟨⟨by simpa using hw, hcap⟩, hrest⟩

theorem countAfter_le (s : State) (g r : Requester) : countAfter s g r ≤ 8 := by
  unfold countAfter
  split
  · exact Nat.zero_le _
  · split
    · exact Nat.min_le_right _ _
    · exact Nat.zero_le _

theorem sizeLaws_grant {s : State} (h : SizeLaws s) : SizeLaws (grant s) := by
  unfold grant
  split
  · exact h
  · split
    · exact h
    · obtain ⟨⟨hw, -, -, -, -, -, hcap⟩, hrest⟩ := h
      exact ⟨⟨hw, countAfter_le .., countAfter_le .., countAfter_le .., countAfter_le .., countAfter_le .., hcap⟩,
        hrest⟩

/-- A push that need not wait keeps within the queue and the group table (R119). -/
theorem pushWriter_within {s : State} {pu : Push} (hp : canPush s pu = true) (hg : s.voice.groups.length ≤ 4) :
    (pushWriter s pu s.voice).queue.length ≤ 32 ∧ (pushWriter s pu s.voice).groups.length ≤ 4 := by
  simp only [canPush, Bool.and_eq_true, decide_eq_true_eq, Bool.or_eq_true, Bool.not_eq_true'] at hp
  obtain ⟨hq, hroom⟩ := hp
  simp only [Config.voiceQueueMax, Config.groupMax] at hq hroom
  unfold pushWriter joinGroup
  dsimp only []
  split
  · next hgr =>
    split
    · simpa using ⟨hq, hg⟩
    · next hn =>
      rcases hroom with (h | h) | h
      · simp [hgr] at h
      · simp [hn] at h
      · simpa using ⟨hq, h⟩
  · simpa using ⟨hq, hg⟩

theorem pushEngine_numbers (s : State) (pu : Push) (e : Engine) :
    (pushEngine s pu e).pendingFrames = e.pendingFrames ∧ (pushEngine s pu e).appliedMag = e.appliedMag := by
  cases pu with
  | full => simp only [pushEngine, startVoice]; (repeat' split) <;> simp
  | releasing => simp only [pushEngine, releaseSlot]; split <;> simp
  | freeing => simp only [pushEngine, freeSlot]; split <;> simp
  | level => simp [pushEngine]
  | blank => simp only [pushEngine]; split <;> simp

theorem sizeLaws_doPush {s : State} {pu : Push} (hp : canPush s pu = true) (h : SizeLaws s) :
    SizeLaws (doPush pu s) := by
  have hu : SizeLaws (((s.setEng (pushEngine s pu s.eng)).setVoice (pushWriter s pu s.voice)).setTone
      (pushTone s pu s.tone)) := by
    obtain ⟨⟨h₁, h₂, h₃, h₄, h₅, h₆, -, hg, h₉, h₁₀⟩, hcache, ⟨hm, hno, hh, hl, ha⟩⟩ := h
    obtain ⟨hq', hg'⟩ := pushWriter_within hp hg
    obtain ⟨hf, hm'⟩ := pushEngine_numbers s pu s.eng
    exact ⟨⟨h₁, h₂, h₃, h₄, h₅, h₆, hq', hg', hf.le.trans h₉, h₁₀⟩, hcache, hm, hno, hh, hl, hm'.le.trans ha⟩
  have hr := sizeLaws_of_smaller ((Quiet.refl _).of_report s).smaller hu
  unfold doPush
  dsimp only []
  split
  · exact sizeLaws_of_smaller (quiet_setCounters _ _).smaller hr
  · exact hr

theorem addFrame_le {n : Nat} (h : n ≤ 255) : addFrame n ≤ 255 := by
  unfold addFrame
  split
  · next hn => exact hn
  · exact h

theorem sizeLaws_frameCount {s : State} (h : SizeLaws s) :
    SizeLaws (s.setEng { s.eng with pendingFrames := addFrame s.eng.pendingFrames }) := by
  obtain ⟨⟨h₁, h₂, h₃, h₄, h₅, h₆, h₇, h₈, h₉, h₁₀⟩, hrest⟩ := h
  refine ⟨⟨h₁, h₂, h₃, h₄, h₅, h₆, h₇, h₈, ?_, h₁₀⟩, hrest⟩
  exact addFrame_le h₉

theorem sizeLaws_settleFrame {s : State} (h : SizeLaws s) :
    SizeLaws (s.setCtrl { s.ctrl with settleFrames := nextSettleFrame s.ctrl.settleFrames }) := by
  obtain ⟨⟨h₁, h₂, h₃, h₄, h₅, h₆, h₇, h₈, h₉, h₁₀⟩, hrest⟩ := h
  exact ⟨⟨h₁, h₂, h₃, h₄, h₅, h₆, h₇, h₈, h₉, addFrame_le h₁₀⟩, hrest⟩

theorem sizeLaws_buttons {s : State} (l : List (Pos × Bool)) (h : SizeLaws s) :
    SizeLaws (l.foldl (fun t x => report t (t.setScan (t.scan.apply t.ctrl.op (hushPinActive t.ctrl) x))) s) :=
  foldl_keeps _ l (fun t _ ht => sizeLaws_of_smaller (smaller_report smaller_setScan t) ht) s h

/-- Every move keeps the sizes, the cache's tags and the tracker's ranges. -/
theorem sizeLaws_kept : Kept False SizeLaws where
  quiet h := sizeLaws_of_smaller h.smaller
  control := False.elim
  held _ := sizeLaws_enterHeld _ _
  release d b _ := sizeLaws_of_smaller (smaller_releaseHeld d b _)
  reinit := sizeLaws_of_smaller (smaller_takeReinit _)
  descriptor _ _ := sizeLaws_of_smaller smaller_setCtrl
  initEnd _ := sizeLaws_endInit
  hushReading _ := sizeLaws_of_smaller ((smaller_setCtrl).trans (smaller_workOut _))
  sustReading _ := sizeLaws_of_smaller ((smaller_setCtrl).trans (smaller_workOutSustain _))
  sustainFlag _ := sizeLaws_of_smaller ((smaller_setCtrl).trans (smaller_workOutSustain _))
  hush := sizeLaws_announceHush
  performing _ _ := sizeLaws_enterPerforming
  settling _ := sizeLaws_of_smaller (smaller_enterSettling _)
  transparent _ _ := sizeLaws_of_smaller (smaller_enterTransparent _)
  settled _ := sizeLaws_of_smaller (smaller_endSettling _)
  guard _ _ := sizeLaws_of_smaller smaller_setCtrl
  lock := sizeLaws_of_smaller smaller_setCtrl
  argument _ _ _ := sizeLaws_of_smaller smaller_setCtrl
  noCommand := sizeLaws_of_smaller smaller_setCtrl
  settleFrame := sizeLaws_settleFrame
  settleCut _ := sizeLaws_of_smaller smaller_setCtrl
  event := sizeLaws_of_smaller smaller_setScan
  trip := sizeLaws_of_smaller smaller_setScan
  buttons _ _ := sizeLaws_buttons _
  sample d op p h := sizeLaws_setBellows h fun hb => hb.sample d op p
  hold h := sizeLaws_setBellows h fun hb => hb.frame _ _
  level := sizeLaws_takeLevelNotice
  evict b p h := sizeLaws_setCache h (fun hl => (evict_sublist b p _).length_le.trans hl)
    (fun hn => tags_evict_nodup hn b p)
  flush h := sizeLaws_setCache h (fun _ => Nat.zero_le _) (fun _ => List.nodup_nil)
  promote he h := sizeLaws_setCache h (fun hl => (length_promote he).trans hl) (fun hn => tags_promote_nodup hn _)
  install e h := sizeLaws_setCache h (fun _ => List.length_take_le _ _)
    (fun hn => ((List.take_sublist _ _).map _).nodup (tags_promote_nodup hn e))
  post := sizeLaws_post
  grant := sizeLaws_grant
  push := sizeLaws_doPush
  frameCount := sizeLaws_frameCount

end Sys2Proof.Machine
end

section
/-! PROOFS. The law of the operating state survives every move (R8, R9, R10, R150, R156, R158, R164, R167, R168). -/

namespace Sys2Proof.Machine

/-- The law of the operating state without the two values that `workOut` gives. -/
structure Steady (c : Control) : Prop where
  phase : c.phase.isSome = true ↔ c.op = .init
  needs : c.op = .performing ∨ c.op = .settling → c.valid = true
  checked : c.valid = true → c.op ≠ .held ∧ c.copy.check (controlBase c.dsel) = none
  span : c.guard.first ≤ c.guard.last
  settle : c.settleTimer.isSome = true ∨ c.settleCut = true → c.op = .settling
  command : ∀ o, c.command = some o → c.op.working = true ∧ o.hasArg = true ∧ (c.valid = true ∨ o.anyDescriptor = true)

/-- The two values are what R156 and R158 make of their inputs. -/
def WorkedOut (c : Control) : Prop := c.sustain = sustainValue c ∧ c.hushEffective = hushValue c

theorem controlLaw_iff (s : State) : ControlLaw s ↔ Steady s.ctrl ∧ WorkedOut s.ctrl := by
  constructor
  · rintro ⟨h₁, h₂, h₃, h₄, h₅, h₆, h₇, h₈⟩
    exact ⟨⟨h₁, h₂, h₃, h₆, h₇, h₈⟩, h₄, h₅⟩
  · rintro ⟨⟨h₁, h₂, h₃, h₆, h₇, h₈⟩, h₄, h₅⟩
    exact ⟨h₁, h₂, h₃, h₄, h₅, h₆, h₇, h₈⟩

theorem ControlLaw.steady {s : State} (h : ControlLaw s) : Steady s.ctrl := ((controlLaw_iff s).mp h).1

theorem ControlLaw.workedOut {s : State} (h : ControlLaw s) : WorkedOut s.ctrl := ((controlLaw_iff s).mp h).2

/-- Working out afresh gives the law back. -/
theorem controlLaw_workOut {s : State} (h : Steady s.ctrl) : ControlLaw (workOut s) := by
  obtain ⟨h₁, h₂, h₃, h₆, h₇, h₈⟩ := h
  rw [controlLaw_iff, workOut_ctrl]
  exact ⟨⟨h₁, h₂, h₃, h₆, h₇, h₈⟩, rfl, rfl⟩

/-- Outside the working states both values are off. -/
theorem workedOut_of_idle {c : Control} (h : c.op.working = false) (hs : c.sustain = false)
    (hh : c.hushEffective = false) : WorkedOut c := by
  unfold WorkedOut sustainValue hushValue
  rw [h, hs, hh]
  cases ho : c.op <;> simp_all [OpState.working]

theorem WorkedOut.idle {c : Control} (h : WorkedOut c) (ho : c.op.working = false) :
    c.sustain = false ∧ c.hushEffective = false := by
  obtain ⟨hs, hh⟩ := h
  rw [hs, hh, sustainValue, hushValue, ho]
  cases hc : c.op <;> simp_all [OpState.working]

theorem controlLaw_of_quiet {s t : State} (h : Quiet s t) (hs : ControlLaw s) : ControlLaw t := by
  obtain ⟨h₁, h₂, h₃, h₄, h₅, h₆, h₇, h₈⟩ := hs
  refine ⟨by rw [h.phase, h.op]; exact h₁, ?_⟩
  rw [h.ctrl]
  exact ⟨h₂, h₃, h₄, h₅, h₆, h₇, h₈⟩

/-! ### The moves -/

theorem controlLaw_enterHeld {s : State} {b : Bool} (h : b = true ∨ ControlLaw s) : ControlLaw (enterHeld b s) := by
  rw [controlLaw_iff]
  refine ⟨⟨by simp [enterHeld, Control.powerOn], by simp [enterHeld, Control.powerOn],
    by simp [enterHeld, Control.powerOn], ?_, by simp [enterHeld, Control.powerOn],
    by simp [enterHeld, Control.powerOn]⟩, rfl, rfl⟩
  rcases h with rfl | h
  · show Guard.powerOn.first ≤ Guard.powerOn.last
    decide
  · cases b
    · exact h.steady.span
    · show Guard.powerOn.first ≤ Guard.powerOn.last
      decide

/-- In HELD no descriptor is valid, no command waits and SETTLING's values are off. -/
theorem controlLaw_releaseHeld {s : State} (d : BitVec 2) (b : Bool) (ho : s.ctrl.op = .held) (h : ControlLaw s) :
    ControlLaw (releaseHeld d b s) := by
  obtain ⟨-, -, hv, hg, hs, hc⟩ := h.steady
  obtain ⟨hsus, hhush⟩ := h.workedOut.idle (by rw [ho]; rfl)
  rw [controlLaw_iff]
  refine ⟨⟨by simp [releaseHeld], by simp [releaseHeld], fun e => absurd ho (hv (by simpa [releaseHeld] using e)).1,
    by simpa [releaseHeld] using hg, fun e => absurd (hs (by simpa [releaseHeld] using e)) (by simp [ho]),
    fun o e => ?_⟩, workedOut_of_idle (by simp [releaseHeld, OpState.working]) (by simpa [releaseHeld] using hsus)
      (by simpa [releaseHeld] using hhush)⟩
  have := (hc o (by simpa [releaseHeld] using e)).1
  rw [ho] at this
  exact absurd this (by simp [OpState.working])

theorem controlLaw_takeReinit {s : State} (h : ControlLaw s) : ControlLaw (takeReinit s) := by
  obtain ⟨-, -, hv, hg, -, -⟩ := h.steady
  rw [controlLaw_iff]
  refine ⟨⟨by simp [takeReinit], by simp [takeReinit], fun e => ?_, by simpa [takeReinit] using hg,
    by simp [takeReinit], by simp [takeReinit]⟩,
    workedOut_of_idle (by simp [takeReinit, OpState.working]) (by simp [takeReinit]) (by simp [takeReinit])⟩
  have := (hv (by simpa [takeReinit] using e)).2
  exact ⟨by simp [takeReinit], by simpa [takeReinit, Control.copy] using this⟩

/-- In INIT neither command nor SETTLING stands, and both values are off. -/
theorem controlLaw_descriptor {s : State} {d : Option Desc} {v : Bool} (hp : s.ctrl.phase.isSome = true)
    (hd : v = true → (d.getD Desc.zero).check (controlBase s.ctrl.dsel) = none) (h : ControlLaw s) :
    ControlLaw (s.setCtrl { s.ctrl with desc := d, valid := v }) := by
  obtain ⟨hph, hn, hv, hg, hs, hc⟩ := h.steady
  have ho : s.ctrl.op = .init := hph.mp hp
  obtain ⟨hsus, hhush⟩ := h.workedOut.idle (by rw [ho]; rfl)
  rw [controlLaw_iff]
  refine ⟨⟨hph, fun e => ?_, fun e => ⟨?_, hd e⟩, hg, hs, fun o e => ?_⟩,
    workedOut_of_idle (by rw [State.setCtrl_ctrl, ho]; rfl) hsus hhush⟩
  · simp [ho] at e
  · simp [ho]
  · have := (hc o e).1
    rw [ho] at this
    exact absurd this (by simp [OpState.working])

theorem steady_setOp_performing {c : Control} (h : Steady c) (ho : c.op = .transparent) (hv : c.valid = true) :
    Steady { c with op := .performing } := by
  obtain ⟨hph, -, hch, hg, hs, hc⟩ := h
  refine ⟨?_, fun _ => hv, fun e => ⟨by simp, (hch e).2⟩, hg, fun e => ?_, fun o e => ⟨rfl, (hc o e).2⟩⟩
  · simpa [ho] using hph
  · exact absurd (hs e) (by simp [ho])

theorem controlLaw_enterPerforming {s : State} (ho : s.ctrl.op = .transparent) (hv : s.ctrl.valid = true)
    (h : ControlLaw s) : ControlLaw (enterPerforming s) := by
  refine controlLaw_workOut ?_
  simpa using steady_setOp_performing h.steady ho hv

/-- TRANSPARENT asks least of the control unit. -/
theorem steady_setOp_transparent {c : Control} (h : Steady c) (hph : c.phase = none)
    (ht : c.settleTimer = none) (hcut : c.settleCut = false) : Steady { c with op := .transparent } := by
  obtain ⟨-, -, hch, hg, -, hc⟩ := h
  exact ⟨by simp [hph], by simp, fun e => ⟨by simp, (hch e).2⟩, hg, by simp [ht, hcut], fun o e => ⟨rfl, (hc o e).2⟩⟩

theorem controlLaw_enterTransparent {s : State} (h : Steady { s.ctrl with op := .transparent }) :
    ControlLaw (enterTransparent s) := by
  refine controlLaw_of_quiet (quiet_testSwap _) ?_
  have : ControlLaw (workOut (setOp .transparent s)) := controlLaw_workOut (by simpa using h)
  exact this

theorem Steady.working {c : Control} (h : Steady c) (hw : c.op.working = true) : c.phase = none := by
  have := h.phase
  cases hp : c.phase with
  | none => rfl
  | some x => simp [hp] at this; simp [this, OpState.working] at hw

theorem controlLaw_enterTransparent_of_performing {s : State} (ho : s.ctrl.op = .performing) (h : ControlLaw s) :
    ControlLaw (enterTransparent s) := by
  have hs := h.steady
  have hw : s.ctrl.op.working = true := by rw [ho]; rfl
  have hno : ¬(s.ctrl.settleTimer.isSome = true ∨ s.ctrl.settleCut = true) := fun e => by
    simpa [ho] using hs.settle e
  exact controlLaw_enterTransparent (steady_setOp_transparent hs (hs.working hw)
    (by simpa using fun e => hno (.inl e)) (by simpa using fun e => hno (.inr e)))

/-- What INIT's phase, the argument read, the bank and the swap are does not matter. -/
theorem Steady.congr {c c' : Control} (h : Steady c) (hp : c'.phase.isSome = c.phase.isSome)
    (he : c' = { c with
      phase := c'.phase, argRead := c'.argRead, argAhead := c'.argAhead, bank := c'.bank, swap := c'.swap }) :
    Steady c' := by
  obtain ⟨h₁, h₂, h₃, h₆, h₇, h₈⟩ := h
  refine ⟨?_, ?_, ?_, ?_, ?_, ?_⟩
  · rw [hp, he]
    exact h₁
  all_goals
    rw [he]
    assumption

theorem Steady.of_quiet {s t : State} (h : Quiet s t) (hs : Steady s.ctrl) : Steady t.ctrl := hs.congr h.phase h.ctrl

theorem controlLaw_enterSettling {s : State} (ho : s.ctrl.op = .performing) (h : ControlLaw s) :
    ControlLaw (enterSettling s) := by
  obtain ⟨hph, hn, hch, hg, -, hc⟩ := h.steady
  have hst : Steady { s.ctrl with
      op := .settling, settleFrames := 0, settleTimer := some s.timebase, settleCut := false } :=
    ⟨by simpa [ho] using hph, fun _ => hn (.inl ho), fun e => ⟨by simp, (hch e).2⟩, hg, fun _ => rfl,
      fun o e => ⟨rfl, (hc o e).2⟩⟩
  refine controlLaw_workOut (Steady.of_quiet (quiet_endRestrike _) ?_)
  simpa using hst

theorem controlLaw_endSettling {s : State} (ho : s.ctrl.op = .settling) (h : ControlLaw s) :
    ControlLaw (endSettling s) := by
  have hw : s.ctrl.op.working = true := by rw [ho]; rfl
  obtain ⟨-, -, hch, hg, -, hc⟩ := h.steady
  have hst : Steady { s.ctrl with op := .transparent, settleTimer := none, settleCut := false } :=
    ⟨by simp [h.steady.working hw], by simp, fun e => ⟨by simp, (hch e).2⟩, hg, by simp, fun o e => ⟨rfl, (hc o e).2⟩⟩
  refine controlLaw_of_quiet ((quiet_raiseFlag _ _).trans (quiet_finish _ _ _)) (controlLaw_enterTransparent ?_)
  rw [report_ctrl, State.setEng_ctrl]
  split
  · split
    · have hq := quiet_endItem (s.setCtrl { s.ctrl with settleTimer := none, settleCut := false })
      refine hst.congr (by simp) ?_
      rw [hq.ctrl]
      rfl
    · exact hst
  · exact hst

/-- PERFORMING is chosen with a valid descriptor only; without one INIT ends in TRANSPARENT. -/
theorem controlLaw_endInit {s : State} (hp : s.ctrl.phase.isSome = true) (h : ControlLaw s) :
    ControlLaw (endInit s) := by
  obtain ⟨hph, -, hch, hg, hs, hc⟩ := h.steady
  have ho : s.ctrl.op = .init := hph.mp hp
  have hst (o : OpState) (hv : o = .performing ∧ s.ctrl.valid = true ∨ o = .transparent) :
      Steady { s.ctrl with op := o, phase := none } := by
    refine ⟨?_, ?_, fun e => ⟨?_, (hch e).2⟩, hg, fun e => absurd (hs e) (by simp [ho]),
      fun k e => absurd (hc k e).1 (by simp [ho, OpState.working])⟩
    all_goals rcases hv with ⟨rfl, hv⟩ | rfl <;> simp [*]
  unfold endInit
  dsimp only []
  split
  · next ht =>
    have hv : s.ctrl.valid = true := by
      unfold initTarget at ht
      split at ht <;> simp_all
    refine controlLaw_workOut ?_
    simpa [hv, ht] using hst .performing (.inl ⟨rfl, hv⟩)
  · refine controlLaw_enterTransparent ?_
    have := hst .transparent (.inr rfl)
    split <;> simpa using this

/-! ### Moves of the control unit's own values -/

/-- The guard keeps its span in order; nothing else of the law speaks of it. -/
theorem controlLaw_setGuard {s : State} {g : Guard} (hg : g.first ≤ g.last) (h : ControlLaw s) :
    ControlLaw (s.setCtrl { s.ctrl with guard := g }) := by
  obtain ⟨h₁, h₂, h₃, h₄, h₅, -, h₇, h₈⟩ := h
  exact ⟨h₁, h₂, h₃, h₄, h₅, hg, h₇, h₈⟩

theorem controlLaw_setCommand {s : State} {k : Option Opcode}
    (hk : ∀ o, k = some o → s.ctrl.op.working = true ∧ o.hasArg = true ∧ (s.ctrl.valid = true ∨ o.anyDescriptor = true))
    (h : ControlLaw s) : ControlLaw (s.setCtrl { s.ctrl with command := k }) := by
  obtain ⟨h₁, h₂, h₃, h₄, h₅, h₆, h₇, -⟩ := h
  exact ⟨h₁, h₂, h₃, h₄, h₅, h₆, h₇, hk⟩

theorem controlLaw_settleCut {s : State} (ho : s.ctrl.op = .settling) (h : ControlLaw s) :
    ControlLaw (s.setCtrl { s.ctrl with settleCut := true, settleTimer := none }) := by
  obtain ⟨h₁, h₂, h₃, h₄, h₅, h₆, -, h₈⟩ := h
  exact ⟨h₁, h₂, h₃, h₄, h₅, h₆, fun _ => ho, h₈⟩

theorem steady_sustReading {c : Control} (b : Bool) (h : Steady c) : Steady { c with sustReading := b } :=
  ⟨h.phase, h.needs, h.checked, h.span, h.settle, h.command⟩

theorem steady_sustainFlag {c : Control} (b : Bool) (h : Steady c) : Steady { c with sustainFlag := b } :=
  ⟨h.phase, h.needs, h.checked, h.span, h.settle, h.command⟩

theorem steady_hushReading {c : Control} (b : Bool) (h : Steady c) : Steady { c with hushReading := b } :=
  ⟨h.phase, h.needs, h.checked, h.span, h.settle, h.command⟩

/-- The law is about the control unit alone. -/
theorem controlLaw_of_ctrl {s t : State} (he : t.ctrl = s.ctrl) (h : ControlLaw s) : ControlLaw t := by
  unfold ControlLaw
  rw [he]
  exact h

theorem controlLaw_workOutSustain {s : State} (h : Steady s.ctrl) : ControlLaw (workOutSustain s) :=
  controlLaw_of_ctrl (workOutSustain_ctrl s) (controlLaw_workOut h)

theorem controlLaw_buttons {s : State} (l : List (Pos × Bool)) (h : ControlLaw s) :
    ControlLaw (l.foldl (fun t x => report t (t.setScan (t.scan.apply t.ctrl.op (hushPinActive t.ctrl) x))) s) :=
  foldl_keeps _ l (fun _ _ ht => controlLaw_of_ctrl (by simp) ht) s h

theorem controlLaw_settleFrame {s : State} {n : Nat} (h : ControlLaw s) :
    ControlLaw (s.setCtrl { s.ctrl with settleFrames := n }) := by
  obtain ⟨h₁, h₂, h₃, h₄, h₅, h₆, h₇, h₈⟩ := h
  exact ⟨h₁, h₂, h₃, h₄, h₅, h₆, h₇, h₈⟩

theorem ControlLaw.settling {s : State} (h : ControlLaw s) (hc : s.ctrl.settleCut = true ∨ s.ctrl.op = .settling) :
    s.ctrl.op = .settling := hc.elim (fun e => h.steady.settle (.inr e)) id

/-- Every move keeps the law of the operating state. -/
theorem controlLaw_kept : Kept True ControlLaw where
  quiet := controlLaw_of_quiet
  control _ h := h
  held h := controlLaw_enterHeld (.inr h)
  release d b := controlLaw_releaseHeld d b
  reinit := controlLaw_takeReinit
  descriptor := controlLaw_descriptor
  initEnd := controlLaw_endInit
  hushReading b h := controlLaw_workOut (steady_hushReading b h.steady)
  sustReading b h := controlLaw_workOutSustain (steady_sustReading b h.steady)
  sustainFlag b h := controlLaw_workOutSustain (steady_sustainFlag b h.steady)
  hush := controlLaw_of_ctrl (announceHush_ctrl _)
  performing ho hv := controlLaw_enterPerforming ho (hv trivial)
  settling := controlLaw_enterSettling
  transparent ho _ := controlLaw_enterTransparent_of_performing ho
  settled hc h := controlLaw_endSettling (h.settling hc) h
  guard _ := controlLaw_setGuard
  lock h := controlLaw_setGuard h.steady.span h
  argument hw ha hv := controlLaw_setCommand (by rintro _ ⟨⟩; exact ⟨hw, ha, hv⟩)
  noCommand := controlLaw_setCommand (by simp)
  settleFrame := controlLaw_settleFrame
  settleCut := controlLaw_settleCut
  event := controlLaw_of_ctrl rfl
  trip := controlLaw_of_ctrl rfl
  buttons _ _ := controlLaw_buttons _
  sample _ _ _ := controlLaw_of_ctrl rfl
  hold := controlLaw_of_ctrl rfl
  level _ := controlLaw_of_ctrl rfl
  evict _ _ := controlLaw_of_ctrl rfl
  flush := controlLaw_of_ctrl rfl
  promote _ := controlLaw_of_ctrl rfl
  install _ := controlLaw_of_ctrl rfl
  post _ _ := controlLaw_of_ctrl rfl
  grant := controlLaw_of_ctrl (grant_ctrl _)
  push _ := controlLaw_of_ctrl (doPush_ctrl _ _)
  frameCount := controlLaw_of_ctrl rfl

/-- Two laws are kept together when the first is kept with what the law of the operating state says, and the second
by itself. -/
theorem Kept.and {P Q : State → Prop} (h : Kept True P) (k : Kept False Q) : Kept True fun s => P s ∧ Q s where
  quiet q := And.imp (h.quiet q) (k.quiet q)
  control c p := h.control c p.1
  held := And.imp h.held k.held
  release d b ho := And.imp (h.release d b ho) (k.release d b ho)
  reinit := And.imp h.reinit k.reinit
  descriptor hp hd := And.imp (h.descriptor hp hd) (k.descriptor hp hd)
  initEnd hp := And.imp (h.initEnd hp) (k.initEnd hp)
  hushReading b := And.imp (h.hushReading b) (k.hushReading b)
  sustReading b := And.imp (h.sustReading b) (k.sustReading b)
  sustainFlag b := And.imp (h.sustainFlag b) (k.sustainFlag b)
  hush := And.imp h.hush k.hush
  performing ho hv := And.imp (h.performing ho hv) (k.performing ho False.elim)
  settling ho := And.imp (h.settling ho) (k.settling ho)
  transparent ho he := And.imp (h.transparent ho he) (k.transparent ho he)
  settled hc := And.imp (h.settled hc) (k.settled hc)
  guard hl hg := And.imp (h.guard hl hg) (k.guard hl hg)
  lock := And.imp h.lock k.lock
  argument hw ha hv := And.imp (h.argument hw ha hv) (k.argument hw ha hv)
  noCommand := And.imp h.noCommand k.noCommand
  settleFrame := And.imp h.settleFrame k.settleFrame
  settleCut ho := And.imp (h.settleCut ho) (k.settleCut ho)
  event := And.imp h.event k.event
  trip := And.imp h.trip k.trip
  buttons hl hc := And.imp (h.buttons hl hc) (k.buttons hl hc)
  sample d op p := And.imp (h.sample d op p) (k.sample d op p)
  hold := And.imp h.hold k.hold
  level hm := And.imp (h.level hm) (k.level hm)
  evict b p := And.imp (h.evict b p) (k.evict b p)
  flush := And.imp h.flush k.flush
  promote he := And.imp (h.promote he) (k.promote he)
  install e := And.imp (h.install e) (k.install e)
  post w hw := And.imp (h.post w hw) (k.post w hw)
  grant := And.imp h.grant k.grant
  push hp := And.imp (h.push hp) (k.push hp)
  frameCount := And.imp h.frameCount k.frameCount

/-- Settles O58: the law of the operating state with the laws of sizes, cache and tracker. -/
theorem everyStepKeepsTheOperatingLaws : Obligations.EveryStepKeepsTheOperatingLaws :=
  (controlLaw_kept.and sizeLaws_kept).stepKeeps fun s => ⟨controlLaw_enterHeld (.inl rfl), sizeLaws_enterHeld true s⟩

end Sys2Proof.Machine
end

section
/-! PROOFS. The guard under its lock (R161, R162, R163). -/

namespace Sys2Proof.Machine

/-- The guard's values stand still. -/
def GuardIs (g : Guard) (s : State) : Prop := s.ctrl.guard = g

theorem GuardIs.of_guard {g : Guard} {s t : State} (he : t.ctrl.guard = s.ctrl.guard) (h : GuardIs g s) :
    GuardIs g t := he.trans h

theorem enterPerforming_guard (s : State) : (enterPerforming s).ctrl.guard = s.ctrl.guard := by
  simp [enterPerforming]

theorem endInit_guard (s : State) : (endInit s).ctrl.guard = s.ctrl.guard := by
  unfold endInit
  dsimp only []
  split
  · rw [enterPerforming_guard]
    split <;> simp
  · rw [enterTransparent_ctrl_guard]
    split <;> simp

theorem enterSettling_guard (s : State) : (enterSettling s).ctrl.guard = s.ctrl.guard := by
  simp only [enterSettling, workOut_ctrl, (quiet_endRestrike _).guard]
  simp

theorem endSettling_guard (s : State) : (endSettling s).ctrl.guard = s.ctrl.guard := by
  unfold endSettling
  dsimp only []
  rw [finish_ctrl, raiseFlag_ctrl, enterTransparent_ctrl_guard, report_ctrl, State.setEng_ctrl]
  split
  · split
    · rw [(quiet_endItem _).guard]
      rfl
    · rfl
  · rfl

/-- With the lock set, no move but the entry to HELD at power-on touches the guard. -/
theorem guardIs_kept {g : Guard} (hg : g.lock = true) : Kept False (GuardIs g) where
  quiet h := GuardIs.of_guard h.guard
  control := False.elim
  held := GuardIs.of_guard rfl
  release d b _ := GuardIs.of_guard (by simp [releaseHeld])
  reinit := GuardIs.of_guard (by simp [takeReinit])
  descriptor _ _ := GuardIs.of_guard rfl
  initEnd _ := GuardIs.of_guard (endInit_guard _)
  hushReading b := GuardIs.of_guard (by simp)
  sustReading b := GuardIs.of_guard (by simp)
  sustainFlag b := GuardIs.of_guard (by simp)
  hush := GuardIs.of_guard (by simp)
  performing _ _ := GuardIs.of_guard (enterPerforming_guard _)
  settling _ := GuardIs.of_guard (enterSettling_guard _)
  transparent _ _ := GuardIs.of_guard (enterTransparent_ctrl_guard _)
  settled _ := GuardIs.of_guard (endSettling_guard _)
  guard hl _ h := by rw [h, hg] at hl; cases hl
  lock {s} h := by
    show ({ s.ctrl.guard with lock := true } : Guard) = g
    rw [h, ← hg]
  argument _ _ _ := GuardIs.of_guard rfl
  noCommand := GuardIs.of_guard rfl
  settleFrame := GuardIs.of_guard rfl
  settleCut _ := GuardIs.of_guard rfl
  event := GuardIs.of_guard rfl
  trip := GuardIs.of_guard rfl
  buttons _ _ h := foldl_keeps (P := GuardIs g) _ _ (fun _ _ => GuardIs.of_guard (by simp)) _ h
  sample _ _ _ := GuardIs.of_guard rfl
  hold := GuardIs.of_guard rfl
  level _ := GuardIs.of_guard rfl
  evict _ _ := GuardIs.of_guard rfl
  flush := GuardIs.of_guard rfl
  promote _ := GuardIs.of_guard rfl
  install _ := GuardIs.of_guard rfl
  post _ _ := GuardIs.of_guard rfl
  grant := GuardIs.of_guard (by simp)
  push _ := GuardIs.of_guard (by simp)
  frameCount := GuardIs.of_guard rfl

theorem enterHeld_true_guard (s : State) :
    (enterHeld true s).ctrl.guard = { first := 0, last := 255, mode := .off, lock := false } := rfl

/-- The detector that becomes active at the end of HELD enters HELD afresh, at the power-on values. -/
theorem execHeldRelease_detector {s : State} (x : Bool) (d : BitVec 2) (b : Bool) (ho : s.ctrl.op = .held)
    (hd : s.pins.detectorActive = false) :
    execHeldRelease x false d b s =
      .next (enterHeld true (s.setPins { s.pins with resetLow := !x, detectorActive := true })) := by
  simp [execHeldRelease, ho, hd]

/-- Settles O60: with the lock set the guard is kept by every move, the entry to HELD at power-on apart. -/
theorem theGuardLockHoldsUntilPowerOn : Obligations.TheGuardLockHoldsUntilPowerOn := by
  refine ⟨fun i s t hl hi hr hx => ?_, fun s => ⟨⟨_, rfl, rfl⟩, fun x d b ho hd => ?_⟩⟩
  · refine (guardIs_kept hl).exec hx (fun hp => ?_) rfl
    rcases hp with rfl | ⟨x, d, b, rfl, ho, hd⟩
    · exact absurd rfl hi
    · rw [hr x d b rfl ho] at hd
      cases hd
  · exact ⟨_, execHeldRelease_detector x d b ho hd, enterHeld_true_guard _⟩

end Sys2Proof.Machine
end

section
/-! PROOFS. The button events of a position alternate, and the last one agrees with the down image (R44, R46, R47). -/

namespace Sys2Proof.Machine

/-- The kinds of the events that the queue holds for a position. -/
def kindsAt (p : Pos) (es : List ButtonEvent) : List Bool := (es.filter fun e => decide (e.pos = p)).map (·.isPress)

/-- The law of events for one position: its kinds alternate, and the last one is a press when the position is down. -/
def Alternates (sc : Scan) (p : Pos) : Prop :=
  (kindsAt p sc.events).IsChain (· ≠ ·) ∧
    ∀ k, (kindsAt p sc.events).getLast? = some k → (k = true ↔ sc.down.get p = .down)

theorem eventLaw_iff (s : State) : EventLaw s ↔
    s.scan.events.length ≤ 32 ∧ (s.ctrl.op ≠ .performing → s.scan.events = []) ∧ ∀ p, Alternates s.scan p := Iff.rfl

theorem eventLaw_of_empty {s : State} (h : s.scan.events = []) : EventLaw s := by
  rw [eventLaw_iff]
  simp [h, Alternates, kindsAt]

theorem eventLaw_of_same {s t : State} (he : t.scan.events = s.scan.events) (hd : t.scan.down = s.scan.down)
    (ho : t.ctrl.op = s.ctrl.op) (h : EventLaw s) : EventLaw t := by
  unfold EventLaw eventKinds
  rw [he, hd, ho]
  exact h

/-- Outside PERFORMING the queue is empty, and a move that keeps it so keeps the law. -/
theorem eventLaw_of_idle {s t : State} (ho : s.ctrl.op ≠ .performing) (he : t.scan.events = s.scan.events)
    (h : EventLaw s) : EventLaw t := eventLaw_of_empty (he.trans (h.2.1 ho))

/-! ### The oldest event is taken -/

theorem kindsAt_tail_suffix (p : Pos) (es : List ButtonEvent) : kindsAt p es.tail <:+ kindsAt p es :=
  ((List.tail_suffix es).filter _).map _

theorem getLast?_of_suffix {α : Type} {l l' : List α} {a : α} (h : l <:+ l') (ha : l.getLast? = some a) :
    l'.getLast? = some a := by
  obtain ⟨m, rfl⟩ := h
  simp [ha]

theorem eventLaw_event {s : State} (h : EventLaw s) :
    EventLaw (s.setScan { s.scan with events := s.scan.events.tail }) := by
  obtain ⟨hlen, hop, halt⟩ := (eventLaw_iff s).mp h
  refine (eventLaw_iff _).mpr ⟨?_, fun ho => ?_, fun p => ?_⟩
  · simp only [State.setScan_scan, List.length_tail]
    omega
  · simp [hop ho]
  · have hsuf := kindsAt_tail_suffix p s.scan.events
    exact ⟨(halt p).1.suffix hsuf, fun k hk => (halt p).2 k (getLast?_of_suffix hsuf hk)⟩

/-! ### New states -/

/-- Without an event, being down or not does not change in PERFORMING. -/
theorem condAfter_of_eventOf_none {eff d : Bool} {c : Cond} {p : Pos} (h : eventOf eff c p d = none) :
    condAfter .performing eff c d = .down ↔ c = .down := by
  cases c <;> cases d <;> cases eff <;> simp_all [eventOf, condAfter]

/-- An event in PERFORMING: its kind is the new condition's, and not the old one's. -/
theorem condAfter_of_eventOf {eff d : Bool} {c : Cond} {p : Pos} {e : ButtonEvent} (h : eventOf eff c p d = some e) :
    e.pos = p ∧ (e.isPress = true ↔ condAfter .performing eff c d = .down) ∧ (e.isPress = true ↔ c ≠ .down) := by
  cases c with
  | hushed => cases d <;> simp [eventOf] at h
  | up =>
    cases d <;> cases eff <;> simp [eventOf] at h
    subst h
    simp [condAfter]
  | down =>
    cases d <;> simp [eventOf] at h
    subst h
    simp [condAfter]

theorem kindsAt_append (p : Pos) (es fs : List ButtonEvent) : kindsAt p (es ++ fs) = kindsAt p es ++ kindsAt p fs := by
  simp [kindsAt]

/-- The events that a new state of one position brings in PERFORMING. -/
def newEvents (eff : Bool) (sc : Scan) (x : Pos × Bool) : List ButtonEvent :=
  (eventOf eff (sc.down.get x.1) x.1 x.2).toList

theorem apply_events (eff : Bool) (sc : Scan) (x : Pos × Bool) :
    (sc.apply .performing eff x).events = sc.events ++ newEvents eff sc x := by
  simp [Scan.apply, newEvents]

theorem apply_events_of_ne {op : OpState} (h : op ≠ .performing) (eff : Bool) (sc : Scan) (x : Pos × Bool) :
    (sc.apply op eff x).events = sc.events := by
  simp [Scan.apply, h]

theorem apply_down_get (op : OpState) (eff : Bool) (sc : Scan) (x : Pos × Bool) (p : Pos) :
    (sc.apply op eff x).down.get p = if p = x.1 then condAfter op eff (sc.down.get x.1) x.2 else sc.down.get p := by
  simp [Scan.apply, Tbl.get_set, eq_comm]

theorem kindsAt_newEvents_of_ne {eff : Bool} {sc : Scan} {x : Pos × Bool} {p : Pos} (h : p ≠ x.1) :
    kindsAt p (newEvents eff sc x) = [] := by
  unfold newEvents
  cases he : eventOf eff (sc.down.get x.1) x.1 x.2 with
  | none => rfl
  | some e => simp [kindsAt, (condAfter_of_eventOf he).1, Ne.symm h]

theorem alternates_apply {eff : Bool} {sc : Scan} {x : Pos × Bool} {p : Pos} (h : Alternates sc p) :
    Alternates (sc.apply .performing eff x) p := by
  obtain ⟨hchain, hlast⟩ := h
  unfold Alternates
  rw [apply_events, kindsAt_append, apply_down_get]
  by_cases hp : p = x.1
  · subst hp
    rw [if_pos rfl]
    unfold newEvents
    cases he : eventOf eff (sc.down.get x.1) x.1 x.2 with
    | none =>
      rw [condAfter_of_eventOf_none he]
      simpa [kindsAt] using And.intro hchain hlast
    | some e =>
      obtain ⟨hpos, hnew, hold⟩ := condAfter_of_eventOf he
      have hk : kindsAt x.1 (some e).toList = [e.isPress] := by simp [kindsAt, hpos]
      rw [hk]
      refine ⟨List.isChain_append.mpr ⟨hchain, List.isChain_singleton _, fun k hk k' hk' => ?_⟩, fun k hk => ?_⟩
      · cases hk'
        have := hlast k hk
        cases k <;> cases hi : e.isPress <;> simp_all
      · rw [List.getLast?_append] at hk
        cases hk
        exact hnew
  · rw [if_neg hp, kindsAt_newEvents_of_ne hp, List.append_nil]
    exact ⟨hchain, hlast⟩

/-- One position's new state, when the queue has room for its event. -/
theorem eventLaw_apply {s : State} {eff : Bool} {x : Pos × Bool}
    (hfit : s.ctrl.op = .performing → s.scan.events.length + (newEvents eff s.scan x).length ≤ 32) (h : EventLaw s) :
    EventLaw (report s (s.setScan (s.scan.apply s.ctrl.op eff x))) := by
  by_cases ho : s.ctrl.op = .performing
  · refine (eventLaw_iff _).mpr ⟨?_, fun hn => absurd ho (by simpa using hn), fun p => ?_⟩
    · simpa [ho, apply_events] using hfit ho
    · simpa [ho] using alternates_apply (h.2.2 p)
  · exact eventLaw_of_idle ho (by simp [apply_events_of_ne ho]) h

theorem eventCount_cons (eff : Bool) (sc : Scan) (x : Pos × Bool) (l : List (Pos × Bool)) :
    eventCount .performing eff sc (x :: l) = (newEvents eff sc x).length + eventCount .performing eff sc l := by
  unfold eventCount newEvents
  rw [if_pos rfl, if_pos rfl, List.filter_cons]
  cases eventOf eff (sc.down.get x.1) x.1 x.2 with
  | none => simp
  | some e => simp [Nat.add_comm]

theorem eventCount_of_same_down {op : OpState} {eff : Bool} {sc sc' : Scan} {l : List (Pos × Bool)}
    (h : ∀ y ∈ l, sc'.down.get y.1 = sc.down.get y.1) : eventCount op eff sc' l = eventCount op eff sc l := by
  unfold eventCount
  rw [List.filter_congr fun y hy => by rw [h y hy]]

theorem down_of_not_mem {op : OpState} {eff : Bool} {sc : Scan} {x : Pos × Bool} {l : List (Pos × Bool)}
    (hx : x.1 ∉ l.map (·.1)) : ∀ y ∈ l, (sc.apply op eff x).down.get y.1 = sc.down.get y.1 := by
  intro y hy
  rw [apply_down_get, if_neg]
  rintro he
  exact hx (he ▸ List.mem_map_of_mem hy)

/-- New states of different positions, counted on the image before the first of them (R46). -/
theorem eventLaw_buttons (l : List (Pos × Bool)) (hl : (l.map (·.1)).Nodup) {s : State}
    (hfit : s.scan.events.length + eventCount s.ctrl.op (hushPinActive s.ctrl) s.scan l ≤ 32) (h : EventLaw s) :
    EventLaw (l.foldl (fun t x => report t (t.setScan (t.scan.apply t.ctrl.op (hushPinActive t.ctrl) x))) s) := by
  induction l generalizing s with
  | nil => exact h
  | cons x l ih =>
    obtain ⟨hx, hl⟩ := List.nodup_cons.mp hl
    refine ih hl ?_ (eventLaw_apply (fun ho => ?_) h)
    · have hsame := eventCount_of_same_down (op := s.ctrl.op) (eff := hushPinActive s.ctrl)
        (down_of_not_mem (op := s.ctrl.op) (eff := hushPinActive s.ctrl) (sc := s.scan) hx)
      simp only [report_scan, State.setScan_scan, report_ctrl, State.setScan_ctrl, hsame]
      by_cases ho : s.ctrl.op = .performing
      · rw [ho, eventCount_cons] at hfit
        rw [ho, apply_events, List.length_append]
        omega
      · rw [apply_events_of_ne ho]
        simpa [eventCount, ho] using hfit
    · rw [ho, eventCount_cons] at hfit
      omega

/-! ### The moves -/

theorem endInit_events (s : State) : (endInit s).scan.events = s.scan.events := by
  unfold endInit
  dsimp only []
  split
  · rw [enterPerforming_scan]
    split <;> simp [Scan.enterPerforming, Scan.align] <;> split <;> rfl
  · rw [enterTransparent_scan]
    split <;> simp [Scan.align] <;> split <;> rfl

theorem enterSettling_events (s : State) : (enterSettling s).scan.events = [] := by
  simp [enterSettling, Scan.flush]

/-- Every move keeps the law of events, together with the law of the operating state. -/
theorem controlAndEventLaw_kept : Kept True fun s => ControlLaw s ∧ EventLaw s where
  quiet q := And.imp (controlLaw_kept.quiet q) (eventLaw_of_same q.events q.down q.op)
  control _ h := h.1
  held := And.imp controlLaw_kept.held fun _ => eventLaw_of_empty rfl
  release d b ho := And.imp (controlLaw_kept.release d b ho) (eventLaw_of_idle (by simp [ho]) (by simp [releaseHeld]))
  reinit := And.imp controlLaw_kept.reinit fun _ => eventLaw_of_empty (by simp [takeReinit])
  descriptor hp hd := And.imp (controlLaw_kept.descriptor hp hd) (eventLaw_of_same rfl rfl rfl)
  initEnd hp h := ⟨controlLaw_kept.initEnd hp h.1,
    eventLaw_of_idle (by simp [h.1.steady.phase.mp hp]) (endInit_events _) h.2⟩
  hushReading b := And.imp (controlLaw_kept.hushReading b) (eventLaw_of_same (by simp) (by simp) (by simp))
  sustReading b := And.imp (controlLaw_kept.sustReading b) (eventLaw_of_same (by simp) (by simp) (by simp))
  sustainFlag b := And.imp (controlLaw_kept.sustainFlag b) (eventLaw_of_same (by simp) (by simp) (by simp))
  hush := And.imp controlLaw_kept.hush fun _ => eventLaw_of_empty (announceHush_hushed _).1
  performing ho hv := And.imp (controlLaw_kept.performing ho hv)
    (eventLaw_of_idle (by simp [ho]) (by simp [Scan.enterPerforming]))
  settling ho := And.imp (controlLaw_kept.settling ho) fun _ => eventLaw_of_empty (enterSettling_events _)
  transparent ho he := And.imp (controlLaw_kept.transparent ho he) fun _ => eventLaw_of_empty (by simpa using he)
  settled hc h := ⟨controlLaw_kept.settled hc h.1,
    eventLaw_of_idle (by simp [h.1.settling hc]) (by simp) h.2⟩
  guard hl hg := And.imp (controlLaw_kept.guard hl hg) (eventLaw_of_same rfl rfl rfl)
  lock := And.imp controlLaw_kept.lock (eventLaw_of_same rfl rfl rfl)
  argument hw ha hv := And.imp (controlLaw_kept.argument hw ha hv) (eventLaw_of_same rfl rfl rfl)
  noCommand := And.imp controlLaw_kept.noCommand (eventLaw_of_same rfl rfl rfl)
  settleFrame := And.imp controlLaw_kept.settleFrame (eventLaw_of_same rfl rfl rfl)
  settleCut ho := And.imp (controlLaw_kept.settleCut ho) (eventLaw_of_same rfl rfl rfl)
  event := And.imp controlLaw_kept.event eventLaw_event
  trip := And.imp controlLaw_kept.trip fun _ => eventLaw_of_empty rfl
  buttons hl hc h := ⟨controlLaw_kept.buttons hl hc h.1, by
    refine eventLaw_buttons _ hl ?_ h.2
    have := h.2.1
    simp only [Scan.freeSpace, Config.eventMax] at hc
    omega⟩
  sample d op p := And.imp (controlLaw_kept.sample d op p) (eventLaw_of_same rfl rfl rfl)
  hold := And.imp controlLaw_kept.hold (eventLaw_of_same rfl rfl rfl)
  level hm := And.imp (controlLaw_kept.level hm) (eventLaw_of_same rfl rfl rfl)
  evict b p := And.imp (controlLaw_kept.evict b p) (eventLaw_of_same rfl rfl rfl)
  flush := And.imp controlLaw_kept.flush (eventLaw_of_same rfl rfl rfl)
  promote he := And.imp (controlLaw_kept.promote he) (eventLaw_of_same rfl rfl rfl)
  install e := And.imp (controlLaw_kept.install e) (eventLaw_of_same rfl rfl rfl)
  post w hw := And.imp (controlLaw_kept.post w hw) (eventLaw_of_same rfl rfl rfl)
  grant := And.imp controlLaw_kept.grant (eventLaw_of_same (by simp) (by simp) (by simp))
  push hp := And.imp (controlLaw_kept.push hp) (eventLaw_of_same (by simp) (by simp) (by simp))
  frameCount := And.imp controlLaw_kept.frameCount (eventLaw_of_same rfl rfl rfl)

/-- Settles O57: the law of events with the law of the operating state. -/
theorem everyStepKeepsTheEventLaw : Obligations.EveryStepKeepsTheEventLaw :=
  controlAndEventLaw_kept.stepKeeps fun _ => ⟨controlLaw_enterHeld (.inl rfl), eventLaw_of_empty rfl⟩

end Sys2Proof.Machine
end

section
/-! PROOFS. HELD: its values, its release, and the requests and answers that come before INIT has ended (R10, R11). -/

namespace Sys2Proof.Machine

/-! ### The values of HELD -/

/-- Entry to HELD gives every block its values of reset, whatever it held before. -/
theorem resetValues_enterHeld (b : Bool) (s : State) : ResetValues (enterHeld b s) := by
  simp [ResetValues, enterHeld, Control.powerOn, Arbiter.reset, Scan.reset, Bellows.reset, MapUnit.reset,
    SectRecord.zero, SlotRec.reset, Engine.reset, VoiceWriter.reset, Tone.reset, Status.reset, irq]

/-- Power-on enters HELD from nowhere. -/
theorem reset_eq_enterHeld : ∃ s, State.reset = enterHeld true s :=
  ⟨State.reset, by simp [State.reset, enterHeld, Control.powerOn, Tone.reset, Arbiter.reset]⟩

theorem slotLaw_of_engine_reset {s : State} (h : s.eng = Engine.reset) : SlotLaw s := by
  unfold SlotLaw SlotsPartitioned CountsAgree
  simp [h, Engine.reset, SlotRec.reset]

/-- Settles O3: the state of reset is HELD as power-on enters it, with an empty slot table. -/
theorem resetHoldsTheSpecsValues : Obligations.ResetHoldsTheSpecsValues := by
  obtain ⟨s, hs⟩ := reset_eq_enterHeld
  refine ⟨hs ▸ resetValues_enterHeld true s, rfl, rfl, rfl, slotLaw_of_engine_reset rfl, ?_, ?_, ?_,
    eventLaw_of_empty rfl, ?_, ?_, hs ▸ controlLaw_enterHeld (.inl rfl), hs ▸ sizeLaws_enterHeld true s⟩
  · simp [HeldLaw, State.reset, Engine.reset]
  · simp [ListedLaw, State.reset, Engine.reset, SlotRec.reset]
  · simp [ItemLaw, State.reset, Engine.reset]
  · simp [HeldReadLaw, State.reset, Tone.reset, Control.powerOn]
  · simp [FillLaw, State.reset, VoiceWriter.reset]

/-! ### Answers of RAM -/

/-- Whatever owner the access has, the command that answers it is a landing. -/
theorem exec_answered (o : Owner) (e : Bool) (w : Tbl 8 Word) : ∃ (m : Owner → Bool) (g : Access → State → State),
    m o = true ∧ ∀ s, exec (o.answered e w) s = .next (landing m e g s) := by
  cases e
  all_goals
    cases o with
    | fetch k => cases k <;> exact ⟨_, _, rfl, fun _ => rfl⟩
    | tRead | tWrite | fill | voice | pWrite | pRead | snapshot => exact ⟨_, _, rfl, fun _ => rfl⟩

/-- The answer to an access that was under way at entry to HELD frees the M-port and does nothing else (R10). -/
theorem exec_answered_of_held {s : State} {a : Access} (e : Bool) (w : Tbl 8 Word) (ha : s.arb.access = some a)
    (hd : a.drop = .held) : exec (a.owner.answered e w) s = .next (freePort s) := by
  obtain ⟨m, g, hm, hx⟩ := exec_answered a.owner e w
  rw [hx]
  simp [landing, ha, hm, hd]

/-- The answer to an access that was under way when REINIT was taken: its error is logged (R11). -/
theorem exec_answered_of_reinit {s : State} {a : Access} (e : Bool) (w : Tbl 8 Word) (ha : s.arb.access = some a)
    (hd : a.drop = .reinit) : exec (a.owner.answered e w) s = .next (logError a e (freePort s)) := by
  obtain ⟨m, g, hm, hx⟩ := exec_answered a.owner e w
  rw [hx]
  simp [landing, ha, hm, hd]

/-- Settles O4: every way into HELD is `enterHeld`. -/
theorem heldIsEnteredAtTheResetValues : Obligations.HeldIsEnteredAtTheResetValues := by
  refine ⟨fun s => ⟨_, rfl, resetValues_enterHeld _ _, rfl, rfl, fun h => by simp [enterHeld, h],
    fun h => by simp [enterHeld, h], rfl, rfl, rfl⟩, fun s => ⟨fun ho => ?_, fun ho => ?_⟩,
    fun s a e w ha hd => exec_answered_of_held e w ha hd⟩
  · refine ⟨enterHeld false (s.setPins { s.pins with resetLow := true }), ?_, resetValues_enterHeld _ _, rfl, rfl,
      fun h => by simp [enterHeld, h], fun h => by simp [enterHeld, h], rfl⟩
    simp [exec, execResetLow, ho]
  · simp [exec, execResetLow, ho, State.setPins]

/-! ### The release -/

/-- Settles O5, by the two levels. -/
theorem heldReleaseSamplesTheStraps : Obligations.HeldReleaseSamplesTheStraps := by
  intro s d b ho
  refine ⟨⟨_, by simp only [exec, execHeldRelease, if_pos ho]; rfl, ?_⟩, fun x y hxy hy => ?_, fun x hd => ?_⟩
  · simp [releaseHeld, VoicingKept, StatusKept]
  · have : (!y && !s.pins.detectorActive) = false := by
      rcases hy with rfl | hd
      · rfl
      · simp [hd]
    simp only [exec, execHeldRelease, if_pos ho, hxy, this]
    rfl
  · exact ⟨_, execHeldRelease_detector x d b ho hd, resetValues_enterHeld _ _, rfl, rfl, rfl, rfl⟩

/-! ### Requests outside the working states -/

section Deferred

variable {s : State} (hw : s.ctrl.op.working = false)
include hw

theorem pWrite_of_not_working (w : WriteReq) (hr : s.player.read = none) : pWrite w s = answerP .defer s := by
  simp [pWrite, hw, hr]

theorem pRead_of_not_working (r : ReadReq) (hr : s.player.read = none) : pRead r s = answerP .defer s := by
  simp [pRead, hw, hr]

theorem tRead_of_not_working (r : ReadReq) (ht : s.tone.service = none) : tRead r s = answerT .defer s := by
  simp [tRead, hw, ht]

theorem tWrite_of_not_working (w : WriteReq) (ht : s.tone.service = none) : tWrite w s = answerT .defer s := by
  simp [tWrite, hw, ht]

end Deferred

/-- Settles O25: HELD and INIT are the states that are not working. -/
theorem requestsOutsideTheWorkingStatesAreDeferred : Obligations.RequestsOutsideTheWorkingStatesAreDeferred := by
  intro s ho
  have hw : s.ctrl.op.working = false := by rcases ho with ho | ho <;> rw [ho] <;> rfl
  refine ⟨fun hr => ⟨fun w => congrArg _ (pWrite_of_not_working hw w hr),
      fun r => congrArg _ (pRead_of_not_working hw r hr), fun i op c hi => ?_⟩,
    fun ht => ⟨fun r => congrArg _ (tRead_of_not_working hw r ht), fun w => congrArg _ (tWrite_of_not_working hw w ht)⟩⟩
  rw [exec_commandOf hi]
  exact congrArg _ (pWrite_of_not_working hw _ hr)

end Sys2Proof.Machine
end

section
/-! PROOFS. What a push does, when it need not wait, and the run of INIT's writes of blank records (R15, R96, R119). -/

namespace Sys2Proof.Machine

/-! ### A push -/

@[simp] theorem doPush_eng (p : Push) (s : State) : (doPush p s).eng = pushEngine s p s.eng := by
  unfold doPush
  dsimp only []
  split <;> simp

@[simp] theorem doPush_voice (p : Push) (s : State) : (doPush p s).voice = pushWriter s p s.voice := by
  unfold doPush
  dsimp only []
  split <;> simp

theorem doPush_counters (p : Push) (s : State) : (doPush p s).stat.counters =
    { s.stat.counters with steals := if p.steals then bump s.stat.counters.steals else s.stat.counters.steals } := by
  unfold doPush
  dsimp only []
  split <;> simp

/-- Nothing is logged or raised by a push. -/
theorem doPush_statusKept {p : Push} (hp : p.steals = false) (s : State) : StatusKept s (doPush p s) := by
  simp [doPush, hp, StatusKept]

/-- The write that a push puts at the end of the voice write queue (R115). -/
def pushedWrite (s : State) (p : Push) : VoiceWrite :=
  { slot := p.slot, body := pushBody s p, tag := if p.grouped then some (pushTag s.voice) else none }

theorem pushWriter_queue (s : State) (p : Push) :
    (pushWriter s p s.voice).queue = s.voice.queue ++ [pushedWrite s p] := by
  unfold pushWriter pushedWrite joinGroup
  dsimp only []
  split
  · split <;> rfl
  · rfl

/-- A write that is not grouped waits for nothing but room in the queue (R119). -/
theorem canPush_of_ungrouped {s : State} {p : Push} (hg : p.grouped = false) :
    canPush s p = decide (s.voice.queue.length < 32) := by
  simp only [canPush, hg, Bool.not_false, Bool.true_or, Bool.and_true]
  rfl

theorem StatusKept.refl (s : State) : StatusKept s s := ⟨rfl, rfl, rfl, rfl, rfl⟩

theorem StatusKept.trans {s t u : State} (h : StatusKept s t) (k : StatusKept t u) : StatusKept s u := by
  obtain ⟨h₁, h₂, h₃, h₄, h₅⟩ := h
  obtain ⟨k₁, k₂, k₃, k₄, k₅⟩ := k
  exact ⟨k₁.trans h₁, k₂.trans h₂, k₃.trans h₃, k₄.trans h₄, k₅.trans h₅⟩

theorem StatusKept.of_stat {s t : State} (h : t.stat = s.stat) : StatusKept s t := by
  unfold StatusKept
  rw [h]
  exact ⟨rfl, rfl, rfl, rfl, rfl⟩

/-- A fault that has been logged stays the one fault that has been. -/
theorem FaultLogged.trans_kept {k : FaultKind} {p : PortId} {a : Addr} {s t u : State} (h : FaultLogged k p a s t)
    (hk : StatusKept t u) : FaultLogged k p a s u := by
  obtain ⟨h₁, h₂, h₃, h₄⟩ := h
  obtain ⟨k₁, k₂, k₃, k₄, -⟩ := hk
  exact ⟨k₁.trans h₁, k₂.trans h₂, k₃.trans h₃, k₄.trans h₄⟩

/-! ### Blank records -/

/-- The write of a blank record (R15). -/
def blankWrite (i : Slot) : VoiceWrite := { slot := i, body := .full 0 0 0 0, tag := none }

theorem voiceWord0_blank : voiceWord0 .free false 0 0 0 0 = 0 := by decide

theorem pushedWrite_blank (s : State) (i : Slot) : pushedWrite s (.blank i) = blankWrite i := by
  show ({ slot := i, body := .full (voiceWord0 .free false 0 0 0 0) 0 0 0, tag := none } : VoiceWrite) = _
  rw [voiceWord0_blank]
  rfl

theorem pushWriter_blank (s : State) (i : Slot) :
    pushWriter s (.blank i) s.voice = { s.voice with queue := s.voice.queue ++ [blankWrite i] } := by
  have := pushedWrite_blank s i
  simp only [pushedWrite, Push.grouped] at this
  simpa [pushWriter, Push.grouped] using this

/-- How the rebuild stands when it has written what there was room for. -/
def rebuildItem : List Slot → Option Item
  | [] => none
  | j :: ls => some { kind := .rebuild, wait := .push (.blank j), jobs := ls.map .blank }

/-- The records of `now` have been written blank, and those of `later` wait. -/
structure Blanked (s t : State) (now later : List Slot) : Prop where
  queue : t.voice.queue = s.voice.queue ++ now.map blankWrite
  eng : t.eng = { s.eng with mirror := t.eng.mirror, item := rebuildItem later }
  mirror : ∀ j, t.eng.mirror.get j = if j ∈ now then SlotRec.reset else s.eng.mirror.get j
  map : t.map = s.map
  ctrl : t.ctrl = s.ctrl
  status : StatusKept s t

theorem blanked_end {s : State} : Blanked s (itemEnd .rebuild s) [] [] := by
  refine ⟨?_, ?_, ?_, ?_, ?_, .of_stat ?_⟩ <;> simp [itemEnd, afterItem, rebuildItem]

theorem blanked_wait {s : State} (j : Slot) (ls : List Slot) :
    Blanked s (waitFor .rebuild (.push (.blank j)) (ls.map .blank) s) [] (j :: ls) := by
  refine ⟨?_, ?_, ?_, ?_, ?_, .of_stat ?_⟩ <;> simp [waitFor, rebuildItem]

theorem pushEngine_blank {s : State} (i : Slot) (ho : s.eng.order = []) :
    pushEngine s (.blank i) s.eng = { s.eng with mirror := s.eng.mirror.set i SlotRec.reset } := by
  simp [pushEngine, ho]

theorem blanked_cons {s t : State} {i : Slot} {now later : List Slot} (ho : s.eng.order = [])
    (h : Blanked (doPush (.blank i) s) t now later) : Blanked s t (i :: now) later := by
  obtain ⟨hq, he, hm, hmap, hc, hs⟩ := h
  rw [doPush_eng, pushEngine_blank i ho] at he hm
  refine ⟨?_, he, fun j => ?_, hmap.trans (doPush_map _ _), hc.trans (doPush_ctrl _ _),
    (doPush_statusKept rfl s).trans hs⟩
  · simp [hq, pushWriter_blank]
  · rw [hm, Tbl.get_set]
    by_cases hj : j ∈ now <;> by_cases hi : i = j <;> simp [hj, hi, eq_comm]

/-- The rebuild writes one record after another until none is left or the queue is full (R15, R119). -/
theorem runJobs_blanked (now later : List Slot) {s : State} (ho : s.eng.order = [])
    (hroom : now = [] ∨ s.voice.queue.length + now.length ≤ 32)
    (hfull : later = [] ∨ 32 ≤ s.voice.queue.length + now.length) :
    Blanked s (runJobs .rebuild ((now ++ later).map .blank) s) now later := by
  induction now generalizing s with
  | nil =>
    cases later with
    | nil => exact blanked_end
    | cons j ls =>
      have hc : canPush s (.blank j) = false := by
        rw [canPush_of_ungrouped rfl]
        simpa using hfull
      simpa [runJobs, hc] using blanked_wait j ls
  | cons i now ih =>
    simp only [List.length_cons, reduceCtorEq, false_or] at hroom hfull
    have hc : canPush s (.blank i) = true := by
      rw [canPush_of_ungrouped rfl]
      simp only [decide_eq_true_eq]
      omega
    have hlen : (doPush (.blank i) s).voice.queue.length = s.voice.queue.length + 1 := by simp [pushWriter_blank]
    have hrun : runJobs .rebuild ((i :: now ++ later).map .blank) s =
        runJobs .rebuild ((now ++ later).map .blank) (doPush (.blank i) s) := by
      simp [runJobs, hc]
    rw [hrun]
    refine blanked_cons ho (ih ?_ (.inr ?_) (hfull.imp_right fun h => ?_))
    · simp [pushEngine_blank i ho, ho]
    · omega
    · omega

end Sys2Proof.Machine
end

section
/-! PROOFS. The phases of INIT: its reads, the voice table, its snapshot and its end (R12 to R16). -/

namespace Sys2Proof.Machine

/-! ### INIT's reads are chosen -/

section Choice

variable {s : State} (hf : s.map.fetch = none) (hw : s.player.writes = [])
include hf hw

/-- INIT's own read is the first that the fetcher chooses (R82). -/
theorem chooseFetch_descriptor {k : Fin 4} {ws : List Word} {f : Bool}
    (hp : s.ctrl.phase = some (.descriptor k ws f)) :
    chooseFetch s = s.setMap { s.map with fetch := some (Fetch.begin (.descriptor k)) } :=
  chooseFetch_head (k := .descriptor k) hf (by simp [requested, controlRead, hp]) hw

theorem chooseFetch_sections {k : Fin 4} (hp : s.ctrl.phase = some (.sections k)) :
    chooseFetch s = s.setMap { s.map with fetch := some (Fetch.begin (.sections k)) } :=
  chooseFetch_head (k := .sections k) hf (by simp [requested, controlRead, hp]) hw

end Choice

/-! ### The snapshot phase -/

@[simp] theorem enterSnapshotPhase_ctrl (s : State) :
    (enterSnapshotPhase s).ctrl = { s.ctrl with phase := some .snapshot } := by
  simp [enterSnapshotPhase]

theorem enterSnapshotPhase_statusKept (s : State) : StatusKept s (enterSnapshotPhase s) := by
  simp [enterSnapshotPhase, StatusKept]

/-- The result of the REINIT that caused the INIT (R16). -/
theorem enterSnapshotPhase_result (s : State) :
    (enterSnapshotPhase s).stat.result = if s.stat.awaited = .reinit then .done else s.stat.result := by
  simp [enterSnapshotPhase, finish_stat_result]

/-- The image shows the state that INIT is about to enter (R16). -/
theorem enterSnapshotPhase_snapshot (s : State) : ∃ v, (enterSnapshotPhase s).stat.snapshot =
    some { image := v, next := 0 } ∧ v.result = (enterSnapshotPhase s).stat.result ∧ v.op = initTarget s.ctrl := by
  refine ⟨_, beginSnapshot_stat_snapshot _, ?_, ?_⟩
  · simp [statusView, enterSnapshotPhase]
  · simp [statusView, opField, initTarget]

/-- Settles O6: each phase asks for its condition and goes on. -/
theorem initPhasesEndWhenTheirWorkIsDone : Obligations.InitPhasesEndWhenTheirWorkIsDone := by
  refine ⟨fun s hp hf => ⟨fun hw => ?_, fun hw => ?_⟩, fun s hp => ⟨fun hi hq => ?_, fun h => ?_⟩⟩
  · have hch := chooseFetch_descriptor (s := s.setCtrl { s.ctrl with phase := some (.descriptor 0 [] false) }) hf hw rfl
    show execDrainPhaseEnd s = _
    rw [execDrainPhaseEnd, if_pos ⟨hp, hw⟩, hch]
    rfl
  · show execDrainPhaseEnd s = _
    rw [execDrainPhaseEnd, if_neg fun h => hw h.2]
  · obtain ⟨v, hv, hres, hop⟩ := enterSnapshotPhase_snapshot s
    exact ⟨enterSnapshotPhase s, if_pos ⟨hp, hi, hq⟩, enterSnapshotPhase_ctrl s, enterSnapshotPhase_result s,
      ⟨v, hv, hres, hop⟩, enterSnapshotPhase_eng s, enterSnapshotPhase_voice s, enterSnapshotPhase_map s,
      enterSnapshotPhase_statusKept s⟩
  · refine if_neg fun hn => ?_
    obtain ⟨-, hi, hq⟩ := hn
    exact h.elim (absurd hi) (absurd hq)

/-! ### Answers to INIT's reads -/

/-- What is left of a landed access when its effect begins: the M-port free, and its error logged. -/
def landed (s : State) (a : Access) (e : Bool) : State := logError a e (freePort s)

section Landed

variable (s : State) (a : Access) (e : Bool)

@[simp] theorem landed_ctrl : (landed s a e).ctrl = s.ctrl := by simp [landed]
@[simp] theorem landed_map : (landed s a e).map = s.map := by simp [landed]
@[simp] theorem landed_eng : (landed s a e).eng = s.eng := by simp [landed]
@[simp] theorem landed_voice : (landed s a e).voice = s.voice := by simp [landed]
@[simp] theorem landed_tone : (landed s a e).tone = s.tone := by simp [landed]
@[simp] theorem landed_scan : (landed s a e).scan = s.scan := by simp [landed]
@[simp] theorem landed_bellows : (landed s a e).bellows = s.bellows := by simp [landed]
@[simp] theorem landed_player : (landed s a e).player = s.player := by simp [landed]
@[simp] theorem landed_arb : (landed s a e).arb = { s.arb with access := none } := by simp [landed, freePort]

end Landed

theorem landed_logged (s : State) {a : Access} {k : FetchKind} (ha : a.owner = .fetch k) :
    FaultLogged .memoryError .bridge a.req.start s (landed s a true) := by
  have hport : ownPort a.owner = .bridge := by rw [ha]; rfl
  unfold landed
  rw [logError_true, hport]
  exact logFault_logged _ _ _ (freePort s)

theorem exec_descriptorReadLands {s : State} {k : Fin 4} {a : Access} (x : RamAnswer)
    (h : Carries s (.fetch (.descriptor k)) a) :
    exec (.descriptorReadLands x) s = .next (descriptorLanded x (landed s a x.failed)) :=
  congrArg _ (landing_of_carries h rfl _ _)

theorem exec_sectionsPhaseReadLands {s : State} {k : Fin 4} {a : Access} (x : RamAnswer)
    (h : Carries s (.fetch (.sections k)) a) :
    exec (.sectionsPhaseReadLands x) s = .next (sectionsLanded x (landed s a x.failed)) :=
  congrArg _ (landing_of_carries h rfl _ _)

/-- The words in hand after a descriptor read. -/
def wordsAfter (ws : List Word) : RamAnswer → List Word
  | .done w => ws ++ w.cells
  | .error => ws

theorem descriptorLanded_next {s : State} {x : RamAnswer} {k : Fin 4} {ws : List Word} {f : Bool}
    (hp : s.ctrl.phase = some (.descriptor k ws f)) (hk : k ≠ 3) : descriptorLanded x s =
      chooseFetch ((endFetch s).setCtrl { s.ctrl with
        phase := some (.descriptor (k + 1) (wordsAfter ws x) (f || x.failed)) }) := by
  unfold descriptorLanded
  rw [hp]
  cases x <;> simp [hk, wordsAfter]

theorem descriptorLanded_last {s : State} {x : RamAnswer} {ws : List Word} {f : Bool}
    (hp : s.ctrl.phase = some (.descriptor 3 ws f)) : descriptorLanded x s =
      chooseFetch (descriptorRead (wordsAfter ws x) (f || x.failed) (endFetch s)) := by
  unfold descriptorLanded
  rw [hp]
  cases x <;> simp [wordsAfter]

theorem descriptorRead_failed (ws : List Word) (s : State) : descriptorRead ws true s =
    enterSnapshotPhase (logFault .descBad .bridge (controlAddr s.ctrl 0)
      (s.setCtrl { s.ctrl with valid := false })) := by
  simp [descriptorRead]

theorem descriptorRead_checked {ws : List Word} {s : State}
    (h : (Desc.ofWords ws).check (controlBase s.ctrl.dsel) = none) : descriptorRead ws false s =
      s.setCtrl { s.ctrl with desc := some (Desc.ofWords ws), valid := true, phase := some (.sections 0) } := by
  simp [descriptorRead, h]

theorem descriptorRead_bad {ws : List Word} {s : State} {n : Nat}
    (h : (Desc.ofWords ws).check (controlBase s.ctrl.dsel) = some n) : descriptorRead ws false s =
      enterSnapshotPhase (logFault .descBad .bridge (controlAddr s.ctrl (4 * n))
        (s.setCtrl { s.ctrl with desc := some (Desc.ofWords ws), valid := false })) := by
  simp [descriptorRead, h]

/-- The choice of a fetch logs, counts and raises nothing. -/
theorem statusKept_chooseFetch (s : State) : StatusKept s (chooseFetch s) := .of_stat (chooseFetch_stat s)

/-- One of the first three reads of the descriptor: the words are kept and the next read is chosen. -/
theorem exec_descriptorReadLands_next {s : State} {x : RamAnswer} {a : Access} {k : Fin 4} {ws : List Word} {f : Bool}
    (h : Carries s (.fetch (.descriptor k)) a) (hp : s.ctrl.phase = some (.descriptor k ws f)) (hk : k ≠ 3)
    (hw : s.player.writes = []) : exec (.descriptorReadLands x) s = .next (((landed s a x.failed).setCtrl { s.ctrl with
      phase := some (.descriptor (k + 1) (wordsAfter ws x) (f || x.failed)) }).setMap { s.map with
        fetch := some (Fetch.begin (.descriptor (k + 1))) }) := by
  rw [exec_descriptorReadLands x h, descriptorLanded_next (by simpa using hp) hk,
    chooseFetch_descriptor (by simp [endFetch]) (by simpa using hw) rfl]
  simp only [endFetch, landed_map, landed_ctrl, State.setCtrl_map, State.setMap_map]
  rfl

/-- The fourth read, when a read has failed. -/
theorem exec_descriptorReadLands_failed {s : State} {x : RamAnswer} {a : Access} {ws : List Word} {f : Bool}
    (h : Carries s (.fetch (.descriptor 3)) a) (hp : s.ctrl.phase = some (.descriptor 3 ws f))
    (hf : (f || x.failed) = true) : exec (.descriptorReadLands x) s = .next (chooseFetch (enterSnapshotPhase
      (logFault .descBad .bridge (controlAddr s.ctrl 0)
        ((endFetch (landed s a x.failed)).setCtrl { s.ctrl with valid := false })))) := by
  rw [exec_descriptorReadLands x h, descriptorLanded_last (by simpa using hp), hf, descriptorRead_failed]
  simp

/-- Settles O7: the first three reads go on to the next; the fourth, after a failed one, to the snapshot. -/
theorem descriptorReadsFollowInOrder : Obligations.DescriptorReadsFollowInOrder := by
  refine ⟨fun s x a k ws f h hp hk hw => ?_, fun s x a ws f h hp hf => ?_⟩
  · refine ⟨_, exec_descriptorReadLands_next h hp hk hw, ?_, rfl, ?_, fun hx => ?_, fun hx => ?_, ?_⟩
    · cases x <;> rfl
    · simp
    · subst hx
      exact (landed_logged s h.2.1).trans_kept (.of_stat (by simp [RamAnswer.failed]))
    · cases x with
      | done w => rfl
      | error => exact absurd rfl hx
    · simp
  · refine ⟨_, exec_descriptorReadLands_failed h hp hf, ?_, ?_, ?_, ?_, ?_, fun hx => ?_, fun hx => ?_⟩
    · simp
    · simp
    · simp
    · simp [enterSnapshotPhase]
    · cases x <;> simp [enterSnapshotPhase, landed, RamAnswer.failed, BitVec.or_assoc]
    · cases x with
      | error => exact absurd rfl hx
      | done w =>
        exact ((logFault_logged .descBad .bridge (controlAddr s.ctrl 0)
          ((endFetch (landed s a false)).setCtrl { s.ctrl with valid := false })).trans_kept
            (enterSnapshotPhase_statusKept _)).trans_kept (statusKept_chooseFetch _)
    · subst hx
      simp [enterSnapshotPhase, landed, RamAnswer.failed, h.2.1, ownPort]

/-- The fourth read, with every word in hand and no test failing. -/
theorem exec_descriptorReadLands_checked {s : State} {w : Tbl 8 Word} {a : Access} {ws : List Word}
    (h : Carries s (.fetch (.descriptor 3)) a) (hp : s.ctrl.phase = some (.descriptor 3 ws false))
    (hw : s.player.writes = []) (hc : (Desc.ofWords (ws ++ w.cells)).check (controlBase s.ctrl.dsel) = none) :
    exec (.descriptorReadLands (.done w)) s = .next (((freePort s).setCtrl { s.ctrl with
      desc := some (Desc.ofWords (ws ++ w.cells)), valid := true, phase := some (.sections 0) }).setMap { s.map with
        fetch := some (Fetch.begin (.sections 0)) }) := by
  rw [exec_descriptorReadLands _ h, descriptorLanded_last (by simpa using hp),
    show (false || (RamAnswer.done w).failed) = false from rfl,
    descriptorRead_checked (by simpa [wordsAfter] using hc),
    chooseFetch_sections (by simp [endFetch]) (by simpa using hw) rfl]
  simp only [endFetch, landed_map, landed_ctrl, State.setMap_ctrl, State.setCtrl_map, State.setMap_map]
  rfl

/-- The fourth read, with every word in hand and a test failing. -/
theorem exec_descriptorReadLands_bad {s : State} {w : Tbl 8 Word} {a : Access} {ws : List Word} {n : Nat}
    (h : Carries s (.fetch (.descriptor 3)) a) (hp : s.ctrl.phase = some (.descriptor 3 ws false))
    (hc : (Desc.ofWords (ws ++ w.cells)).check (controlBase s.ctrl.dsel) = some n) :
    exec (.descriptorReadLands (.done w)) s = .next (chooseFetch (enterSnapshotPhase
      (logFault .descBad .bridge (controlAddr s.ctrl (4 * n)) ((endFetch (freePort s)).setCtrl { s.ctrl with
        desc := some (Desc.ofWords (ws ++ w.cells)), valid := false })))) := by
  rw [exec_descriptorReadLands _ h, descriptorLanded_last (by simpa using hp),
    show (false || (RamAnswer.done w).failed) = false from rfl, descriptorRead_bad (by simpa [wordsAfter] using hc)]
  simp [landed, RamAnswer.failed, wordsAfter]

/-- Settles O8, by the outcome of the check. -/
theorem descriptorIsCheckedAfterTheFourthRead : Obligations.DescriptorIsCheckedAfterTheFourthRead := by
  intro s w a ws h hp hw
  refine ⟨fun hc => ?_, fun n hc => ?_⟩
  · exact ⟨_, exec_descriptorReadLands_checked h hp hw hc, rfl, rfl, rfl, rfl, rfl, rfl⟩
  · refine ⟨_, exec_descriptorReadLands_bad h hp hc, ?_, ?_, ?_, ?_, ?_, ?_, ?_, ?_⟩
    · simp
    · simp
    · simp
    · simp [enterSnapshotPhase]
    · exact ((logFault_logged .descBad .bridge (controlAddr s.ctrl (4 * n))
        ((endFetch (freePort s)).setCtrl { s.ctrl with
          desc := some (Desc.ofWords (ws ++ w.cells)), valid := false })).trans_kept
            (enterSnapshotPhase_statusKept _)).trans_kept (statusKept_chooseFetch _)
    all_goals simp [freePort]

/-! ### The sections phase and the voice table (R14, R15) -/

/-- The record that an answer of the sections phase gives for the first or the second half of its words. -/
def sectFrom (i : SectNo) : RamAnswer → SectRecord
  | .done w =>
    let o := 4 * (i.val % 2)
    sectOf (w.cells.getD o 0) (w.cells.getD (o + 1) 0) (w.cells.getD (o + 2) 0) (w.cells.getD (o + 3) 0)
  | .error => SectRecord.zero

theorem getD_cells {α : Type} {n : Nat} (t : Tbl n α) (i : Fin n) (x : α) : t.cells.getD i.val x = t.get i := by
  have : i.val < t.cells.length := by rw [t.size]; exact i.isLt
  simp [Tbl.get, this]

theorem installPair_get (k : Fin 4) (x : RamAnswer) (t : Tbl 8 SectRecord) (i : SectNo) :
    (installPair k x t).get i = if i.val / 2 = k.val then sectFrom i x else t.get i := by
  have h₀ : (Fin.ofNat 8 (2 * k.val) : SectNo) = i ↔ i.val / 2 = k.val ∧ i.val % 2 = 0 := by
    simp only [Fin.ext_iff, Fin.val_ofNat]
    omega
  have h₁ : (Fin.ofNat 8 (2 * k.val + 1) : SectNo) = i ↔ i.val / 2 = k.val ∧ i.val % 2 = 1 := by
    simp only [Fin.ext_iff, Fin.val_ofNat]
    omega
  have hw (w : Tbl 8 Word) (j : Fin 8) : w.get j = w.cells.getD j.val 0 := (getD_cells w j 0).symm
  by_cases hi : i.val / 2 = k.val
  · have hmod : i.val % 2 = 0 ∨ i.val % 2 = 1 := by omega
    cases x <;> rcases hmod with hm | hm <;> simp only [installPair, Tbl.get_set, h₀, h₁, hi, hm, sectFrom, hw] <;>
      simp
  · cases x <;> simp only [installPair, Tbl.get_set, h₀, h₁, hi] <;> simp

theorem sectionsLanded_next {s : State} {x : RamAnswer} {k : Fin 4} (hp : s.ctrl.phase = some (.sections k))
    (hk : k ≠ 3) : sectionsLanded x s = chooseFetch (((endFetch s).setMap { (endFetch s).map with
      sects := installPair k x s.map.sects }).setCtrl { s.ctrl with phase := some (.sections (k + 1)) }) := by
  unfold sectionsLanded
  rw [hp]
  simp [hk, endFetch]

theorem sectionsLanded_last {s : State} {x : RamAnswer} (hp : s.ctrl.phase = some (.sections 3)) :
    sectionsLanded x s = beginVoiceTable ((endFetch s).setMap { (endFetch s).map with
      sects := installPair 3 x s.map.sects }) := by
  unfold sectionsLanded
  rw [hp]
  simp [endFetch]

/-- The rebuild writes as many blank records as the queue has room for (R15, R119). -/
theorem beginVoiceTable_blanked (s : State) : ∃ u : State, u.eng = Engine.reset ∧ u.voice = s.voice ∧ u.map = s.map ∧
    u.ctrl = { s.ctrl with phase := some .voiceTable } ∧ StatusKept s u ∧
    Blanked u (beginVoiceTable s) ((List.finRange 64).take (32 - s.voice.queue.length))
      ((List.finRange 64).drop (32 - s.voice.queue.length)) := by
  let s₁ := s.setCtrl { s.ctrl with phase := some .voiceTable }
  refine ⟨report s₁ (s₁.setEng Engine.reset), by simp, by simp [s₁], by simp [s₁], by simp [s₁],
    by simp [StatusKept, s₁], ?_⟩
  have hrun := runJobs_blanked ((List.finRange 64).take (32 - s.voice.queue.length))
    ((List.finRange 64).drop (32 - s.voice.queue.length)) (s := report s₁ (s₁.setEng Engine.reset))
    (by simp [Engine.reset]) ?_ (.inr ?_)
  · rwa [List.take_append_drop] at hrun
  · by_cases hq : s.voice.queue.length ≤ 32
    · right
      simp [s₁]
      omega
    · left
      simp
      omega
  · simp [s₁]
    omega

/-- Settles O9: the records of every read, then the next read, or after the fourth the rebuild. -/
theorem sectionsPhaseInstallsTwoRecordsARead : Obligations.SectionsPhaseInstallsTwoRecordsARead := by
  intro s x a k h hp hw
  rw [exec_sectionsPhaseReadLands x h]
  by_cases hk : k = 3
  · subst hk
    rw [sectionsLanded_last (by simpa using hp)]
    obtain ⟨u, heng, hvoice, hmap, hctrl, hstat, hb⟩ := beginVoiceTable_blanked
      ((endFetch (landed s a x.failed)).setMap { (endFetch (landed s a x.failed)).map with
        sects := installPair 3 x (landed s a x.failed).map.sects })
    obtain ⟨hq, he, -, hm, hc, hs⟩ := hb
    refine ⟨_, rfl, fun i => ?_, fun hx => ?_, fun hne => absurd rfl hne,
      fun _ => ⟨?_, ?_, ?_, ?_, ?_, ?_, fun h0 => ?_⟩⟩
    · rw [hm, hmap]
      refine (installPair_get 3 x _ i).trans ?_
      cases x <;> simp [sectFrom]
    · subst hx
      refine (((landed_logged s h.2.1).trans_kept ?_).trans_kept hstat).trans_kept hs
      exact .of_stat (by simp [RamAnswer.failed])
    · rw [hc, hctrl]
      simp
    · rw [hm, hmap]
      simp [endFetch]
    · rw [he, heng]
      rfl
    · rw [he, heng]
      rfl
    · rw [he, heng]
      rfl
    · intro j
      rw [he, heng]
      simp [Engine.reset]
    · simp only [hq, hvoice, State.setMap_voice, endFetch_voice, landed_voice, h0]
      rfl
  · rw [sectionsLanded_next (by simpa using hp) hk, chooseFetch_sections (by simp [endFetch]) (by simpa using hw) rfl]
    refine ⟨_, rfl, fun i => ?_, fun hx => ?_, fun _ => ⟨?_, ?_, ?_, ?_⟩, fun h3 => absurd h3 hk⟩
    · simp only [State.setMap_map, State.setCtrl_map]
      refine (installPair_get k x _ i).trans ?_
      cases x <;> simp [sectFrom]
    · subst hx
      exact (landed_logged s h.2.1).trans_kept (.of_stat (by simp [RamAnswer.failed]))
    · simp
    · simp [Fetch.begin]
    · simp
    · simp

/-! ### The end of INIT (R16) -/

/-- INIT has ended, but for the entry to the state that follows it. -/
def initDone (s : State) : State :=
  let s₁ := report s (s.setCtrl { s.ctrl with op := initTarget s.ctrl, phase := none })
  let s₂ := s₁.setScan (s₁.scan.align s.ctrl.valid s.ctrl.copy)
  if s.ctrl.valid then s₂ else s₂.setMap { s₂.map with sects := Tbl.fill 8 SectRecord.zero }

theorem endInit_eq (s : State) : endInit s =
    if initTarget s.ctrl = .performing then enterPerforming (initDone s) else enterTransparent (initDone s) := rfl

section InitDone

variable (s : State)

@[simp] theorem initDone_ctrl : (initDone s).ctrl = { s.ctrl with op := initTarget s.ctrl, phase := none } := by
  unfold initDone
  dsimp only []
  split <;> simp

@[simp] theorem initDone_scan : (initDone s).scan = s.scan.align s.ctrl.valid s.ctrl.copy := by
  unfold initDone
  dsimp only []
  split <;> simp

@[simp] theorem initDone_bellows : (initDone s).bellows = s.bellows := by
  unfold initDone
  dsimp only []
  split <;> simp

@[simp] theorem initDone_counters : (initDone s).stat.counters = s.stat.counters := by
  unfold initDone
  dsimp only []
  split <;> simp

@[simp] theorem initDone_faultLog : (initDone s).stat.faultLog = s.stat.faultLog := by
  unfold initDone
  dsimp only []
  split <;> simp

end InitDone

theorem initDone_sects {s : State} (hv : s.ctrl.valid = false) (k : SectNo) :
    (initDone s).map.sects.get k = SectRecord.zero := by
  simp [initDone, hv]

theorem initTarget_eq_performing {c : Control} :
    initTarget c = .performing ↔ c.valid = true ∧ c.boot = true := by
  unfold initTarget
  split <;> simp_all

/-- A button is down in the image after INIT only below USED_POSITIONS of a valid copy (R55). -/
theorem align_down (valid : Bool) (d : Desc) (sc : Scan) (p : Pos) :
    (sc.align valid d).down.get p = if valid = true ∧ p.val < d.used.toNat then sc.down.get p else .up := by
  cases valid <;> simp [Scan.align]

theorem hushCond_eq (c : Cond) : hushCond c = if c = .up then .up else .hushed := by cases c <;> rfl

/-- IRQ in a working state (R184). -/
theorem irq_of_working {s : State} (hw : s.ctrl.op.working = true) :
    irq s = decide (s.stat.flags &&& irqMask s.ctrl ≠ 0) := by
  unfold irq
  cases ho : s.ctrl.op <;> simp_all [OpState.working]

theorem endInit_counters (s : State) : (endInit s).stat.counters = s.stat.counters := by
  rw [endInit_eq]
  split <;> simp

theorem endInit_faultLog (s : State) : (endInit s).stat.faultLog = s.stat.faultLog := by
  rw [endInit_eq]
  split <;> simp

/-- Settles O10, by the state that INIT ends in. -/
theorem initEndsByTheMarkAndBoot : Obligations.InitEndsByTheMarkAndBoot := by
  intro s _ hp hsnap
  refine ⟨endInit s, if_pos ⟨hp, hsnap⟩, ?_⟩
  by_cases hv : s.ctrl.valid = true ∧ s.ctrl.boot = true
  · have he : endInit s = enterPerforming (initDone s) := by rw [endInit_eq, if_pos (initTarget_eq_performing.mpr hv)]
    refine ⟨?_, fun _ => ⟨?_, fun p => ?_, ?_, ?_⟩, fun h => absurd hv h, fun h => ?_, ?_, ?_, ?_, endInit_guard s,
      endInit_tone s, endInit_voice s, endInit_player s, endInit_counters s, endInit_faultLog s⟩
    all_goals rw [he]
    · simp [enterPerforming_ctrl]
    · simp [enterPerforming_ctrl]
    · simp only [enterPerforming_scan, initDone_scan, Scan.enterPerforming, Tbl.get_map, align_down, hushCond_eq]
      by_cases hu : p.val < s.ctrl.copy.used.toNat <;> simp [hu, hv.1]
    · simp [Scan.enterPerforming]
    · simp [Bellows.enterPerforming]
    · simp [hv.1] at h
    · simp [enterPerforming_ctrl, hushValue, hushPinActive, hushEnable, OpState.working, Control.copy]
    · simp [enterPerforming_ctrl, sustainValue, sustEnable, Control.copy]
    · rw [irq_of_working (by simp [enterPerforming_ctrl, OpState.working])]
      simp [enterPerforming_ctrl, irqMask, Control.copy]
  · have he : endInit s = enterTransparent (initDone s) := by
      rw [endInit_eq, if_neg fun h => hv (initTarget_eq_performing.mp h)]
    refine ⟨?_, fun h => absurd h hv, fun _ => ⟨?_, ?_, fun h p => ?_⟩, fun h => ⟨fun p => ?_, fun k => ?_⟩, ?_, ?_, ?_,
      endInit_guard s, endInit_tone s, endInit_voice s, endInit_player s, endInit_counters s, endInit_faultLog s⟩
    all_goals rw [he]
    · simp
    · simp
    · simp
    · simp [align_down, h]
    · simp [align_down, h]
    · simpa using initDone_sects h k
    · simp [hushValue, hushPinActive, hushEnable, OpState.working, Control.copy]
    · simp [sustainValue, sustEnable, Control.copy]
    · rw [irq_of_working (by simp [OpState.working])]
      simp only [irqMask, enterTransparent_ctrl_valid, Control.copy, enterTransparent_ctrl_desc, initDone_ctrl]
      rfl

end Sys2Proof.Machine
end

section
/-! PROOFS. Which words are refused, area by area and by the guard (R26, R27, R160). -/

namespace Sys2Proof.Machine

section Refusals

variable {c : Control} {a : Addr}

/-- What no block of the bridge watches is refused to no one. -/
theorem refusals_open (h : areaOf c a ∈ [.spareLow, .spareHigh, .ram, .other]) :
    refusesPWrite c a = none ∧ refusesTWrite c a = none ∧ refusesRead c a = none := by
  simp only [List.mem_cons, List.not_mem_nil, or_false] at h
  rcases h with h | h | h | h <;> simp [refusesPWrite, refusesTWrite, refusesRead, h]

/-- What the bridge watches is refused to T writes. -/
theorem refusals_watched (h : areaOf c a ∈ [.descriptor, .command, .scan, .programs, .sections]) :
    refusesPWrite c a = none ∧ refusesTWrite c a = some .controlWrite ∧ refusesRead c a = none := by
  simp only [List.mem_cons, List.not_mem_nil, or_false] at h
  rcases h with h | h | h | h | h <;> simp [refusesPWrite, refusesTWrite, refusesRead, h]

theorem refusals_status (h : areaOf c a = .status) :
    refusesPWrite c a = some .controlWrite ∧ refusesTWrite c a = some .controlWrite ∧ refusesRead c a = none := by
  simp [refusesPWrite, refusesTWrite, refusesRead, h]

theorem refusals_voices (h : areaOf c a = .voices) :
    refusesPWrite c a = some .voiceWrite ∧ refusesTWrite c a = some .voiceWrite ∧ refusesRead c a = none := by
  simp [refusesPWrite, refusesTWrite, refusesRead, h]

theorem refusals_beyond (h : areaOf c a = .beyond) :
    refusesPWrite c a = some .beyondTop ∧ refusesTWrite c a = some .beyondTop ∧ refusesRead c a = some .beyondTop := by
  simp [refusesPWrite, refusesTWrite, refusesRead, h]

theorem refusals_map {b : Bank} (h : areaOf c a = mapArea b) :
    refusesPWrite c a = (if guardsWord c b a = true then some .guard else none) ∧
      refusesTWrite c a = some .controlWrite ∧ refusesRead c a = none := by
  cases b <;> simp [refusesPWrite, refusesTWrite, refusesRead, h, mapArea]

theorem within_eq_true {base size n : Nat} : within base size n = true ↔ base ≤ n ∧ n < base + size := by simp [within]

/-- The rest of RAM, which no region covers (R24). -/
theorem areaOf_ram (hv : c.valid = true) (ht : a.toNat < c.copy.top)
    (hc : a.toNat < controlBase c.dsel ∨ controlBase c.dsel + 512 ≤ a.toNat)
    (hr : ∀ r ∈ [(c.copy.scan, 512), (c.copy.mapA, 1024), (c.copy.mapB, 1024), (c.copy.programs, 32768),
      (c.copy.sections, 128), (c.copy.voices, 1024)], a.toNat < r.1.toNat ∨ r.1.toNat + r.2 ≤ a.toNat) :
    areaOf c a = .ram := by
  have hout {base size : Nat} (h : a.toNat < base ∨ base + size ≤ a.toNat) : within base size a.toNat = false := by
    simp only [within, decide_eq_false_iff_not]
    omega
  simp only [List.forall_mem_cons] at hr
  obtain ⟨h₁, h₂, h₃, h₄, h₅, h₆, -⟩ := hr
  simp [areaOf, Config.controlSize, hout hc, hv, hout h₁, hout h₂, hout h₃, hout h₄, hout h₅, hout h₆, ht]

/-- A bank's map region lies whole in the address space, at addresses of its own area. -/
theorem map_of_check (hv : c.valid = true) (hd : c.copy.check (controlBase c.dsel) = none) (b : Bank) :
    (c.copy.mapBase b).toNat + 1024 ≤ 2 ^ 24 ∧
      ∀ a : Addr, within (c.copy.mapBase b).toNat 1024 a.toNat = true → areaOf c a = mapArea b := by
  have hl := laid_of_check hd
  have htop : c.copy.top ≤ 2 ^ 24 := by
    have := hl.topMax
    unfold Desc.top
    omega
  cases b with
  | bankA =>
    have := hl.top ⟨c.copy.mapA.toNat, 1024, 3⟩ (by simp [Desc.regions])
    exact ⟨this.trans htop, fun _ => areaOf_mapA hv hl⟩
  | bankB =>
    have := hl.top ⟨c.copy.mapB.toNat, 1024, 4⟩ (by simp [Desc.regions])
    exact ⟨this.trans htop, fun _ => areaOf_mapB hv hl⟩

end Refusals

/-- The address of a position's entry. -/
theorem toNat_entry {base : Addr} (hb : base.toNat + 1024 ≤ 2 ^ 24) (p : Pos) :
    (base + BitVec.ofNat 24 (4 * p.val)).toNat = base.toNat + 4 * p.val := by
  have := p.isLt
  simp only [BitVec.toNat_add, BitVec.toNat_ofNat]
  omega

theorem entryPos_entry {d : Desc} {b : Bank} (hb : (d.mapBase b).toNat + 1024 ≤ 2 ^ 24) (p : Pos) :
    entryPos d b (d.mapBase b + BitVec.ofNat 24 (4 * p.val)) = p := by
  have := p.isLt
  simp only [entryPos, offsetFrom, toNat_entry hb, Fin.ext_iff, Fin.val_ofNat]
  omega

theorem guarded_iff (g : Guard) (p : Pos) : guarded g p = true ↔
    (g.mode = .inside ∧ g.first ≤ p ∧ p ≤ g.last) ∨ (g.mode = .outside ∧ (p < g.first ∨ g.last < p)) := by
  unfold guarded
  cases g.mode <;> simp

/-- Settles O28: the area of the word decides, and in the active bank the guard. -/
theorem refusalsFollowTheAreasAndTheGuard : Obligations.RefusalsFollowTheAreasAndTheGuard := by
  refine ⟨fun c a => ⟨fun h₁ h₂ => refusals_status ?_, fun h₁ h₂ => refusals_watched ?_, fun h => refusals_open ?_,
    fun h => ⟨fun hv => refusals_open ?_, fun hv ht => refusals_beyond (areaOf_beyond h hv ht)⟩, fun hv hd =>
      ⟨fun r hr h₁ h₂ => refusals_watched ?_, fun h₁ h₂ => refusals_voices ?_,
        fun ht hc hr => refusals_open ?_⟩⟩, fun c b p hv hd => ?_⟩
  · rw [areaOf_control (by omega) (by omega)]
    unfold controlPart
    rw [if_neg (by omega), if_neg (by omega), if_neg (by omega), if_pos (by omega)]
  · rw [areaOf_control h₁ (by omega)]
    unfold controlPart
    split
    · simp
    · rw [if_pos (by omega)]
      simp
  · rw [areaOf_control (by omega) (by omega)]
    unfold controlPart
    rw [if_neg (by omega), if_neg (by omega)]
    split
    · simp
    · rw [if_neg (by omega)]
      simp
  · rw [areaOf_other h hv]
    simp
  · have hl := laid_of_check hd
    simp only [List.mem_cons, List.not_mem_nil, or_false] at hr
    rcases hr with rfl | rfl | rfl
    · simp [areaOf_scan hv hl (within_eq_true.mpr ⟨h₁, h₂⟩)]
    · simp [areaOf_programs hv hl (within_eq_true.mpr ⟨h₁, h₂⟩)]
    · simp [areaOf_sections hv hl (within_eq_true.mpr ⟨h₁, h₂⟩)]
  · exact areaOf_voices hv (laid_of_check hd) (within_eq_true.mpr ⟨h₁, h₂⟩)
  · simp [areaOf_ram hv ht hc hr]
  · obtain ⟨hb, hin⟩ := map_of_check hv hd b
    have hp := p.isLt
    obtain ⟨hP, hT, hR⟩ := refusals_map (hin (c.copy.mapBase b + BitVec.ofNat 24 (4 * p.val))
      (within_eq_true.mpr (by rw [toNat_entry hb]; omega)))
    refine ⟨hP.trans (if_congr ?_ rfl rfl), hT, hR⟩
    rw [guardsWord, Bool.and_eq_true, entryPos_entry hb, guarded_iff, decide_eq_true_eq]

end Sys2Proof.Machine
end

section
/-! PROOFS. The HUSH and SUST pins (R156 to R159). -/

namespace Sys2Proof.Machine

/-! ### HUSH -/

/-- Outside HELD the pin's level becomes the reading. -/
def hushRead (high : Bool) (s : State) : State :=
  workOut ((s.setPins { s.pins with hush := high }).setCtrl { s.ctrl with hushReading := high })

theorem execHushPinChange_moving {s : State} (high : Bool) (ho : s.ctrl.op ≠ .held) :
    exec (.hushPinChange high) s = .next
      (if high && !s.ctrl.hushReading && hushEnable s.ctrl && s.ctrl.op.working then announceHush (hushRead high s)
      else hushRead high s) := by
  simp only [exec, execHushPinChange, if_neg ho]
  rfl

/-- Effective sustain does not hang on the HUSH pin (R156). -/
theorem hushRead_ctrl {s : State} (h : ControlLaw s) (high : Bool) : (hushRead high s).ctrl = { s.ctrl with
    hushReading := high
    hushEffective := s.ctrl.op.working && (s.ctrl.valid && s.ctrl.copy.hushEnable && high) } := by
  have hs : sustainValue { s.ctrl with hushReading := high } = s.ctrl.sustain := h.workedOut.1.symm
  simp only [hushRead, workOut_ctrl, State.setCtrl_ctrl, hs]
  rfl

/-- What a hush does when the pin's reading has just been taken. -/
theorem hushed_hushRead (high : Bool) (s : State) :
    Hushed { s with pins := { s.pins with hush := high } } (announceHush (hushRead high s)) := by
  simpa [Hushed, hushRead] using announceHush_hushed (hushRead high s)

theorem announceHush_statusKept (s : State) : StatusKept s (announceHush s) := by simp [StatusKept]

theorem hushRead_statusKept (high : Bool) (s : State) : StatusKept s (hushRead high s) := by
  simp [StatusKept, hushRead]

/-! ### SUST -/

/-- Outside HELD the pin's level becomes the reading. -/
def sustRead (high : Bool) (s : State) : State :=
  workOutSustain ((s.setPins { s.pins with sust := high }).setCtrl { s.ctrl with sustReading := high })

theorem execSustPinChange_moving {s : State} (high : Bool) (ho : s.ctrl.op ≠ .held) :
    exec (.sustPinChange high) s = .next (sustRead high s) := by
  simp only [exec, execSustPinChange, if_neg ho]
  rfl

/-- The table of R156 in one line. -/
theorem sustainValue_eq (c : Control) : sustainValue c = (decide (c.op = .transparent ∨ c.op = .performing) &&
    ((c.valid && c.copy.sustEnable && c.sustReading) || c.sustainFlag)) := by
  unfold sustainValue sustEnable
  cases c.op <;> simp

/-- HUSH effective does not hang on the SUST pin (R158). -/
theorem sustRead_ctrl {s : State} (h : ControlLaw s) (high : Bool) : (sustRead high s).ctrl = { s.ctrl with
    sustReading := high
    sustain := decide (s.ctrl.op = .transparent ∨ s.ctrl.op = .performing) &&
      ((s.ctrl.valid && s.ctrl.copy.sustEnable && high) || s.ctrl.sustainFlag) } := by
  have hh : hushValue { s.ctrl with sustReading := high } = s.ctrl.hushEffective := h.workedOut.2.symm
  simp only [sustRead, workOutSustain_ctrl, workOut_ctrl, State.setCtrl_ctrl, hh, sustainValue_eq]
  rfl

/-- The sustain-off walk starts when effective sustain goes from on to off in PERFORMING (R143). -/
theorem sustRead_eng (high : Bool) (s : State) : (sustRead high s).eng = { s.eng with
    sustainWalk := s.eng.sustainWalk ||
      (s.ctrl.sustain && !(sustRead high s).ctrl.sustain && decide (s.ctrl.op = .performing)) } := by
  simp only [sustRead, workOutSustain_eng, workOutSustain_ctrl, workOut_ctrl]
  rfl

/-- Settles O23: in HELD the pin alone moves; otherwise its reading does. -/
theorem pinsMoveHushAndEffectiveSustain : Obligations.PinsMoveHushAndEffectiveSustain := by
  refine ⟨fun s high hl => ⟨fun ho => ?_, fun ho => ⟨_, execHushPinChange_moving high ho, ?_⟩⟩,
    fun s high hl => ⟨fun ho => ?_, fun ho => ⟨_, execSustPinChange_moving high ho, ?_, sustRead_ctrl hl high,
      sustRead_eng high s, ?_⟩⟩⟩
  · simp only [exec, execHushPinChange, if_pos ho]
    rfl
  · by_cases ha : s.ctrl.op.working = true ∧ s.ctrl.valid = true ∧ s.ctrl.copy.hushEnable = true ∧ high = true ∧
      s.ctrl.hushReading = false
    · obtain ⟨hw, hv, he, rfl, hr⟩ := ha
      have hc : (true && !s.ctrl.hushReading && hushEnable s.ctrl && s.ctrl.op.working) = true := by
        simp [hushEnable, hw, hv, he, hr]
      rw [if_pos hc]
      refine ⟨?_, (announceHush_ctrl _).trans (hushRead_ctrl hl true), fun _ => hushed_hushRead true s,
        fun hn => absurd ⟨hw, hv, he, rfl, hr⟩ hn, (hushRead_statusKept true s).trans (announceHush_statusKept _),
        ?_, ?_, ?_⟩
      all_goals simp [hushRead, CachesKept]
    · have hc : ¬(high && !s.ctrl.hushReading && hushEnable s.ctrl && s.ctrl.op.working) = true := by
        simp only [hushEnable, Bool.and_eq_true, Bool.not_eq_true']
        rintro ⟨⟨⟨h₁, h₂⟩, h₃, h₄⟩, h₅⟩
        exact ha ⟨h₅, h₃, h₄, h₁, h₂⟩
      rw [if_neg hc]
      refine ⟨?_, hushRead_ctrl hl high, fun h => absurd h ha, fun _ => ?_, hushRead_statusKept high s, ?_, ?_, ?_⟩
      all_goals simp [hushRead, CachesKept, VoicingKept]
  · simp only [exec, execSustPinChange, if_pos ho]
    rfl
  · simp [sustRead]
  · simp [sustRead, PortsKept, StatusKept]

end Sys2Proof.Machine
end

section
/-! PROOFS. The taking of REINIT, and the answers to the accesses that it has dropped (R11, R176). -/

namespace Sys2Proof.Machine

/-! ### The taking -/

/-- After REINIT the fetcher has nothing to choose. -/
theorem requested_takeReinit (s : State) : requested (takeReinit s) = [] := by
  simp [requested, takeReinit, controlRead, reloads, clearMarks, MapUnit.reset]

/-- An accepted REINIT is taken at once, with either descriptor and also while a command is in progress (R167). -/
theorem exec_reinit {s : State} (h : CommandAccepted s) (c : CmdWrite) :
    exec (.reinit c) s = .next (takeReinit (posted 9 c s)) := by
  show Host.Outcome.next (commandWrite 9 c s) = _
  rw [commandWrite_posted h, show opcodeOf 9 = some .reinit by decide]
  simp [Opcode.anyDescriptor, Opcode.hasArg, actPlain, chooseFetch_idle (requested_takeReinit _)]

/-- What becomes of the access that holds the M-port (R11). -/
theorem reinitAccess_eq (a : Access) : reinitAccess a =
    if a.owner = .pWrite ∨ a.owner = .pRead ∨ a.owner = .tRead ∨ a.owner = .tWrite then a
    else if a.drop = .live then { a with drop := .reinit } else a := by
  unfold reinitAccess keepsAccess
  cases a.owner <;> simp

theorem takeReinit_arb (s : State) :
    (takeReinit s).arb = { s.arb with access := s.arb.access.map reinitAccess } := by
  simp [takeReinit]

theorem takeReinit_tone (s : State) : (takeReinit s).tone = reinitTone (toneGranted s.arb.access) s.tone := by
  simp [takeReinit]

theorem takeReinit_tAnswer (s : State) : (takeReinit s).ports.tAnswer =
    if s.tone.service.isSome && !toneGranted s.arb.access then some .defer else s.ports.tAnswer := by
  simp only [takeReinit, leavePending_ports]
  split <;> rfl

theorem takeReinit_pAnswer (s : State) : (takeReinit s).ports.pAnswer = s.ports.pAnswer := by
  simp only [takeReinit, leavePending_ports]
  split <;> rfl

theorem reinitTone_values (granted : Bool) (t : Tone) : (reinitTone granted t).slot = .vacant ∧
    (reinitTone granted t).fill = .none ∧ (reinitTone granted t).frame = 0 := by
  cases granted <;> simp [reinitTone, Tone.reset]

/-! ### The dropped accesses -/

/-- Nothing outside the status unit has changed. -/
def StatusOnly (s t : State) : Prop := t = { s with stat := t.stat }

theorem StatusOnly.report {s t : State} (a : State) (h : StatusOnly s t) : StatusOnly s (report a t) := by
  unfold Machine.report
  split
  · exact h
  · have := congrArg (fun u : State => u.setStat { t.stat with stale := true, changed := true }) h
    exact this

theorem StatusOnly.setStat {s t : State} (st : Status) (h : StatusOnly s t) : StatusOnly s (t.setStat st) := by
  have := congrArg (fun u : State => u.setStat st) h
  exact this

theorem statusOnly_logFault (k : FaultKind) (p : PortId) (a : Addr) (s : State) :
    StatusOnly s (logFault k p a s) := by
  have h : StatusOnly s s := rfl
  exact ((h.setStat _).report _).setStat _ |>.report _

/-- The port in whose name the bridge makes an access of its own. -/
theorem ownPort_eq {o : Owner} {port : PortId} (h : (o = .fill ∧ port = .portT) ∨
    ((o = .voice ∨ o = .snapshot ∨ ∃ k, o = .fetch k) ∧ port = .bridge)) : ownPort o = port := by
  rcases h with ⟨rfl, rfl⟩ | ⟨rfl | rfl | ⟨k, rfl⟩, rfl⟩ <;> rfl

/-- Settles O21: the values of `takeReinit`, and the landing of a dropped access. -/
theorem reinitBeginsInitAndKeepsTheLogs : Obligations.ReinitBeginsInitAndKeepsTheLogs := by
  refine ⟨fun s c h => ⟨_, exec_reinit h c, ?_⟩, fun s a w ha hd =>
    ⟨exec_answered_of_reinit false w ha hd, fun port hp => ⟨_, exec_answered_of_reinit true w ha hd, ?_⟩⟩⟩
  · obtain ⟨hslot, hfill, hframe⟩ := reinitTone_values (toneGranted s.arb.access) s.tone
    have htone : (takeReinit (posted 9 c s)).tone = reinitTone (toneGranted s.arb.access) s.tone := by
      simp [takeReinit_tone]
    refine ⟨?_, ?_, ?_, ?_, ?_, ?_, ?_, ?_, ?_, ?_, fun k => ?_, ?_, ?_, by rw [htone, hslot], by rw [htone, hfill],
      by rw [htone, hframe], fun hs hg => ⟨?_, ?_⟩, fun hg => ⟨?_, ?_⟩, ?_, ?_, ?_, ?_, ?_⟩
    · simp [takeReinit]
    · simp [takeReinit]
    · simp [takeReinit]
    · simp [takeReinit_pAnswer]
    · simp
    · simp [takeReinit]
    · simp [takeReinit]
    · simp [takeReinit]
    · simp [takeReinit, MapUnit.reset]
    · simp [takeReinit, MapUnit.reset]
    · simp [takeReinit, clearMarks]
    · simp [takeReinit]
    · simp [takeReinit, Bellows.dropNotices]
    · simp only [htone, hg]
      rfl
    · simp [takeReinit_tAnswer, hg, Option.isSome_iff_ne_none, hs]
    · simp only [htone, hg]
      rfl
    · simp [takeReinit_tAnswer, hg]
    · simp [takeReinit_arb, funext reinitAccess_eq]
    · simp [takeReinit, StatusKept]
    · simp [takeReinit]
    · simp [takeReinit]
    · simp [takeReinit, irq]
  · rw [logError_true, ownPort_eq hp]
    have hlog := logFault_logged .memoryError port a.req.start (freePort s)
    refine ⟨hlog, statusOnly_logFault _ _ _ (freePort s), ?_, ?_, ?_, ?_, ?_⟩
    all_goals simp [freePort]

end Sys2Proof.Machine
end

section
/-! PROOFS. The accesses that the requesters ask for, and the grant (R30 to R38). -/

namespace Sys2Proof.Machine

/-! ### Accesses -/

theorem length_words (b : VoiceBody) : b.words.length = 4 ∨ b.words.length = 1 := by
  cases b <;> simp [VoiceBody.words]

/-- A voice write is a linear write of its words from the slot's record on (R116). -/
theorem voiceAccess_req (d : Desc) (v : VoiceWrite) :
    (voiceAccess d v).order = .linear ∧ (voiceAccess d v).mask = 0xF ∧
      (voiceAccess d v).more.val + 1 = v.body.words.length ∧
      (voiceAccess d v).start = d.voices + BitVec.ofNat 24 (16 * v.slot.val + 4 * v.body.firstWord) ∧
      ∀ i : Fin 8, (voiceAccess d v).data.get i = v.body.words.getD i.val 0 := by
  refine ⟨rfl, rfl, ?_, ?_, fun i => Tbl.get_ofFn _ i⟩
  · simp only [voiceAccess, Fin.val_ofNat]
    rcases length_words v.body with h | h <;> rw [h]
  · simp [voiceAccess, voiceAddr, BitVec.ofNat_add, BitVec.add_assoc]

/-- A fetch is not eligible just when a queued P write names a word that it reads (R38). -/
theorem eligible_eq_false (s : State) (f : Fetch) : eligible s f = false ↔
    ∃ w ∈ s.player.writes, ∃ a ∈ namedAddrs w.toReadReq, a ∈ namedAddrs (fetchAccess s.ctrl f) := by
  simp only [eligible, holdsWord, List.all_eq_false, Bool.not_eq_true, Bool.not_eq_false', List.any_eq_true,
    List.contains_iff_mem]
  constructor
  · rintro ⟨a, ha, w, hw, h⟩
    exact ⟨w, hw, a, h, ha⟩
  · rintro ⟨w, hw, a, h, ha⟩
    exact ⟨a, ha, w, hw, h⟩

theorem accessOf_fetcher {s : State} {f : Fetch} (hf : s.map.fetch = some f) : accessOf s .fetcher =
    if eligible s f = false then none else some (readAccess (.fetch f.kind) (fetchAccess s.ctrl f)) := by
  simp only [accessOf, hf]
  cases eligible s f <;> rfl

/-! ### The choice -/

/-- An element with the property is found when none before it has the property. -/
theorem find?_eq_some_of_takeWhile {α : Type} [DecidableEq α] {p : α → Bool} {g : α} {l : List α} (hg : g ∈ l)
    (hp : p g = true) (h : ∀ r ∈ l.takeWhile (fun r => decide (r ≠ g)), p r = false) : l.find? p = some g := by
  induction l with
  | nil => cases hg
  | cons x l ih =>
    by_cases hx : x = g
    · subst hx
      simp [hp]
    · have hg' : g ∈ l := (List.mem_cons.mp hg).resolve_left (Ne.symm hx)
      rw [List.takeWhile_cons_of_pos (by simpa using hx)] at h
      rw [List.find?_cons_of_neg (by simp [h x List.mem_cons_self])]
      exact ih hg' fun r hr => h r (List.mem_cons_of_mem _ hr)

theorem mem_fixedOrder (g : Requester) : g ∈ fixedOrder := by cases g <;> simp [fixedOrder]

theorem owed_iff (s : State) (r : Requester) :
    (waits s r && decide (s.arb.count r = Config.passMax)) = true ↔ waits s r = true ∧ s.arb.count r = 8 := by
  rw [Bool.and_eq_true, decide_eq_true_iff]
  rfl

/-- The first requester that is owed a grant (R37). -/
theorem chosen_of_owed {s : State} {g : Requester} (hw : waits s g = true) (hc : s.arb.count g = 8)
    (h : ∀ r ∈ fixedOrder.takeWhile (fun r => decide (r ≠ g)), ¬(waits s r = true ∧ s.arb.count r = 8)) :
    chosen s = some g := by
  have hfind : fixedOrder.find? (fun r => waits s r && decide (s.arb.count r = Config.passMax)) = some g :=
    find?_eq_some_of_takeWhile (mem_fixedOrder g) ((owed_iff s g).mpr ⟨hw, hc⟩) fun r hr =>
      Bool.eq_false_iff.mpr fun e => h r hr ((owed_iff s r).mp e)
  simp only [chosen, hfind]

theorem chosen_of_none_owed {s : State} (h : ∀ r, waits s r = true → s.arb.count r ≠ 8) :
    chosen s = fixedOrder.find? (waits s) := by
  have hnone : fixedOrder.find? (fun r => waits s r && decide (s.arb.count r = Config.passMax)) = none := by
    rw [List.find?_eq_none]
    exact fun r _ e => h r ((owed_iff s r).mp e).1 ((owed_iff s r).mp e).2
  simp only [chosen, hnone]

/-- Without one that is owed, the first that waits (R37). -/
theorem chosen_of_waiting {s : State} {g : Requester} (hw : waits s g = true)
    (hn : ∀ r, waits s r = true → s.arb.count r ≠ 8)
    (h : ∀ r ∈ fixedOrder.takeWhile (fun r => decide (r ≠ g)), waits s r = false) : chosen s = some g := by
  rw [chosen_of_none_owed hn]
  exact find?_eq_some_of_takeWhile (mem_fixedOrder g) hw h

theorem chosen_none {s : State} (h : ∀ r, waits s r = false) : chosen s = none := by
  rw [chosen_of_none_owed (by simp [h])]
  simp [h]

/-! ### The grant -/

theorem grant_busy {s : State} {a : Access} (h : s.arb.access = some a) : grant s = s := by simp [grant, h]

theorem grant_none {s : State} (hc : chosen s = none) : grant s = s := by
  unfold grant
  split
  · rfl
  · rw [hc]

/-- The grant to the chosen requester: its access takes the M-port and the counts follow (R37). -/
theorem grant_chosen {s : State} {g : Requester} (h : s.arb.access = none) (hc : chosen s = some g) :
    grant s = { s with arb := (grant s).arb } ∧ (grant s).arb.access = accessOf s g ∧
      ∀ r, (grant s).arb.count r = if r = g then 0 else if waits s r then min (s.arb.count r + 1) 8 else 0 := by
  unfold grant
  rw [h, hc]
  refine ⟨rfl, rfl, fun r => ?_⟩
  cases r <;> rfl

theorem count_enterHeld (b : Bool) (s : State) (r : Requester) : (enterHeld b s).arb.count r = 0 := by
  cases r <;> rfl

/-- Settles O35: the access of each requester, the choice among those that wait, and the counts. -/
theorem theGrantFollowsThePassOverCounts : Obligations.TheGrantFollowsThePassOverCounts := by
  refine ⟨fun s => ⟨fun r ts ht hs => ?_, fun w ts ht hs => ?_, fun r ts ht hs => ?_, fun ht => ?_, fun v vs hq => ?_,
      fun hq => ?_, fun f hf => ?_, fun hf => ?_, fun w ws hw => ?_, fun hw => ?_, fun k _ _ => ?_, fun k _ _ => ?_,
      fun n _ => ?_, fun n _ _ => ?_, fun p _ _ => ?_, fun p _ _ => ?_, fun i _ _ => ?_, fun _ _ => ?_, fun n hn => ?_,
      fun hn => ?_⟩, fun s => ⟨fun a ha => ?_, fun ha hw => ?_, fun g ha hw hg => ?_⟩, fun s => ?_, fun s ho => ?_,
    fun s c h => ?_⟩
  · simp [accessOf, toneAccess, ht, hs]
  · simp [accessOf, toneAccess, ht, hs]
  · rcases hs with hs | hs <;> simp [accessOf, toneAccess, ht, hs, latched]
  · simp [accessOf, toneAccess, ht]
  · obtain ⟨hord, hmask, hmore, hstart, hdata⟩ := voiceAccess_req s.ctrl.copy v
    exact ⟨writeAccess .voice (voiceAccess s.ctrl.copy v), by simp [accessOf, hq], rfl, rfl, rfl, hord, hmask, hmore,
      hstart, hdata⟩
  · simp [accessOf, hq]
  · rw [accessOf_fetcher hf]
    exact if_congr (eligible_eq_false s f) rfl rfl
  · simp [accessOf, hf]
  · simp [accessOf, playerAccess, hw]
  · simp [accessOf, playerAccess, hw]
  iterate 8 exact ⟨_, rfl, rfl, rfl, rfl⟩
  · refine ⟨writeAccess .snapshot (snapshotAccess s.ctrl n), by simp [accessOf, hn], rfl, rfl, rfl, ?_, rfl, rfl, rfl,
      rfl⟩
    rw [Nat.add_assoc]
    rfl
  · simp [accessOf, hn]
  · exact congrArg _ (grant_busy ha)
  · exact congrArg _ (grant_none (chosen_none hw))
  · have hc : chosen s = some g := hg.elim (fun h => chosen_of_owed hw h.1 h.2) (fun h => chosen_of_waiting hw h.1 h.2)
    exact ⟨_, rfl, grant_chosen ha hc⟩
  · exact ⟨_, rfl, count_enterHeld _ _⟩
  · exact ⟨enterHeld false (s.setPins { s.pins with resetLow := true }), by simp [exec, execResetLow, ho],
      count_enterHeld _ _⟩
  · refine ⟨_, exec_reinit h c, fun r => ?_⟩
    rw [takeReinit_arb, posted_arb]
    cases r <;> rfl

end Sys2Proof.Machine
end

section
/-! PROOFS. The end of an item, the group of its last write, and the voice write queue under the run of an item
(R96, R115, R117). -/

namespace Sys2Proof.Machine

/-! ### The end of an item that is no hush -/

/-- The level sweep's place after an item has ended: its own step moves it on (R146). -/
def sweepAfter (k : ItemKind) (e : Engine) : Option Slot :=
  match k with
  | .sweepStep i => sweepLeaving i e
  | _ => e.sweep

theorem afterItem_eng {k : ItemKind} (hk : k ≠ .hush) (s : State) :
    (afterItem k s).eng = { s.eng with revWalk := placeAfter k s.eng, sweep := sweepAfter k s.eng } := by
  cases k with
  | hush => exact absurd rfl hk
  | reversalStep p =>
    simp only [afterItem, placeAfter, placeLeaving, sweepAfter, posAfter]
    split <;> rfl
  | sweepStep i => rfl
  | releaseAll | expiry | press | release | sustainStep | restrikeStep | rebuild => rfl

theorem afterItem_rest {k : ItemKind} (hk : k ≠ .hush) (s : State) :
    (afterItem k s).voice = s.voice ∧ (afterItem k s).stat = s.stat := by
  cases k with
  | hush => exact absurd rfl hk
  | reversalStep p =>
    simp only [afterItem]
    split <;> exact ⟨rfl, rfl⟩
  | sweepStep | releaseAll | expiry | press | release | sustainStep | restrikeStep | rebuild => exact ⟨rfl, rfl⟩

section ItemEnd

variable {k : ItemKind} (hk : k ≠ .hush) (s : State)
include hk

theorem itemEnd_eng : (itemEnd k s).eng =
    { s.eng with item := none, revWalk := placeAfter k s.eng, sweep := sweepAfter k s.eng } := by
  rw [itemEnd, afterItem_eng hk, endFilling_eng]
  cases k <;> rfl

theorem itemEnd_stat : (itemEnd k s).stat = s.stat := by
  rw [itemEnd, (afterItem_rest hk _).2, endFilling_stat, State.setEng_stat]

theorem itemEnd_groups : (itemEnd k s).voice.groups =
    (s.voice.groups.map fun g => { g with filling := false }).filter fun g => !g.closable := by
  rw [itemEnd, (afterItem_rest hk _).1, endFilling_voice, State.setEng_voice]

end ItemEnd

/-! ### The group of a write -/

/-- A grouped write is counted into a group with its tag, which does not close before it has landed (R117, R118). -/
theorem joinGroup_counts (i : Slot) (starts : Bool) (now : Nat) (v : VoiceWriter) :
    ∃ g ∈ (joinGroup i starts now v).groups, g.tag = pushTag v ∧ i ∈ g.slots ∧ g.notLanded ≠ 0 := by
  unfold joinGroup pushTag
  cases h : fillingGroup v with
  | none => exact ⟨_, List.mem_append_right _ (List.mem_singleton.mpr rfl), rfl, by simp, by simp⟩
  | some g =>
    have hg : g ∈ v.groups := List.mem_of_find?_eq_some h
    have hf : g.filling = true := List.find?_some h
    refine ⟨_, List.mem_map.mpr ⟨g, hg, if_pos hf⟩, rfl, ?_, by simp⟩
    simp only [addSlot]
    split
    · next hc => simpa using hc
    · simp

theorem pushWriter_counts (s : State) {pu : Push} {n : Nat} (hn : (pushedWrite s pu).tag = some n) :
    ∃ g ∈ (pushWriter s pu s.voice).groups, g.tag = n ∧ pu.slot ∈ g.slots ∧ g.notLanded ≠ 0 := by
  unfold pushedWrite at hn
  unfold pushWriter
  cases hg : pu.grouped with
  | false => simp [hg] at hn
  | true =>
    simp only [hg, if_true, Option.some.injEq] at hn
    exact hn ▸ joinGroup_counts pu.slot pu.starts s.timebase s.voice

/-! ### The voice write queue grows at its end -/

theorem endSettling_queue (s : State) : (endSettling s).voice.queue = s.voice.queue := by
  unfold endSettling
  dsimp only []
  rw [finish_voice, raiseFlag_voice, enterTransparent_voice, report_voice, State.setEng_voice]
  split
  · split <;> simp
  · rfl

theorem itemEnd_queue (k : ItemKind) (s : State) : (itemEnd k s).voice.queue = s.voice.queue := by
  by_cases hk : k = .hush
  · subst hk
    simp only [itemEnd, afterItem]
    split
    · rw [endSettling_queue]
      simp
    · simp
  · simp [itemEnd, (afterItem_rest hk _).1]

theorem voiceRecord_queue (k : ItemKind) (p : Pos) (s : State) : (voiceRecord k p s).voice.queue = s.voice.queue := by
  unfold voiceRecord
  split
  · exact itemEnd_queue k s
  · split
    · exact itemEnd_queue k s
    · split
      · exact itemEnd_queue k s
      · split <;> simp

theorem pressEntered_queue (b : Bank) (p : Pos) (n : EntrySnap) (s : State) :
    (pressEntered b p n s).voice.queue = s.voice.queue := by
  unfold pressEntered
  dsimp only []
  split
  · simp [voiceRecord_queue]
  · exact itemEnd_queue _ s

theorem pressRequest_queue (p : Pos) (s : State) : (pressRequest p s).voice.queue = s.voice.queue := by
  unfold pressRequest
  split
  · simp [itemEnd_queue]
  · dsimp only []
    split
    · simp [pressEntered_queue]
    · simp

/-- An item's run puts its writes at the end of the queue (R96, R115). -/
theorem queue_prefix_runJobs (k : ItemKind) (js : List Job) (s : State) :
    s.voice.queue <+: (runJobs k js s).voice.queue := by
  refine runJobs_keeps (P := fun t => s.voice.queue <+: t.voice.queue) (fun t h => ?_) (fun w l t h => ?_)
    (fun pu t _ h => ?_) (fun p t h => ?_) (fun t h => ?_) (fun t h => ?_) (fun p t h => ?_) (fun p t h => ?_)
    (fun r t h => ?_) js s (List.prefix_refl _)
  · rwa [itemEnd_queue]
  · rwa [waitFor_voice]
  · rw [doPush_voice, pushWriter_queue]
    exact h.trans (List.prefix_append _ _)
  · rwa [report_voice, State.setEng_voice]
  · rwa [endFilling_voice]
  · rwa [report_voice, State.setEng_voice]
  · rwa [pressRequest_queue]
  · rwa [voiceRecord_queue]
  · rwa [dropFor_voice]

/-! ### A write that waited -/

/-- The item's waiting push is made when it need not wait and is still due (R119). -/
theorem exec_pushWaitEnd {s : State} {k : ItemKind} {pu : Push} {js : List Job} (h : Pushing s k pu js) :
    exec .pushWaitEnd s = .next (chooseFetch (resumePush { kind := k, wait := .push pu, jobs := js } pu s)) := by
  show execPushWaitEnd s = _
  rw [execPushWaitEnd, show s.eng.item = _ from h]

theorem resumePush_blocked {s : State} {it : Item} {pu : Push} (h : canPush s pu = false) : resumePush it pu s = s := by
  simp [resumePush, h]

theorem resumePush_made {s : State} {it : Item} {pu : Push} (h : canPush s pu = true) (hd : stillDue s pu = true) :
    resumePush it pu s = runJobs it.kind it.jobs (doPush pu s) := by
  simp [resumePush, h, hd]

theorem resumePush_over {s : State} {it : Item} {pu : Push} (h : canPush s pu = true) (hd : stillDue s pu = false) :
    resumePush it pu s = itemEnd it.kind s := by
  simp [resumePush, h, hd]

theorem pushedFirst_runJobs (s : State) (pu : Push) (k : ItemKind) (js : List Job) :
    PushedFirst s (chooseFetch (runJobs k js (doPush pu s))) (pushedWrite s pu) := by
  have := queue_prefix_runJobs k js (doPush pu s)
  rwa [doPush_voice, pushWriter_queue, ← chooseFetch_voice (runJobs k js (doPush pu s))] at this

/-- The last write of an item that ends with it. -/
theorem pushedLast_itemEnd {s w : State} {pu : Push} {k : ItemKind} (hk : k ≠ .hush)
    (hw : w.voice = pushWriter s pu s.voice) : PushedLast s (chooseFetch (itemEnd k w)) (pushedWrite s pu) := by
  refine ⟨?_, ?_, fun n hn => ?_⟩
  · rw [chooseFetch_voice, itemEnd_queue, hw, pushWriter_queue]
  · rw [chooseFetch_eng, itemEnd_eng hk]
  · obtain ⟨g, hg, htag, hslot, hland⟩ := pushWriter_counts s hn
    rw [chooseFetch_voice, itemEnd_groups hk, hw]
    exact ⟨{ g with filling := false }, List.mem_filter.mpr ⟨List.mem_map_of_mem hg, by simp [Group.closable, hland]⟩,
      htag, hslot, rfl⟩

end Sys2Proof.Machine
end

section
/-! PROOFS. The writes that wait, kind by kind, and the steps of the level sweep (R100, R119, R132, R146). -/

namespace Sys2Proof.Machine

/-! ### What each push does to the engine -/

theorem unlist_eq (i : Slot) (held : List HeldRec) : unlist i held = withoutSlots [i] held := by
  simp [unlist, withoutSlots]

theorem map_pos_withoutSlots (l : List Slot) (held : List HeldRec) :
    (withoutSlots l held).map (·.pos) = held.map (·.pos) := by
  simp [withoutSlots, Function.comp_def]

theorem map_pos_enlist (p : Pos) (i : Slot) (held : List HeldRec) :
    (enlist p i held).map (·.pos) = held.map (·.pos) := by
  simp only [enlist, List.map_map]
  refine List.map_congr_left fun r _ => ?_
  simp only [Function.comp_apply]
  split <;> rfl

/-- A change of the table that keeps its positions keeps the place after an item (R136). -/
theorem placeAfter_of_pos {e e' : Engine} (k : ItemKind) (hw : e'.revWalk = e.revWalk)
    (hp : e'.held.map (·.pos) = e.held.map (·.pos)) : placeAfter k e' = placeAfter k e := by
  cases k <;> simp [placeAfter, placeLeaving, hw, hp]

theorem startVoice_eq {p : Pos} {i : Slot} {steal : Bool} {rec : SlotRec} {e : Engine}
    (hi : i ∈ (if steal then e.order else e.free)) : startVoice p i steal rec e = { e with
      mirror := e.mirror.set i rec
      order := (if steal then e.order.filter fun j => decide (j ≠ i) else e.order) ++ [i]
      free := if steal then e.free else e.free.filter fun j => decide (j ≠ i)
      sweep := if steal then sweepLeaving i e else e.sweep
      counts := (startVoice p i steal rec e).counts
      held := (withoutSlots [i] e.held).map fun y =>
        if y.pos = p then { y with voices := y.voices ++ [i] } else y } := by
  cases steal <;> simp_all [startVoice, unlist_eq, enlist, sweepPast, sweepLeaving]

theorem releaseSlot_eq {i : Slot} {latch : Nat} {e : Engine} (hi : i ∈ e.order) : releaseSlot i latch e = { e with
    mirror := e.mirror.set i { e.mirror.get i with state := .releasing, owner := none, countdown := some latch }
    held := withoutSlots [i] e.held } := by
  simp [releaseSlot, hi, unlist_eq]

theorem freeSlot_eq {i : Slot} {e : Engine} (hi : i ∈ e.order) : freeSlot i e = { e with
    mirror := e.mirror.set i { e.mirror.get i with state := .free, owner := none, countdown := none }
    order := e.order.filter fun j => decide (j ≠ i)
    sweep := sweepLeaving i e
    free := e.free ++ [i]
    counts := (freeSlot i e).counts
    held := withoutSlots [i] e.held } := by
  simp [freeSlot, hi, unlist_eq, sweepPast, sweepLeaving]

/-- A slot stands in one of the two lists only (R90). -/
theorem SlotLaw.filter_other {s : State} (h : SlotLaw s) {i : Slot} :
    (i ∈ s.eng.order → s.eng.free.filter (fun j => decide (j ≠ i)) = s.eng.free) ∧
    (i ∈ s.eng.free → s.eng.order.filter (fun j => decide (j ≠ i)) = s.eng.order) := by
  obtain ⟨⟨hperm, -, -⟩, -⟩ := h
  have hd := List.disjoint_of_nodup_append (hperm.nodup_iff.mpr (List.nodup_finRange 64))
  simp only [List.filter_eq_self, decide_eq_true_eq, ne_eq]
  exact ⟨fun hi j hj e => hd hj (e ▸ hi), fun hi j hj e => hd (e ▸ hi) hj⟩

/-! ### When a write need not wait -/

theorem canPush_of_room {s : State} (pu : Push) (h : GroupRoom s) : canPush s pu = true := by
  obtain ⟨hq, hg⟩ := h
  simp only [canPush, Bool.and_eq_true, Bool.or_eq_true, decide_eq_true_eq]
  exact ⟨hq, hg.elim .inr fun h => .inl (.inr h)⟩

theorem canPush_eq_false {s : State} {pu : Push} (h : 32 ≤ s.voice.queue.length ∨
    (pu.grouped = true ∧ 4 ≤ s.voice.groups.length ∧ fillingGroup s.voice = none)) : canPush s pu = false := by
  have hmax : Config.voiceQueueMax = 32 := rfl
  have hgrp : Config.groupMax = 4 := rfl
  rcases h with h | ⟨hp, hg, hf⟩
  · have : ¬s.voice.queue.length < Config.voiceQueueMax := by omega
    simp [canPush, this]
  · have : ¬s.voice.groups.length < Config.groupMax := by omega
    simp [canPush, hp, hf, this]

/-! ### The level sweep -/

/-- The level on the part of the curve that the magnitude lies on (R100). -/
theorem levelOf_eq {m : Nat} {k : Fin 8} (hk : m / 256 = k.val) (c : Tbl 9 Nat) (trim : Int) : levelOf m c trim =
    (max 0 (min 255 ((c.get k.castSucc : Int) + (((c.get k.succ : Int) - c.get k.castSucc) *
      ((m : Int) - 256 * k.val)).tdiv 256 + trim))).toNat := by
  have h₀ : Fin.ofNat 9 k.val = k.castSucc := Fin.ext (Nat.mod_eq_of_lt (by have := k.isLt; omega))
  have h₁ : Fin.ofNat 9 (k.val + 1) = k.succ := Fin.ext (Nat.mod_eq_of_lt (by have := k.isLt; simp; omega))
  simp only [levelOf, hk, h₀, h₁]

theorem exec_levelSweepStep {s : State} {i : Slot} (h : Takes s .sweepStep) (hi : s.eng.sweep = some i) :
    exec .levelSweepStep s = .next (sweepStep i s) := by
  show execLevelSweepStep s = _
  rw [execLevelSweepStep, if_pos (show nextItem s = some .sweepStep from h), hi]

theorem item_of_takes {s : State} {x : Sel} (h : Takes s x) : s.eng.item = none := by
  unfold Takes nextItem at h
  split at h
  · cases h
  · next hn =>
    simp only [Bool.or_eq_true, not_or] at hn
    simpa using hn.1

theorem sweepLeaving_self {i : Slot} {e : Engine} (h : e.sweep = some i) : sweepLeaving i e = nextAfter i e.order := by
  simp [sweepLeaving, h]

/-- The write of a new level (R146). -/
theorem doPush_level (i : Slot) (lvl : Nat) (s : State) :
    (doPush (.level i lvl) s).eng = { s.eng with
      mirror := s.eng.mirror.set i { s.eng.mirror.get i with level := lvl } } ∧
    (doPush (.level i lvl) s).voice.queue =
      s.voice.queue ++ [{ slot := i, body := .level (voiceWord2 lvl), tag := none }] := by
  refine ⟨by simp [pushEngine], ?_⟩
  rw [doPush_voice, pushWriter_queue]
  rfl

/-- A step that writes its level ends and moves the sweep on (R146). -/
theorem itemEnd_level {s : State} {i : Slot} (lvl : Nat) (hi : s.eng.sweep = some i) :
    (itemEnd (.sweepStep i) (doPush (.level i lvl) s)).eng = { s.eng with
      item := none, sweep := nextAfter i s.eng.order
      mirror := s.eng.mirror.set i { s.eng.mirror.get i with level := lvl } } ∧
    (itemEnd (.sweepStep i) (doPush (.level i lvl) s)).voice.queue =
      s.voice.queue ++ [{ slot := i, body := .level (voiceWord2 lvl), tag := none }] := by
  obtain ⟨he, hq⟩ := doPush_level i lvl s
  refine ⟨?_, (itemEnd_queue _ _).trans hq⟩
  rw [itemEnd_eng (by simp), he]
  simp [sweepAfter, sweepLeaving, hi, placeAfter]

/-! ### The waiting writes -/

/-- The FULL write of a layer of the record `r` (R98). -/
theorem pushedWrite_full {s : State} {p : Pos} {r : HeldRec} (hr : findRec s.eng p = some r) (i : Slot) (steal : Bool)
    (l : Layer) (x : Fin 8) (d : Dir) : pushedWrite s (.full p i steal l x d) =
      { slot := i, tag := some (pushTag s.voice),
        body := .full (voiceWord0 .sounding steal l.sect x ((s.eng.mirror.get i).gen + 1) p.val)
          (voiceWord1 l.patch ((l.note : Int) + r.snap.transpose).toNat l.pan)
          (voiceWord2 (levelOf s.eng.appliedMag (s.map.sects.get l.sect).curve l.trim))
          (voiceWord3 s.tone.frame d) } := by
  have ht : transposeOf s.eng p = r.snap.transpose := by
    unfold transposeOf
    rw [show s.eng.held.find? _ = some r from hr]
  simp only [pushedWrite, pushBody, ht]
  rfl

theorem voices_ne_hush {k : ItemKind} {p : Pos} (h : Voices k p) : k ≠ .hush ∧ ∀ e, sweepAfter k e = e.sweep := by
  rcases h with rfl | rfl | rfl <;> exact ⟨by simp, fun _ => rfl⟩

section LastWrites

variable {s : State}

/-- The last layer of an item that voices a record (R98, R102): its slot leaves whichever list held it. -/
theorem itemEnd_full {k : ItemKind} {p : Pos} {i : Slot} {steal : Bool} {l : Layer} {x : Fin 8} {d : Dir}
    (hk : Voices k p) (hs : SlotLaw s) (hi : i ∈ (if steal then s.eng.order else s.eng.free)) :
    (itemEnd k (doPush (.full p i steal l x d) s)).eng = { s.eng with
      item := none
      mirror := s.eng.mirror.set i (startedRec (s.eng.mirror.get i) p steal l x (levelFor s l.sect l.trim))
      order := (s.eng.order.filter fun j => decide (j ≠ i)) ++ [i]
      free := s.eng.free.filter fun j => decide (j ≠ i)
      sweep := if steal then sweepLeaving i s.eng else s.eng.sweep
      revWalk := placeAfter k s.eng
      counts := (itemEnd k (doPush (.full p i steal l x d) s)).eng.counts
      held := (withoutSlots [i] s.eng.held).map fun y =>
        if y.pos = p then { y with voices := y.voices ++ [i] } else y } := by
  obtain ⟨hh, hsw⟩ := voices_ne_hush hk
  obtain ⟨hfree, horder⟩ := hs.filter_other (i := i)
  have hlists : (if steal then s.eng.order.filter fun j => decide (j ≠ i) else s.eng.order) =
        (s.eng.order.filter fun j => decide (j ≠ i)) ∧
      (if steal then s.eng.free else s.eng.free.filter fun j => decide (j ≠ i)) =
        s.eng.free.filter fun j => decide (j ≠ i) := by
    cases steal
    · exact ⟨(horder hi).symm, rfl⟩
    · exact ⟨rfl, (hfree hi).symm⟩
  have he := startVoice_eq (p := p) (rec := startedRec (s.eng.mirror.get i) p steal l x (levelFor s l.sect l.trim)) hi
  rw [hlists.1, hlists.2] at he
  have hpush : (doPush (.full p i steal l x d) s).eng = startVoice p i steal
      (startedRec (s.eng.mirror.get i) p steal l x (levelFor s l.sect l.trim)) s.eng := doPush_eng _ _
  have hpos : placeAfter k (doPush (.full p i steal l x d) s).eng = placeAfter k s.eng := by
    refine placeAfter_of_pos k ?_ ?_
    · rw [hpush, he]
    · rw [hpush, he]
      exact (map_pos_enlist p i _).trans (map_pos_withoutSlots _ _)
  rw [itemEnd_eng hh, hsw, hpos, hpush]
  generalize startVoice p i steal _ s.eng = e at he ⊢
  rw [he]

/-- How an item ends that has released or freed a last slot: with nothing left to do, or by taking the record of `q` out
of the table (R106, R143). -/
def EndsWith (k : ItemKind) (js : List Job) (q : Pos) : Prop :=
  (js = [] ∧ (k = .expiry ∨ k = .reversalStep q)) ∨ (js = [.removeRecord q] ∧ (k = .release q ∨ k = .sustainStep q))

theorem EndsWith.ne_hush {k : ItemKind} {js : List Job} {q : Pos} (h : EndsWith k js q) : k ≠ .hush := by
  rcases h with ⟨-, rfl | rfl⟩ | ⟨-, rfl | rfl⟩ <;> simp

/-- The state in which such an item ends. -/
def recordGone (js : List Job) (q : Pos) (u : State) : State :=
  if js = [] then u else report u (u.setEng (removeRec q u.eng))

theorem runJobs_endsWith {k : ItemKind} {js : List Job} {q : Pos} (h : EndsWith k js q) (u : State) :
    runJobs k js u = itemEnd k (recordGone js q u) := by
  rcases h with ⟨rfl, -⟩ | ⟨rfl, -⟩ <;> simp [runJobs, recordGone]

theorem itemEnd_recordGone {k : ItemKind} {js : List Job} {q : Pos} (h : EndsWith k js q) (u : State) :
    (itemEnd k (recordGone js q u)).eng = { u.eng with
      item := none
      held := if js = [] then u.eng.held else u.eng.held.filter fun y => decide (y.pos ≠ q)
      revWalk := if js = [] then placeAfter k u.eng else placeLeaving q u.eng } := by
  rw [itemEnd_eng h.ne_hush]
  rcases h with ⟨rfl, rfl | rfl⟩ | ⟨rfl, rfl | rfl⟩ <;>
    simp [recordGone, sweepAfter, placeAfter, removeRec, placeLeaving, posAfter]

/-- The last release of an item. -/
theorem exec_lastRelease {k : ItemKind} {js : List Job} {q : Pos} {pu : Push} (h : EndsWith k js q)
    (hw : (pushEngine s pu s.eng).revWalk = s.eng.revWalk)
    (hp : (pushEngine s pu s.eng).held = withoutSlots [pu.slot] s.eng.held) :
    PushedLast s (chooseFetch (runJobs k js (doPush pu s))) (pushedWrite s pu) ∧
    (chooseFetch (runJobs k js (doPush pu s))).eng = { pushEngine s pu s.eng with
      item := none
      held := if js = [] then withoutSlots [pu.slot] s.eng.held
        else (withoutSlots [pu.slot] s.eng.held).filter fun y => decide (y.pos ≠ q)
      revWalk := if js = [] then placeAfter k s.eng else placeLeaving q s.eng } := by
  have hpos : (pushEngine s pu s.eng).held.map (·.pos) = s.eng.held.map (·.pos) := by
    rw [hp, map_pos_withoutSlots]
  have hplace := placeAfter_of_pos k hw hpos
  have hleave : placeLeaving q (pushEngine s pu s.eng) = placeLeaving q s.eng :=
    placeAfter_of_pos (.reversalStep q) hw hpos
  rw [runJobs_endsWith h]
  refine ⟨pushedLast_itemEnd h.ne_hush ?_, ?_⟩
  · unfold recordGone
    split <;> simp
  · rw [chooseFetch_eng, itemEnd_recordGone h, doPush_eng, hplace, hleave, hp]

end LastWrites

end Sys2Proof.Machine
end

section
/-! PROOFS. PUSH_WAIT_END and LEVEL_SWEEP_STEP (R100, R119, R146). -/

namespace Sys2Proof.Machine

/-- A write that was still due has been made, and its item has gone on. -/
theorem exec_pushWaitEnd_made {s : State} {k : ItemKind} {pu : Push} {js : List Job} (h : Pushing s k pu js)
    (hc : canPush s pu = true) (hd : stillDue s pu = true) :
    exec .pushWaitEnd s = .next (chooseFetch (runJobs k js (doPush pu s))) := by
  rw [exec_pushWaitEnd h, resumePush_made hc hd]

/-- INIT's blank records go out until the queue is full again or all are written (R15). -/
theorem exec_pushWaitEnd_blanks {s : State} {i : Slot} {rest now later : List Slot}
    (h : Pushing s .rebuild (.blank i) (rest.map .blank)) (ho : s.eng.order = []) (hl : i :: rest = now ++ later)
    (hq : s.voice.queue.length < 32) (hroom : s.voice.queue.length + now.length ≤ 32)
    (hfull : later = [] ∨ s.voice.queue.length + now.length = 32) :
    ∃ u, exec .pushWaitEnd s = .next (chooseFetch u) ∧ Blanked s u now later := by
  have hc : canPush s (.blank i) = true := by simpa [canPush_of_ungrouped (p := .blank i) rfl] using hq
  have hrun : runJobs .rebuild (rest.map .blank) (doPush (.blank i) s) =
      runJobs .rebuild ((now ++ later).map .blank) s := by
    rw [← hl]
    simp [runJobs, hc]
  refine ⟨_, (exec_pushWaitEnd_made h hc rfl).trans (by rw [hrun]), runJobs_blanked now later ho (.inr hroom) ?_⟩
  exact hfull.imp_right fun e => e.ge

section SweepStep

variable {s : State} {i : Slot} {lvl : Nat}
  (hl : levelFor s (s.eng.mirror.get i).sect (s.eng.mirror.get i).trim = lvl)
include hl

theorem sweepStep_same (h : lvl = (s.eng.mirror.get i).level) : sweepStep i s = itemEnd (.sweepStep i) s :=
  if_pos (hl.trans h)

theorem sweepStep_written (h : lvl ≠ (s.eng.mirror.get i).level) (hq : s.voice.queue.length < 32) :
    sweepStep i s = itemEnd (.sweepStep i) (doPush (.level i lvl) s) := by
  have hc : canPush s (.level i lvl) = true := by simpa [canPush_of_ungrouped (p := .level i lvl) rfl] using hq
  simp [sweepStep, hl, h, hc]

theorem sweepStep_waiting (h : lvl ≠ (s.eng.mirror.get i).level) (hq : 32 ≤ s.voice.queue.length) :
    sweepStep i s = waitFor (.sweepStep i) (.push (.level i lvl)) [] s := by
  have hc : canPush s (.level i lvl) = false := canPush_eq_false (.inl hq)
  simp [sweepStep, hl, h, hc]

end SweepStep

theorem steals_counted (steal : Bool) (n : Nat) :
    (if steal then bump n else n) = if steal = true ∧ n < 65535 then n + 1 else n := by
  cases steal <;> simp [bump_eq]

/-- Settles O55, by the kind of the write. -/
theorem waitingWritesGoOnAndLevelsAreRewritten : Obligations.WaitingWritesGoOnAndLevelsAreRewritten := by
  intro s
  refine ⟨fun i ht hi => ?_, fun k pu js hw hb => ?_, ⟨fun _ _ _ _ _ _ => rfl, fun _ _ _ => rfl, fun _ _ => rfl,
    fun _ _ => rfl, fun _ => rfl⟩, fun k p i steal l x d js hw hroom => ⟨fun hno hk => ?_, fun r hop hr => ?_⟩,
    fun k p i latch js hw hroom => ?_, fun k i g js hw hq hroom => ?_,
    fun i rest now later hw ho hl hq hroom hfull => ?_, fun i lvl hi hitem => ⟨fun hq => ?_, fun hq => ?_⟩⟩
  · intro r c m k lvl hk hlvl
    have hitem := item_of_takes ht
    have hlev : levelFor s r.sect r.trim = lvl := (levelOf_eq hk c r.trim).trans hlvl.symm
    rw [exec_levelSweepStep ht hi]
    refine ⟨fun he => ⟨_, rfl, ?_, ?_⟩, fun hne hq => ⟨_, rfl, ?_⟩, fun hne hq => ?_⟩
    · rw [sweepStep_same hlev he, itemEnd_eng (by simp), ← hitem]
      simp [placeAfter, sweepAfter, sweepLeaving_self hi]
    · rw [sweepStep_same hlev he, itemEnd_queue]
    · rw [sweepStep_written hlev hne hq]
      obtain ⟨he, hqueue⟩ := itemEnd_level lvl hi
      exact ⟨he.trans (by rw [← hitem]), hqueue⟩
    · rw [sweepStep_waiting hlev hne hq]
      rfl
  · rw [exec_pushWaitEnd hw, resumePush_blocked (canPush_eq_false hb)]
    refine ⟨_, rfl, ?_⟩
    simp [OutsideKept, StatusKept]
  · have hover : stillDue s (.full p i steal l x d) = false := by
      rcases hno with hno | hno <;> simp [stillDue, hno]
    rw [exec_pushWaitEnd hw, resumePush_over (canPush_of_room _ hroom) hover]
    refine ⟨_, rfl, ?_, ?_, ?_⟩
    · simp [itemEnd_eng hk]
    · simp [itemEnd_queue]
    · simp [itemEnd_eng hk]
  · have hdue : stillDue s (.full p i steal l x d) = true := by simp [stillDue, hop, hr]
    have hfirst := pushedFirst_runJobs s (.full p i steal l x d) k js
    rw [pushedWrite_full hr] at hfirst
    refine ⟨_, exec_pushWaitEnd_made hw (canPush_of_room _ hroom) hdue, hfirst, fun hjs hk hslot hi => ?_⟩
    subst hjs
    obtain ⟨hh, -⟩ := voices_ne_hush hk
    have hlast : PushedLast s (chooseFetch (itemEnd k (doPush (.full p i steal l x d) s)))
      (pushedWrite s (.full p i steal l x d)) := pushedLast_itemEnd hh (doPush_voice _ _)
    rw [pushedWrite_full hr] at hlast
    refine ⟨hlast, ?_⟩
    simp only [runJobs, chooseFetch_eng, chooseFetch_stat]
    rw [itemEnd_full (l := l) (x := x) (d := d) hk hslot hi, itemEnd_stat hh, doPush_counters]
    refine ⟨Tbl.get_set_same _ _ _, fun j hj => Tbl.get_set_other _ _ hj.symm, rfl, rfl, rfl, rfl, rfl, ?_⟩
    rw [← steals_counted]
    rfl
  · have hfirst := pushedFirst_runJobs s (.releasing p i latch) k js
    refine ⟨_, exec_pushWaitEnd_made hw (canPush_of_room _ hroom) rfl, hfirst, fun q hi hjs => ?_⟩
    have hends : EndsWith k js q := hjs.imp_left fun h => ⟨h.1, .inr h.2⟩
    have he : pushEngine s (.releasing p i latch) s.eng = releaseSlot i latch s.eng := rfl
    rw [releaseSlot_eq hi] at he
    obtain ⟨hlast, heng⟩ := exec_lastRelease (pu := .releasing p i latch) hends (by rw [he]) (by rw [he]; rfl)
    rw [heng, he]
    exact ⟨hlast, rfl, rfl, rfl, rfl, rfl, rfl⟩
  · have hc : canPush s (.freeing i g) = true := by
      cases g with
      | false => simpa [canPush_of_ungrouped (p := .freeing i false) rfl] using hq
      | true => exact canPush_of_room _ (hroom rfl)
    have hfirst := pushedFirst_runJobs s (.freeing i g) k js
    refine ⟨_, exec_pushWaitEnd_made hw hc rfl, hfirst, fun q hi hends => ?_⟩
    have he : pushEngine s (.freeing i g) s.eng = freeSlot i s.eng := rfl
    have hf := freeSlot_eq hi
    obtain ⟨hlast, heng⟩ := exec_lastRelease (pu := .freeing i g) hends (by rw [he, hf]) (by rw [he, hf]; rfl)
    rw [heng, he, hf]
    exact ⟨hlast, rfl, rfl, rfl, rfl, rfl, rfl⟩
  · obtain ⟨u, hx, hqueue, heng, hmirror, hmap, hctrl, -⟩ := exec_pushWaitEnd_blanks hw ho hl hq hroom hfull
    refine ⟨_, hx, ?_, fun hlat => ?_, fun j ls hlat => ?_, fun j => ?_, ?_, ?_, ?_, ?_, ?_⟩
    · rw [chooseFetch_voice, hqueue]
      rfl
    · rw [chooseFetch_eng, heng, hlat]
      rfl
    · rw [chooseFetch_eng, heng, hlat]
      rfl
    · rw [chooseFetch_eng, hmirror]
    · rw [chooseFetch_eng, heng, ← ho]
    · rw [chooseFetch_eng, heng]
    · rw [chooseFetch_eng, heng]
    · rw [ControlKept, chooseFetch_ctrl, hctrl]
    · simp [CachesKept, hmap]
  · rw [exec_pushWaitEnd hitem, resumePush_blocked (canPush_eq_false (.inl hq))]
    exact ⟨_, rfl, by simp⟩
  · have hc : canPush s (.level i lvl) = true := by simpa [canPush_of_ungrouped (p := .level i lvl) rfl] using hq
    refine ⟨_, exec_pushWaitEnd_made hitem hc rfl, ?_⟩
    rw [chooseFetch_eng, chooseFetch_voice]
    exact itemEnd_level lvl hi

end Sys2Proof.Machine
end

section
/-! PROOFS. Requests that are refused whole: bad form, and the first refused word (R21, R22, R23, R25). -/

namespace Sys2Proof.Machine

/-! ### What a refusal leaves -/

theorem refusedOnP_logFault (k : FaultKind) (a : Addr) (s : State) :
    RefusedOnP k a s (answerP .refuse (logFault k .portP a s)) := by
  refine ⟨by simp [answerP], ?_, ?_, by simp, by simp, by simp⟩
  · exact (logFault_logged k .portP a s).trans_kept (.of_stat (answerP_stat _ _))
  · simp [OnlyAnswered]

theorem refusedOnT_logFault (k : FaultKind) (a : Addr) (s : State) :
    RefusedOnT k a s (answerT .refuse (logFault k .portT a s)) := by
  refine ⟨by simp [answerT], ?_, ?_, by simp, by simp, by simp⟩
  · exact (logFault_logged k .portT a s).trans_kept (.of_stat (answerT_stat _ _))
  · simp [OnlyAnswered]

/-! ### Bad form (R23) -/

theorem badStart_of_unaligned {a : Addr} (h : a.toNat % 4 ≠ 0) : badStart a = true := by simpa [badStart] using h

theorem badForm_iff (w : WriteReq) : badForm w = true ↔ w.start.toNat % 4 ≠ 0 ∨ (w.more ≠ 0 ∧ w.mask ≠ 0xF) := by
  simp [badForm, badStart]

section Judged

variable {s : State}

theorem pWrite_of_badForm (h : POpen s) {w : WriteReq} (hb : badForm w = true) :
    pWrite w s = answerP .refuse (logFault .misaligned .portP w.start s) := by
  simp [pWrite, h.1, h.2, hb]

theorem tWrite_of_badForm (h : TOpen s) {w : WriteReq} (hb : badForm w = true) :
    tWrite w s = answerT .refuse (logFault .misaligned .portT w.start s) := by
  simp [tWrite, h.1, h.2, hb]

theorem pRead_of_badStart (h : POpen s) {r : ReadReq} (hb : badStart r.start = true) :
    pRead r s = answerP .refuse (logFault .misaligned .portP r.start s) := by
  simp [pRead, h.1, h.2, hb]

theorem tRead_of_badStart (h : TOpen s) {r : ReadReq} (hb : badStart r.start = true) :
    tRead r s = answerT .refuse (logFault .misaligned .portT r.start s) := by
  simp [tRead, h.1, h.2, hb]

/-! ### The first refused word (R25) -/

variable {k : FaultKind} {a : Addr}

theorem pWrite_of_firstRefused (h : POpen s) {w : WriteReq} (hb : badForm w = false)
    (hf : firstRefused (refusesPWrite s.ctrl) (namedAddrs w.toReadReq) = some (k, a)) :
    pWrite w s = answerP .refuse (logFault k .portP a s) := by
  simp [pWrite, h.1, h.2, hb, hf]

theorem tWrite_of_firstRefused (h : TOpen s) {w : WriteReq} (hb : badForm w = false)
    (hf : firstRefused (refusesTWrite s.ctrl) (namedAddrs w.toReadReq) = some (k, a)) :
    tWrite w s = answerT .refuse (logFault k .portT a s) := by
  simp [tWrite, h.1, h.2, hb, hf]

theorem pRead_of_firstRefused (h : POpen s) {r : ReadReq} (hb : badStart r.start = false)
    (hf : firstRefused (refusesRead s.ctrl) (namedAddrs r) = some (k, a)) :
    pRead r s = answerP .refuse (logFault k .portP a s) := by
  simp [pRead, h.1, h.2, hb, hf]

theorem tRead_of_firstRefused (h : TOpen s) {r : ReadReq} (hb : badStart r.start = false)
    (hf : firstRefused (refusesRead s.ctrl) (namedAddrs r) = some (k, a)) :
    tRead r s = answerT .refuse (logFault k .portT a s) := by
  simp [tRead, h.1, h.2, hb, hf]

end Judged

/-- Settles O26: the form is judged before anything else of the request. -/
theorem badFormIsRefusedBeforeAnyRegion : Obligations.BadFormIsRefusedBeforeAnyRegion := by
  refine fun s => ⟨fun w hw => ?_, fun r hr => ?_⟩
  · have hb := (badForm_iff w).mpr hw
    exact ⟨fun h => ⟨_, congrArg Host.Outcome.next (pWrite_of_badForm h hb), refusedOnP_logFault _ _ s⟩,
      fun h => ⟨_, congrArg Host.Outcome.next (tWrite_of_badForm h hb), refusedOnT_logFault _ _ s⟩⟩
  · have hb := badStart_of_unaligned hr
    exact ⟨fun h => ⟨_, congrArg Host.Outcome.next (pRead_of_badStart h hb), refusedOnP_logFault _ _ s⟩,
      fun h => ⟨_, congrArg Host.Outcome.next (tRead_of_badStart h hb), refusedOnT_logFault _ _ s⟩⟩

/-- Settles O27: after the form the words are judged, in the order in which the request names them. -/
theorem theFirstRefusedWordDecides : Obligations.TheFirstRefusedWordDecides := by
  refine fun s k a => ⟨fun w hb => ⟨fun h hf => ?_, fun h hf => ?_⟩, fun r hb hf => ⟨fun h => ?_, fun h => ?_⟩⟩
  · exact ⟨_, congrArg Host.Outcome.next (pWrite_of_firstRefused h hb hf), refusedOnP_logFault k a s⟩
  · exact ⟨_, congrArg Host.Outcome.next (tWrite_of_firstRefused h hb hf), refusedOnT_logFault k a s⟩
  · exact ⟨_, congrArg Host.Outcome.next (pRead_of_firstRefused h hb hf), refusedOnP_logFault k a s⟩
  · exact ⟨_, congrArg Host.Outcome.next (tRead_of_firstRefused h hb hf), refusedOnT_logFault k a s⟩

end Sys2Proof.Machine
end

section
/-! PROOFS. Requests that are taken into service, the gate of the T-port, and RAM's answers to them (R31, R33, R34, R39,
R122, R126). -/

namespace Sys2Proof.Machine

/-! ### The gate (R122) -/

section Gate

variable {s : State} {r : ReadReq}

theorem gate_fromSlot {data : Tbl 8 Word} {t₀ : Nat} (h : s.tone.slot = .ready r data t₀) :
    gate s r = .fromSlot data := by
  simp [gate, latched, h]

theorem gate_deferred (h : s.tone.slot = .waiting r ∨ s.tone.slot = .filling r) : gate s r = .defer false := by
  rcases h with h | h <;> simp [gate, latched, h]

theorem gate_touching (hl : latched s.tone.slot ≠ some r) (ht : touchesOpen s r = true) :
    gate s r = .defer (decide (s.tone.slot = .vacant)) := by
  simp [gate, hl, ht]

theorem gate_pass (hl : latched s.tone.slot ≠ some r) (ht : touchesOpen s r = false) : gate s r = .pass := by
  simp [gate, hl, ht]

/-- A read without a VOICES part passes, and so does one that the gate lets pass. -/
theorem gateOf_pass (h : namesArea s.ctrl .voices r = false ∨
    (latched s.tone.slot ≠ some r ∧ touchesOpen s r = false)) : gateOf s r = .pass := by
  unfold gateOf
  split
  · next hv =>
    obtain ⟨hl, ht⟩ := h.resolve_left (by simp [hv])
    exact gate_pass hl ht
  · rfl

/-! A T read that is well formed and not refused is what the gate makes of it (R22, R33). -/

section Gated

variable (h : TOpen s) (hb : badStart r.start = false)
  (hf : firstRefused (refusesRead s.ctrl) (namedAddrs r) = none)
include h hb hf

theorem tRead_fromSlot {data : Tbl 8 Word} (hg : gateOf s r = .fromSlot data) :
    tRead r s = answerTRead r data (s.setTone { s.tone with slot := .vacant }) := by
  simp [tRead, h.1, h.2, hb, hf, hg]

theorem tRead_latched (hg : gateOf s r = .defer true) :
    tRead r s = answerT .defer (s.setTone { s.tone with slot := .waiting r }) := by
  simp [tRead, h.1, h.2, hb, hf, hg]

theorem tRead_deferred (hg : gateOf s r = .defer false) : tRead r s = answerT .defer s := by
  simp [tRead, h.1, h.2, hb, hf, hg]

theorem tRead_passed (hg : gateOf s r = .pass) : tRead r s = serveT (.read r) s := by
  simp [tRead, h.1, h.2, hb, hf, hg]

end Gated

theorem tWrite_served (h : TOpen s) {w : WriteReq} (hb : badForm w = false)
    (hf : firstRefused (refusesTWrite s.ctrl) (namedAddrs w.toReadReq) = none) :
    tWrite w s = serveT (.write w) s := by
  simp [tWrite, h.1, h.2, hb, hf]

end Gate

/-- An answer with data that is no frame start does nothing else (R128). -/
theorem answerTRead_plain {s : State} {r : ReadReq} (h : isFrameStart s.ctrl r = false) (data : Tbl 8 Word) :
    answerTRead r data s = answerT (.accept (answerWords r data)) s := by
  simp [answerTRead, h]

/-- Settles O34: the rows of R122. -/
theorem theGateDecidesTReads : Obligations.TheGateDecidesTReads := by
  refine fun s h => ⟨fun r hb hf => ⟨fun hv => ?_, fun hp => ?_⟩,
    fun w hb hf => congrArg Host.Outcome.next (tWrite_served h hb hf)⟩
  · have hg : gateOf s r = gate s r := if_pos hv
    refine ⟨fun data t₀ hs hn => ?_, fun hs => ?_, fun hl ht => ?_⟩
    · exact congrArg Host.Outcome.next ((tRead_fromSlot h hb hf (hg.trans (gate_fromSlot hs))).trans
        (answerTRead_plain (s := s.setTone { s.tone with slot := .vacant }) hn data))
    · exact congrArg Host.Outcome.next (tRead_deferred h hb hf (hg.trans (gate_deferred hs)))
    · have ht' := hg.trans (gate_touching hl ht)
      by_cases hs : s.tone.slot = .vacant
      · rw [if_pos hs]
        exact congrArg Host.Outcome.next (tRead_latched h hb hf (by simpa [hs] using ht'))
      · rw [if_neg hs]
        exact congrArg Host.Outcome.next (tRead_deferred h hb hf (by simpa [hs] using ht'))
  · exact congrArg Host.Outcome.next (tRead_passed h hb hf (gateOf_pass hp))

/-! ### RAM's answers (R39) -/

section Answered

variable {s : State} {a : Access}

theorem exec_pReadCompletes (h : Carries s .pRead a) (x : RamAnswer) :
    exec (.pReadCompletes x) s = .next (pReadDone x a (landed s a x.failed)) :=
  congrArg Host.Outcome.next (landing_of_carries h rfl _ _)

theorem exec_tReadCompletes (h : Carries s .tRead a) (x : RamAnswer) :
    exec (.tReadCompletes x) s = .next (tReadDone x a (landed s a x.failed)) :=
  congrArg Host.Outcome.next (landing_of_carries h rfl _ _)

theorem exec_tWriteCompletes (h : Carries s .tWrite a) (k : RamAck) :
    exec (.tWriteCompletes k) s = .next (tWriteDone k (landed s a k.failed)) :=
  congrArg Host.Outcome.next (landing_of_carries h rfl _ _)

end Answered

theorem refusedOnP_landed (s : State) {a : Access} (ho : ownPort a.owner = .portP) :
    RefusedOnP .memoryError a.req.start { s with
      player := { s.player with read := none }, arb := { s.arb with access := none } }
      (pReadDone .error a (landed s a true)) := by
  have hl := logFault_logged .memoryError .portP a.req.start (freePort s)
  refine ⟨?_, ?_, ?_, ?_, ?_, ?_⟩
  · simp [pReadDone, answerP, landed]
  · simpa [landed, ho, FaultLogged] using hl
  · simp [pReadDone, OnlyAnswered, landed]
    rfl
  all_goals simp [landed]

theorem refusedOnT_landed (s : State) {a : Access} (ho : ownPort a.owner = .portT) :
    RefusedOnT .memoryError a.req.start { s with
      tone := { s.tone with service := none, turns := s.tone.turns.tail }, arb := { s.arb with access := none } }
      (answerT .refuse (endService (landed s a true))) := by
  have hl := logFault_logged .memoryError .portT a.req.start (freePort s)
  refine ⟨?_, ?_, ?_, ?_, ?_, ?_⟩
  · simp [answerT, landed]
  · simpa [landed, ho, FaultLogged] using hl
  · simp [OnlyAnswered, landed, endService]
    rfl
  all_goals simp [landed]

/-- Settles O37, by the owner of the access and RAM's answer. -/
theorem passThroughAccessesAreAnswered : Obligations.PassThroughAccessesAreAnswered := by
  refine fun s a w => ⟨fun h => ⟨exec_pReadCompletes h _, _, exec_pReadCompletes h _, ?_⟩,
    fun h => ⟨fun hn => (exec_tReadCompletes h _).trans ?_, _, exec_tReadCompletes h _, ?_⟩,
    fun h => ⟨exec_tWriteCompletes h _, _, exec_tWriteCompletes h _, ?_⟩⟩
  · exact refusedOnP_landed s (by rw [h.2.1]; rfl)
  · exact congrArg Host.Outcome.next (answerTRead_plain (s := endService (landed s a false)) (by simpa using hn) w)
  · exact refusedOnT_landed s (by rw [h.2.1]; rfl)
  · exact refusedOnT_landed s (by rw [h.2.1]; rfl)

end Sys2Proof.Machine
end

section
/-! PROOFS. The status record as a P read finds it, and its snapshots (R31, R40, R179, R180). -/

namespace Sys2Proof.Machine

/-! ### P reads (R31, R179) -/

theorem namesArea_iff {c : Control} {x : Area} {r : ReadReq} :
    namesArea c x r = true ↔ ∃ a ∈ namedAddrs r, areaOf c a = x := by
  simp [namesArea]

theorem requestSnapshot_statusKept (s : State) : StatusKept s (requestSnapshot s) := by
  unfold requestSnapshot
  split
  · exact .refl s
  · exact ⟨rfl, rfl, rfl, rfl, rfl⟩

theorem requestSnapshot_stale (s : State) : (requestSnapshot s).stat.stale = s.stat.stale := by
  unfold requestSnapshot
  split <;> simp

section PRead

variable {s : State} {r : ReadReq} (h : POpen s) (hb : badStart r.start = false)
  (hf : firstRefused (refusesRead s.ctrl) (namedAddrs r) = none)
include h hb hf

theorem pRead_deferred (hs : namesArea s.ctrl .status r = true) (hd : statusDefers s = true) :
    pRead r s = answerP .defer (requestSnapshot s) := by
  simp [pRead, h.1, h.2, hb, hf, hs, hd]

theorem pRead_accepted (hn : ¬(namesArea s.ctrl .status r = true ∧ statusDefers s = true)) :
    pRead r s = acceptPRead r s := by
  have hn' : (namesArea s.ctrl .status r && statusDefers s) = false := by simpa using hn
  simp [pRead, h.1, h.2, hb, hf, hn']

end PRead

/-- An accepted P read waits, and one of the status record uses up the fresh pass. -/
theorem acceptPRead_eq (r : ReadReq) (s : State) : acceptPRead r s = { s with
    player := { s.player with read := some r }
    ports := { s.ports with pAnswer := none }
    stat := { s.stat with freshPass := s.stat.freshPass && !namesArea s.ctrl .status r } } := by
  unfold acceptPRead
  cases namesArea s.ctrl .status r <;> simp [State.setPlayer, State.setPorts, State.setStat]

/-! ### Snapshot accesses (R180) -/

section Snapshot

variable {s : State} {n : Snapshot} (h : s.stat.snapshot = some n)
include h

theorem snapshotLanded_next (hn : n.next ≠ 3) : snapshotLanded s =
    s.setStat { s.stat with snapshot := some { n with next := n.next + 1 } } := by
  simp [snapshotLanded, h, hn]

theorem snapshotLanded_last (hn : n.next = 3) : snapshotLanded s = s.setStat { s.stat with
    stale := s.stat.stale && s.stat.changed, freshPass := true, snapshot := none } := by
  simp only [snapshotLanded, h, hn, if_true]
  cases s.stat.changed <;> simp

end Snapshot

theorem snapshotLanded_statusKept (s : State) : StatusKept s (snapshotLanded s) := by
  unfold snapshotLanded
  split
  · exact .refl s
  · split
    · exact ⟨rfl, rfl, rfl, rfl, rfl⟩
    · exact ⟨rfl, rfl, rfl, rfl, rfl⟩

theorem exec_snapshotAccessLands {s : State} {a : Access} (h : Carries s .snapshot a) (k : RamAck) :
    exec (.snapshotAccessLands k) s = .next (snapshotLanded (landed s a k.failed)) :=
  congrArg Host.Outcome.next (landing_of_carries h rfl _ _)

/-- The error of a landed access is logged with its owner's port. -/
theorem landed_faultLogged (s : State) {a : Access} {p : PortId} (ho : ownPort a.owner = p) :
    FaultLogged .memoryError p a.req.start s (landed s a true) := by
  subst ho
  exact logFault_logged .memoryError _ a.req.start (freePort s)

theorem landed_snapshot (s : State) (a : Access) (e : Bool) : (landed s a e).stat.snapshot = s.stat.snapshot := by
  cases e <;> simp [landed]

/-- The change-since-image mark, once set, stays set through a report. -/
theorem report_changed {a b : State} (h : b.stat.changed = true) : (report a b).stat.changed = true := by
  unfold report
  split
  · exact h
  · rfl

/-- A fault that is counted changes the status record (R179, R180, R181). -/
theorem logFault_marks (k : FaultKind) (p : PortId) (a : Addr) {s : State} (h : s.stat.faultCount < 65535) :
    (logFault k p a s).stat.stale = true ∧ (logFault k p a s).stat.changed = true := by
  have hc : ∀ st : Status, st.faultCount = bump s.stat.faultCount →
      statusView s ≠ statusView (s.setStat st) := fun st hst he => by
    have hv : s.stat.faultCount = st.faultCount := congrArg StatusView.faultCount he
    rw [hst, bump_eq, if_pos h] at hv
    omega
  exact ⟨report_stale (report_stale_of_change (hc _ rfl)), report_changed (report_changed_of_change (hc _ rfl))⟩

/-- Settles O33: the table of R179, and the four accesses of R180. -/
theorem theStatusRecordIsReadThroughSnapshots : Obligations.TheStatusRecordIsReadThroughSnapshots := by
  refine ⟨fun s r h hb hf => ⟨fun hs hstale hpass => ?_, fun hn => ?_⟩, fun s k a n hc hn => ?_⟩
  · have hd : statusDefers s = true := by simp [statusDefers, hstale, hpass]
    refine ⟨_, congrArg Host.Outcome.next (pRead_deferred h hb hf (namesArea_iff.mpr hs) hd), ?_, ?_, ?_, ?_,
      fun hno => ?_, fun hsome => ?_⟩
    · simp [answerP]
    · simp [OnlyAnswered]
    · rw [answerP_stat, requestSnapshot_stale, hstale]
    · exact (requestSnapshot_statusKept s).trans (.of_stat (answerP_stat _ _))
    · simp [requestSnapshot, hno]
    · simp [requestSnapshot, Option.isSome_iff_ne_none.mpr hsome]
  · have hn' : ¬(namesArea s.ctrl .status r = true ∧ statusDefers s = true) := by
      rintro ⟨hs, hd⟩
      simp only [statusDefers, Bool.and_eq_true, Bool.not_eq_true'] at hd
      exact hn ⟨namesArea_iff.mp hs, hd⟩
    refine ⟨_, congrArg Host.Outcome.next (pRead_accepted h hb hf hn'), ?_⟩
    rw [acceptPRead_eq]
    have hs : namesArea s.ctrl .status r = decide (∃ a ∈ namedAddrs r, areaOf s.ctrl a = .status) := by
      rw [Bool.eq_iff_iff, namesArea_iff, decide_eq_true_eq]
    rw [hs]
  · have hsnap : (landed s a k.failed).stat.snapshot = some n := (landed_snapshot s a _).trans hn
    have hport : ownPort a.owner = .bridge := by rw [hc.2.1]; rfl
    refine ⟨_, exec_snapshotAccessLands hc k, by simp, fun hne => ?_, fun h3 => ?_, fun hk => ?_, ?_⟩
    · rw [snapshotLanded_next hsnap hne]
      exact ⟨rfl, fun hk => by subst hk; rfl⟩
    · rw [snapshotLanded_last hsnap h3]
      refine ⟨rfl, rfl, fun hk => by subst hk; rfl, fun hk hlt => ?_⟩
      subst hk
      obtain ⟨hst, hch⟩ := logFault_marks .memoryError (ownPort a.owner) a.req.start (s := freePort s) hlt
      exact Bool.and_eq_true_iff.mpr ⟨hst, hch⟩
    · subst hk
      exact (landed_faultLogged s hport).trans_kept (snapshotLanded_statusKept _)
    · simp [landed]

end Sys2Proof.Machine
end

section
/-! PROOFS. A P write that lands: the queue, the argument read, and a pending swap in TRANSPARENT (R30, R39, R153, R154,
R168). -/

namespace Sys2Proof.Machine

/-! ### The argument read (R168) -/

/-- The fetcher chooses the argument read only where it has been requested (R82). -/
theorem argRead_of_requested {s : State} (h : FetchKind.argument ∈ requested s) : s.ctrl.argRead = .requested := by
  simp only [requested, reloads, List.mem_append, Option.mem_toList, List.mem_map, Option.map_eq_some_iff] at h
  rcases h with (h | ⟨i, -, h⟩) | ⟨q, -, h⟩
  · unfold controlRead at h
    split at h
    · simp at h
    · simp at h
    · split at h
      · assumption
      · simp at h
  · simp at h
  · cases q <;> simp [EngReq.kind] at h

theorem chooseFetch_argRead_eq_none (s : State) : (chooseFetch s).ctrl.argRead = .none ↔ s.ctrl.argRead = .none := by
  unfold chooseFetch
  split
  · rfl
  · split
    · rfl
    · next k hk =>
      cases k with
      | argument => simp [noteChosen, argRead_of_requested (List.mem_of_find?_eq_some hk)]
      | entry | program | reload | descriptor | sections => rfl

theorem argumentNearer_ctrl (s : State) : (argumentNearer s).ctrl = { s.ctrl with
    argRead := (argumentNearer s).ctrl.argRead, argAhead := (argumentNearer s).ctrl.argAhead } := by
  unfold argumentNearer
  split <;> rfl

theorem argumentNearer_waiting {s : State} (hc : s.ctrl.command.isSome = true) (ha : s.ctrl.argRead = .none) :
    (argumentNearer s).ctrl.argAhead = s.ctrl.argAhead - 1 ∧
    ((argumentNearer s).ctrl.argRead = .none ↔ 1 < s.ctrl.argAhead) := by
  unfold argumentNearer
  rw [if_pos ⟨hc, ha⟩]
  refine ⟨rfl, ?_⟩
  show (if s.ctrl.argAhead ≤ 1 then ArgRead.requested else .none) = .none ↔ _
  split <;> simp <;> omega

/-! ### The swap (R153, R154) -/

theorem holdsBank_congr {s t : State} (hp : t.player = s.player) (hd : t.ctrl.desc = s.ctrl.desc) (b : Bank) :
    holdsBank t b = holdsBank s b := by
  simp only [holdsBank, Control.copy, hp, hd]

theorem namedBank_congr {c c' : Control} (hd : c'.desc = c.desc) (b : Bank) (w : WriteReq) :
    namedBank c' b w = namedBank c b w := by
  simp only [namedBank, Control.copy, hd]

section SwapLanding

variable {s : State} {w : WriteReq}

/-- Where the landing gives no reason to take the swap, nothing happens. -/
theorem testSwapLanding_kept (h : ∀ x, s.ctrl.swap = some x → s.ctrl.op ≠ .transparent ∨ x.taken = true ∨
    namedBank s.ctrl x.incoming w = false ∨ holdsBank s x.incoming = true) : testSwapLanding w s = s := by
  unfold testSwapLanding
  split
  · next x hx =>
    split
    · next ht =>
      unfold testSwap
      rw [hx]
      rcases h x hx with h | h | h | h
      · exact absurd ht.1 h
      · simp [h]
      · simp [h] at ht
      · simp [h]
    · rfl
  · rfl

/-- The swap that a landing takes completes at once (R154). -/
theorem testSwapLanding_taken {x : Swap} (hx : s.ctrl.swap = some x) (ho : s.ctrl.op = .transparent)
    (ht : x.taken = false) (hn : namedBank s.ctrl x.incoming w = true) (hh : holdsBank s x.incoming = false) :
    testSwapLanding w s = completeSwap (report s (s.setCtrl { s.ctrl with bank := x.incoming })) := by
  simp [testSwapLanding, testSwap, takeSwap, hx, ho, ht, hn, hh]

/-- A landing takes the pending swap or leaves everything as it is. -/
theorem testSwapLanding_cases (w : WriteReq) (s : State) : testSwapLanding w s = s ∨
    ∃ x : Swap, testSwapLanding w s = completeSwap (report s (s.setCtrl { s.ctrl with bank := x.incoming })) := by
  by_cases h : ∃ x, s.ctrl.swap = some x ∧ s.ctrl.op = .transparent ∧ x.taken = false ∧
      namedBank s.ctrl x.incoming w = true ∧ holdsBank s x.incoming = false
  · obtain ⟨x, hx, ho, ht, hn, hh⟩ := h
    exact .inr ⟨x, testSwapLanding_taken hx ho ht hn hh⟩
  · refine .inl (testSwapLanding_kept fun x hx => ?_)
    by_contra hno
    simp only [not_or, not_not, Bool.not_eq_true, Bool.not_eq_false] at hno
    exact h ⟨x, hx, hno⟩

@[simp] theorem testSwapLanding_eng : (testSwapLanding w s).eng = s.eng := by
  rcases testSwapLanding_cases w s with h | ⟨x, h⟩ <;> simp [h]

@[simp] theorem testSwapLanding_faultLog : (testSwapLanding w s).stat.faultLog = s.stat.faultLog := by
  rcases testSwapLanding_cases w s with h | ⟨x, h⟩ <;> simp [h]

theorem testSwapLanding_flag_fault (h : s.stat.flags.getLsbD 0 = true) :
    (testSwapLanding w s).stat.flags.getLsbD 0 = true := by
  rcases testSwapLanding_cases w s with e | ⟨x, e⟩ <;> simp [e, h]

theorem testSwapLanding_argument : (testSwapLanding w s).ctrl.argRead = s.ctrl.argRead ∧
    (testSwapLanding w s).ctrl.argAhead = s.ctrl.argAhead := by
  rcases testSwapLanding_cases w s with h | ⟨x, h⟩ <;> simp [h]

theorem testSwapLanding_desc : (testSwapLanding w s).ctrl.desc = s.ctrl.desc := by
  rcases testSwapLanding_cases w s with h | ⟨x, h⟩ <;> simp [h]

end SwapLanding

/-! ### The landing (R30) -/

theorem exec_pWriteLands {s : State} {a : Access} (h : Carries s .pWrite a) (k : RamAck) :
    exec (.pWriteLands k) s = .next (pWriteLanded a (landed s a k.failed)) :=
  congrArg Host.Outcome.next (landing_of_carries h rfl _ _)

/-- The state in which the landing of a P write tests the pending swap. -/
def pWriteOff (s : State) : State := argumentNearer (s.setPlayer { s.player with writes := s.player.writes.tail })

theorem pWriteLanded_eq (a : Access) (s : State) :
    pWriteLanded a s = chooseFetch (testSwapLanding a.req (pWriteOff s)) := rfl

@[simp] theorem pWriteOff_player (s : State) :
    (pWriteOff s).player = { s.player with writes := s.player.writes.tail } := by simp [pWriteOff]

@[simp] theorem pWriteOff_eng (s : State) : (pWriteOff s).eng = s.eng := by simp [pWriteOff]

@[simp] theorem pWriteOff_map (s : State) : (pWriteOff s).map = s.map := by simp [pWriteOff]

@[simp] theorem pWriteOff_stat (s : State) : (pWriteOff s).stat = s.stat := by simp [pWriteOff]

theorem pWriteOff_ctrl (s : State) : (pWriteOff s).ctrl = { s.ctrl with
    argRead := (pWriteOff s).ctrl.argRead, argAhead := (pWriteOff s).ctrl.argAhead } := argumentNearer_ctrl _

theorem pWriteOff_waiting {s : State} (hc : s.ctrl.command.isSome = true) (ha : s.ctrl.argRead = .none) :
    (pWriteOff s).ctrl.argAhead = s.ctrl.argAhead - 1 ∧
    ((pWriteOff s).ctrl.argRead = .none ↔ 1 < s.ctrl.argAhead) :=
  argumentNearer_waiting (s := s.setPlayer _) hc ha

/-- Settles O36: the landing takes the swap that the write was waited for, or leaves it. -/
theorem pWritesLeaveTheQueueWhenTheyLand : Obligations.PWritesLeaveTheQueueWhenTheyLand := by
  intro s k a h
  rw [exec_pWriteLands h]
  refine ⟨_, rfl, ?_⟩
  have hport : ownPort a.owner = .portP := by rw [h.2.1]; rfl
  rw [pWriteLanded_eq]
  generalize hu : pWriteOff (landed s a k.failed) = u
  have hctrl : u.ctrl = { s.ctrl with argRead := u.ctrl.argRead, argAhead := u.ctrl.argAhead } := by
    simpa [hu] using pWriteOff_ctrl (landed s a k.failed)
  have hstat : u.stat = (landed s a k.failed).stat := by rw [← hu, pWriteOff_stat]
  have hplayer : u.player = { s.player with writes := s.player.writes.tail } := by simp [← hu]
  have hop : u.ctrl.op = s.ctrl.op := by rw [hctrl]
  have hswap : u.ctrl.swap = s.ctrl.swap := by rw [hctrl]
  have hnamed (b : Bank) : namedBank u.ctrl b a.req = namedBank s.ctrl b a.req := namedBank_congr (by rw [hctrl]) b _
  have hholds (b : Bank) : holdsBank (chooseFetch (testSwapLanding a.req u)) b = holdsBank u b :=
    holdsBank_congr (by simp) (by rw [chooseFetch_ctrl_desc, testSwapLanding_desc]) b
  have hlog (hk : k = .error) : FaultLogged .memoryError .portP a.req.start s u := by
    subst hk
    exact (landed_faultLogged s hport).trans_kept (.of_stat hstat)
  have hdone (hk : k = .done) : u.stat = s.stat := by
    subst hk
    exact hstat
  refine ⟨by simp [hplayer], ?_, ?_, ?_, ?_, ?_, ?_, ?_, ?_, fun hk => ?_, fun hk => ?_, fun hc ha => ?_,
    fun x hx ho ht hn hh => ?_, fun hno => ?_⟩
  · simp [← hu, pWriteOff, landed]
  · simp [← hu, pWriteOff]
  · simp [← hu]
  · simp [← hu, pWriteOff]
  · simp [← hu, pWriteOff]
  · simp [← hu, pWriteOff]
  · simp [← hu, pWriteOff]
  · simp [← hu, CachesKept]
  · obtain ⟨-, hl, -, hf⟩ := hlog hk
    refine ⟨by simpa using hl, ?_⟩
    rw [chooseFetch_stat]
    exact testSwapLanding_flag_fault (by simp [hf])
  · simp [hdone hk]
  · have hoff := pWriteOff_waiting (s := landed s a k.failed) (by simpa using hc) (by simpa using ha)
    have hargs := testSwapLanding_argument (s := u) (w := a.req)
    rw [chooseFetch_argRead_eq_none, chooseFetch_ctrl_argAhead, hargs.1, hargs.2, ← hu]
    simpa using hoff
  · rw [testSwapLanding_taken (hswap.trans hx) (hop.trans ho) ht ((hnamed _).trans hn) ((hholds _).symm.trans hh)]
    simp
  · have hkept : testSwapLanding a.req u = u := testSwapLanding_kept fun x hx => by
      rw [hop, hnamed, ← hholds]
      exact hno x (hswap.symm.trans hx)
    rw [hkept]
    refine ⟨?_, fun hk => ?_, fun hk => ?_⟩
    · rw [chooseFetch_ctrl, hctrl]
    · rw [chooseFetch_stat, hdone hk]
    · exact (hlog hk).trans_kept (statusKept_chooseFetch u)

end Sys2Proof.Machine
end

section
/-! PROOFS. Voice writes that land, and groups that close or turn LATE (R40, R116, R118, R120, R124). -/

namespace Sys2Proof.Machine

/-! ### The held read that the groups let go (R124) -/

theorem touchesOpen_congr {s t : State} (hg : t.voice.groups = s.voice.groups) (hd : t.ctrl.desc = s.ctrl.desc)
    (r : ReadReq) : touchesOpen t r = touchesOpen s r := by
  simp only [touchesOpen, Control.copy, hg, hd]

theorem fillsWhenFree_tryFill {s u : State} (h : u.tone = s.tone) : FillsWhenFree s (tryFill u) := by
  have ht (r : ReadReq) : touchesOpen (tryFill u) r = touchesOpen u r := touchesOpen_congr (by simp) (by simp) r
  unfold FillsWhenFree
  cases hs : s.tone.slot with
  | waiting r =>
    simp only [ht]
    unfold tryFill
    simp only [h, hs]
    split
    · rfl
    · exact h
  | vacant | filling | ready => simp [tryFill, h, hs]

/-! ### Landings (R116, R118) -/

theorem landTag_eq (tag : Option Nat) (v : VoiceWriter) : landTag tag v = { v with
    groups := v.groups.map fun g => if tag = some g.tag then { g with notLanded := g.notLanded - 1 } else g } := by
  cases tag with
  | none => simp [landTag]
  | some n => simp [landTag, eq_comm]

theorem not_closable (g : Group) : (!g.closable) = (g.filling || decide (g.notLanded ≠ 0)) := by
  unfold Group.closable
  cases g.filling <;> by_cases h : g.notLanded = 0 <;> simp [h]

theorem voiceLanded_cons {s : State} {v : VoiceWrite} {vs : List VoiceWrite} (h : s.voice.queue = v :: vs) :
    voiceLanded s = closeGroups (s.setVoice (landTag v.tag { s.voice with queue := vs })) := by
  simp [voiceLanded, h]

theorem exec_voiceWriteLands {s : State} {a : Access} (h : Carries s .voice a) (k : RamAck) :
    exec (.voiceWriteLands k) s = .next (voiceLanded (landed s a k.failed)) :=
  congrArg Host.Outcome.next (landing_of_carries h rfl _ _)

/-! ### LATE (R120) -/

/-- The groups ahead of the oldest OPEN one are LATE. -/
theorem oldestOpen_eq {v : VoiceWriter} {before after : List Group} {g : Group} (h : v.groups = before ++ g :: after)
    (hg : g.late = false) (hb : ∀ x ∈ before, x.late = true) : oldestOpen v = some g := by
  unfold oldestOpen
  rw [h, List.find?_append, List.find?_eq_none.mpr fun x hx => by simp [hb x hx]]
  simp [hg]

theorem markLate_eq {before after : List Group} {g : Group} (hg : g.late = false) (hb : ∀ x ∈ before, x.late = true) :
    markLate (before ++ g :: after) = before ++ { g with late := true } :: after := by
  induction before with
  | nil => simp [markLate, hg]
  | cons x before ih =>
    obtain ⟨hx, hb⟩ := List.forall_mem_cons.mp hb
    simp [markLate, hx, ih hb]

theorem exec_groupLate {s : State} {g : Group} (h : oldestOpen s.voice = some g) :
    exec .groupLate s = .next (groupLate g s) := by
  show execGroupLate s = _
  rw [execGroupLate, h]

/-- Settles O38: the landing counts and closes, and LATE falls on the oldest OPEN group. -/
theorem groupsCloseAndTurnLate : Obligations.GroupsCloseAndTurnLate := by
  refine ⟨fun s k a v vs h hq => ?_, fun s before after g hs hg hb => ?_⟩
  · have hq' : (landed s a k.failed).voice.queue = v :: vs := by simpa using hq
    have hport : ownPort a.owner = .bridge := by rw [h.2.1]; rfl
    refine ⟨_, exec_voiceWriteLands h k, ?_⟩
    rw [voiceLanded_cons hq', landTag_eq]
    refine ⟨?_, fillsWhenFree_tryFill (by simp), by simp, by simp, by simp, by simp, by simp, by simp, by simp, ?_,
      fun hk => ?_, fun hk => ?_⟩
    · simp [not_closable]
    · simp [landed]
    · subst hk
      simp [landed, RamAck.failed]
    · subst hk
      exact (landed_faultLogged s hport).trans_kept (.of_stat (closeGroups_stat _))
  · refine ⟨_, exec_groupLate (oldestOpen_eq hs hg hb), ?_⟩
    unfold groupLate
    dsimp only []
    refine ⟨?_, ?_, ?_, ?_, fillsWhenFree_tryFill ?_, ?_⟩
    · simp [reachTime, hs, markLate_eq hg hb]
    · simp [reachTime]
    · simp [reachTime]
      rfl
    · simp [reachTime, flagGroupLate]
    · simp [reachTime]
    · simp [reachTime]

end Sys2Proof.Machine
end

section
/-! PROOFS. The parts of an accepted P write, announced one after another, where no command is taken (R24, R28). -/

namespace Sys2Proof.Machine

/-! ### What every announcement but a command's leaves -/

/-- What the announcement of a part leaves alone, when no command is taken. -/
structure PartKept (s t : State) : Prop where
  ctrl : t.ctrl = s.ctrl
  player : t.player = s.player
  ports : t.ports = s.ports
  eng : t.eng = s.eng
  beside : PortsKept s t
  status : StatusKept s t
  opcode : t.stat.lastOpcode = s.stat.lastOpcode
  result : t.stat.result = s.stat.result
  count : t.stat.cmdCount = s.stat.cmdCount

namespace PartKept

variable {s t u : State}

theorem of_eq (h : t = s) : PartKept s t := by
  subst h
  exact ⟨rfl, rfl, rfl, rfl, ⟨rfl, rfl, rfl, rfl, rfl⟩, .refl t, rfl, rfl, rfl⟩

theorem trans (h : PartKept s t) (k : PartKept t u) : PartKept s u where
  ctrl := k.ctrl.trans h.ctrl
  player := k.player.trans h.player
  ports := k.ports.trans h.ports
  eng := k.eng.trans h.eng
  beside := by
    obtain ⟨h₁, h₂, h₃, h₄, h₅⟩ := h.beside
    obtain ⟨k₁, k₂, k₃, k₄, k₅⟩ := k.beside
    exact ⟨k₁.trans h₁, k₂.trans h₂, k₃.trans h₃, k₄.trans h₄, k₅.trans h₅⟩
  status := h.status.trans k.status
  opcode := k.opcode.trans h.opcode
  result := k.result.trans h.result
  count := k.count.trans h.count

end PartKept

/-- A report of a change of the scan monitor or the tracker leaves alone what a part leaves alone. -/
theorem partKept_report {s t : State} (h : PartKept s t) (a : State) : PartKept s (report a t) :=
  h.trans (by constructor <;> simp [PortsKept, StatusKept])

theorem partKept_setScan (x : Scan) (s : State) : PartKept s (s.setScan x) := by
  constructor <;> simp [PortsKept, StatusKept]

theorem partKept_setBellows (x : Bellows) (s : State) : PartKept s (s.setBellows x) := by
  constructor <;> simp [PortsKept, StatusKept]

theorem announceScan_partKept (ws : List NamedWord) (s : State) : PartKept s (announceScan ws s) := by
  unfold announceScan
  dsimp only []
  have hb : PartKept s ((buttonChanges s.ctrl.copy ws).foldl
      (fun t x => report t (t.setScan (t.scan.apply t.ctrl.op (hushPinActive t.ctrl) x)))
      (s.setScan { s.scan with silence := 0 })) :=
    foldl_keeps (P := PartKept s) _ _ (fun t x h => partKept_report (h.trans (partKept_setScan _ t)) t) _
      (partKept_setScan _ s)
  split
  · exact hb
  · exact partKept_report (hb.trans (partKept_setBellows _ _)) _

theorem announceMap_partKept (b : Bank) (ws : List NamedWord) (s : State) : PartKept s (announceMap b ws s) := by
  constructor <;> simp [PortsKept, StatusKept]

theorem announceSections_partKept (ws : List NamedWord) (s : State) : PartKept s (announceSections ws s) := by
  constructor <;> simp [PortsKept, StatusKept]

/-- A part of the command slot without all four bytes of word 0 gives no command (R165). -/
theorem announceCommand_none {ws : List NamedWord} {s : State}
    (h : ∀ x ∈ ws, x.addr = controlAddr s.ctrl Config.commandOffset → x.mask ≠ 0xF) : announceCommand ws s = s := by
  unfold announceCommand
  dsimp only []
  rw [List.find?_eq_none.mpr fun x hx => by simpa using h x hx]

/-! ### The parts in their order -/

theorem mem_areasInOrder_of_mem {c : Control} {as : List Addr} {a : Addr} (h : a ∈ as) :
    areaOf c a ∈ areasInOrder c as := by
  have key : ∀ (l acc : List Area) (x : Area), x ∈ acc ∨ x ∈ l →
      x ∈ l.foldl (fun acc y => if acc.contains y then acc else acc ++ [y]) acc := by
    intro l
    induction l with
    | nil => exact fun acc x h => h.elim id (absurd · List.not_mem_nil)
    | cons y l ih =>
      intro acc x h
      refine ih _ x ?_
      dsimp only []
      split
      · next hc =>
        refine h.elim .inl fun hm => (List.mem_cons.mp hm).elim (fun e => .inl ?_) .inr
        subst e
        simpa using hc
      · refine h.elim (fun hm => .inl (by simp [hm])) fun hm => ?_
        exact (List.mem_cons.mp hm).elim (fun e => .inl (by simp [e])) .inr
  exact key _ _ _ (.inr (List.mem_map_of_mem h))

/-- The areas of the parts of a write (R24). -/
def partAreas (s : State) (w : WriteReq) : List Area := areasInOrder s.ctrl ((namedWords w).map (·.addr))

theorem mem_partAreas {s : State} {w : WriteReq} {x : Area} :
    x ∈ partAreas s w ↔ ∃ v ∈ namedWords w, areaOf s.ctrl v.addr = x := by
  constructor
  · intro h
    obtain ⟨a, ha, hx⟩ := mem_areasInOrder h
    obtain ⟨v, hv, rfl⟩ := List.mem_map.mp ha
    exact ⟨v, hv, hx⟩
  · rintro ⟨v, hv, rfl⟩
    exact mem_areasInOrder_of_mem (List.mem_map_of_mem hv)

/-- An accepted P write, with its parts announced. -/
def announced (w : WriteReq) (s : State) : State :=
  (partAreas s w).foldl (fun t x => announce x (partOf s.ctrl x (namedWords w)) t) (accepted w s)

theorem exec_pWrite_accepted {s : State} {w : WriteReq} (h : PAccepts s w) :
    exec (.pWrite w) s = .next (chooseFetch (announced w s)) := congrArg Host.Outcome.next (pWrite_accepted h)

section Announced

variable {s : State} {w : WriteReq} (hn : TakesNoCommand s w)
include hn

theorem announce_command_part {t : State} (ht : t.ctrl = s.ctrl) :
    announce .command (partOf s.ctrl .command (namedWords w)) t = t := by
  refine announceCommand_none fun x hx ha => ?_
  rw [ht] at ha
  exact hn x (List.mem_of_mem_filter hx) ha

theorem announce_partKept (x : Area) {t : State} (ht : t.ctrl = s.ctrl) :
    PartKept t (announce x (partOf s.ctrl x (namedWords w)) t) := by
  cases x with
  | scan => exact announceScan_partKept _ t
  | mapA => exact announceMap_partKept .bankA _ t
  | mapB => exact announceMap_partKept .bankB _ t
  | sections => exact announceSections_partKept _ t
  | command => exact .of_eq (announce_command_part hn ht)
  | descriptor | spareLow | status | spareHigh | programs | voices | ram | beyond | other => exact .of_eq rfl

/-- What holds of the accepted write with no part announced, and is carried on by each part in its turn, holds with all
of them announced: `P l t` speaks of the state `t` after the parts of the areas `l`. -/
theorem announced_induction {P : List Area → State → Prop} (hnil : P [] (accepted w s))
    (hpart : ∀ l x t, PartKept (accepted w s) t → x ∉ l → P l t →
      P (l ++ [x]) (announce x (partOf s.ctrl x (namedWords w)) t)) : P (partAreas s w) (announced w s) := by
  have key : ∀ rest before t, (before ++ rest).Nodup → PartKept (accepted w s) t → P before t →
      P (before ++ rest) (rest.foldl (fun t x => announce x (partOf s.ctrl x (namedWords w)) t) t) := by
    intro rest
    induction rest with
    | nil =>
      intro before t _ _ h
      rwa [List.append_nil]
    | cons x rest ih =>
      intro before t hnd hk h
      have hx : x ∉ before := fun hm => by
        have := (List.nodup_append.mp hnd).2.2 x hm x (.head _)
        exact this rfl
      have := ih (before ++ [x]) _ (by simpa using hnd)
        (hk.trans (announce_partKept hn x (hk.ctrl.trans (accepted_ctrl w s)))) (hpart before x t hk hx h)
      simpa using this
  exact key _ [] _ (areasInOrder_nodup _ _) (.of_eq rfl) hnil

theorem announced_partKept : PartKept (accepted w s) (announced w s) :=
  announced_induction hn (P := fun _ t => PartKept (accepted w s) t) (.of_eq rfl) fun _ x _ hk _ _ =>
    hk.trans (announce_partKept hn x (hk.ctrl.trans (accepted_ctrl w s)))

/-- What an accepted P write that takes no command leaves, whatever it names: it is posted and answered, and only the
scan monitor, the tracker, the caches and the two marks of the status record have changed. -/
theorem posted_announced : Posted w s (chooseFetch (announced w s)) ∧ PortsKept s (chooseFetch (announced w s)) ∧
    ControlKept s (chooseFetch (announced w s)) ∧ (chooseFetch (announced w s)).eng = s.eng ∧
    StatusKept s (chooseFetch (announced w s)) := by
  have hk := announced_partKept hn
  refine ⟨⟨?_, ?_⟩, ?_, controlKept_chooseFetch (hk.ctrl.trans (accepted_ctrl w s)), ?_, ?_⟩
  · rw [chooseFetch_player, hk.player, accepted_player]
  · rw [chooseFetch_ports, hk.ports, accepted_ports]
  · obtain ⟨h₁, h₂, h₃, h₄, h₅⟩ := hk.beside
    simp [PortsKept, h₁, h₂, h₃, h₄, h₅]
  · rw [chooseFetch_eng, hk.eng, accepted_eng]
  · exact ((StatusKept.of_stat (accepted_stat w s)).trans hk.status).trans (statusKept_chooseFetch _)

/-- A block that no named area but SCAN moves. -/
theorem announced_of_not_scan (h : ∀ v ∈ namedWords w, areaOf s.ctrl v.addr ≠ .scan) :
    (announced w s).scan = s.scan ∧ (announced w s).bellows = s.bellows ∧ (announced w s).stat = s.stat := by
  have hno : Area.scan ∉ partAreas s w := fun hm => by
    obtain ⟨v, hv, he⟩ := mem_partAreas.mp hm
    exact h v hv he
  refine announced_induction hn (P := fun l t => .scan ∉ l →
    t.scan = s.scan ∧ t.bellows = s.bellows ∧ t.stat = s.stat) (fun _ => by simp) ?_ hno
  intro l x t hk _ ih hno
  have ht : t.ctrl = s.ctrl := hk.ctrl.trans (accepted_ctrl w s)
  have ih := ih fun hm => hno (by simp [hm])
  cases x with
  | scan => exact absurd (by simp) hno
  | command => rwa [announce_command_part hn ht]
  | mapA | mapB | sections => simpa [announce] using ih
  | descriptor | spareLow | status | spareHigh | programs | voices | ram | beyond | other => exact ih

end Announced

end Sys2Proof.Machine
end

section
/-! PROOFS. The map banks and SECTIONS under an accepted P write (R28, R78, R79, R86). -/

namespace Sys2Proof.Machine

/-! ### An entry written (R78, R79) -/

/-- A fetch after writes to the entries that `named` picks: one of them that holds the M-port is overtaken (R79). -/
def overtakenBy (granted : Bool) (named : Bank → Pos → Bool) (f : Fetch) : Fetch :=
  { f with overtaken := f.overtaken || (match f.kind with
      | .entry b p => named b p && granted
      | _ => false) }

@[simp] theorem overtakenBy_kind (g : Bool) (n : Bank → Pos → Bool) (f : Fetch) : (overtakenBy g n f).kind = f.kind :=
  rfl

theorem overtakenBy_or (g : Bool) (m n : Bank → Pos → Bool) (f : Fetch) :
    overtakenBy g n (overtakenBy g m f) = overtakenBy g (fun b p => m b p || n b p) f := by
  obtain ⟨k, o, i⟩ := f
  cases k with
  | entry b p => simp [overtakenBy, Bool.or_assoc, Bool.and_or_distrib_right]
  | program | reload | argument | descriptor | sections => simp [overtakenBy]

theorem overtakenBy_none (g : Bool) (f : Fetch) : overtakenBy g (fun _ _ => false) f = f := by
  obtain ⟨k, o, i⟩ := f
  cases k <;> simp [overtakenBy]

theorem overtake_fetch (n : Bank → Pos → Bool) (s : State) :
    (overtake n s).map.fetch = s.map.fetch.map (overtakenBy (fetchGranted s) n) := by
  unfold overtake
  split
  · next f hf =>
    rw [hf]
    obtain ⟨k, o, i⟩ := f
    cases k with
    | entry b p =>
      dsimp only []
      split
      · next hc =>
        obtain ⟨hg, hn⟩ := Bool.and_eq_true_iff.mp hc
        simp [overtakenBy, hg, hn]
      · next hc =>
        have hc' : (n b p && fetchGranted s) = false := by rw [Bool.and_comm]; simpa using hc
        simp [overtakenBy, hf, hc']
    | program | reload | argument | descriptor | sections => simp [overtakenBy, hf]
  · next hf => simp [hf]

@[simp] theorem overtake_cache (n : Bank → Pos → Bool) (s : State) : (overtake n s).map.cache = s.map.cache := by
  unfold overtake
  repeat' split
  all_goals rfl

@[simp] theorem overtake_sects (n : Bank → Pos → Bool) (s : State) : (overtake n s).map.sects = s.map.sects := by
  unfold overtake
  repeat' split
  all_goals rfl

/-- Whether the fetch holds the M-port does not hang on its overtaken mark. -/
theorem fetchGranted_of_overtaken {s t : State} {g : Bool} {n : Bank → Pos → Bool} (ha : t.arb = s.arb)
    (hf : t.map.fetch = s.map.fetch.map (overtakenBy g n)) : fetchGranted t = fetchGranted s := by
  unfold fetchGranted
  rw [hf, ha]
  cases s.map.fetch <;> cases s.arb.access <;> rfl

/-- The caches and the fetch in flight after writes to the entries that `named` picks. -/
structure EntriesWritten (named : Bank → Pos → Bool) (s t : State) : Prop where
  cache : t.map.cache = s.map.cache.filter fun e => !named e.bank e.pos
  fetch : t.map.fetch = s.map.fetch.map (overtakenBy (fetchGranted s) named)
  sects : t.map.sects = s.map.sects
  arb : t.arb = s.arb

namespace EntriesWritten

variable {s t u : State} {m n : Bank → Pos → Bool}

theorem refl (s : State) : EntriesWritten (fun _ _ => false) s s where
  cache := by simp
  fetch := by cases s.map.fetch <;> simp [overtakenBy_none]
  sects := rfl
  arb := rfl

theorem trans (h : EntriesWritten m s t) (k : EntriesWritten n t u) :
    EntriesWritten (fun b p => m b p || n b p) s u where
  cache := by
    rw [k.cache, h.cache, List.filter_filter]
    exact List.filter_congr fun e _ => by rw [Bool.not_or, Bool.and_comm]
  fetch := by
    rw [k.fetch, h.fetch, fetchGranted_of_overtaken h.arb h.fetch, Option.map_map]
    congr 1
    funext f
    exact overtakenBy_or _ m n f
  sects := k.sects.trans h.sects
  arb := k.arb.trans h.arb

theorem congr (h : EntriesWritten m s t) (e : ∀ b p, m b p = n b p) : EntriesWritten n s t := by
  have : m = n := funext fun b => funext (e b)
  exact this ▸ h

end EntriesWritten

theorem writesEntry_written (b : Bank) (p : Pos) (s : State) :
    EntriesWritten (fun b' p' => decide (b' = b ∧ p' = p)) s (writesEntry b p s) where
  cache := by simp [writesEntry, evict]
  fetch := overtake_fetch _ _
  sects := by simp [writesEntry]
  arb := by simp [writesEntry]

theorem announceMap_written (b : Bank) (ws : List NamedWord) {s : State} (ho : s.ctrl.op ≠ .init) :
    EntriesWritten (fun b' p' => ws.any fun v => decide (b' = b ∧ p' = entryPos s.ctrl.copy b v.addr)) s
      (announceMap b ws s) := by
  have key : ∀ (ws : List NamedWord) (t : State), t.ctrl = s.ctrl →
      EntriesWritten (fun b' p' => ws.any fun v => decide (b' = b ∧ p' = entryPos s.ctrl.copy b v.addr)) t
        (ws.foldl (fun t v => writesEntry b (entryPos t.ctrl.copy b v.addr) t) t) := by
    intro ws
    induction ws with
    | nil => exact fun t _ => .refl t
    | cons v ws ih =>
      intro t ht
      rw [List.foldl_cons, ht]
      exact (writesEntry_written b _ t).trans (ih _ (by simpa using ht))
  unfold announceMap
  rw [if_neg ho]
  exact key ws s rfl

/-! ### A section record written (R86) -/

/-- The record of a section after a write that names it. -/
def markedRec (f : Option Fetch) (k : SectNo) (r : SectRecord) : SectRecord :=
  { r with mark := if r.mark = .clear then .set else if f.map (·.kind) = some (.reload k) then .setAgain else r.mark }

theorem markSection_get (i k : SectNo) (m : MapUnit) :
    (markSection i m).sects.get k = if i = k then markedRec m.fetch k (m.sects.get k) else m.sects.get k := by
  unfold markSection markedRec
  simp only [Tbl.get_set]
  split
  · next h =>
    subst h
    cases (m.sects.get i).mark <;> by_cases hf : m.fetch.map (·.kind) = some (.reload i) <;> simp [hf]
  · rfl

/-- The sections that a part names are marked, once each, and nothing else of the map unit changes. -/
theorem announceSections_map (ws : List NamedWord) {s : State} (ho : s.ctrl.op ≠ .init) :
    (announceSections ws s).map.cache = s.map.cache ∧ (announceSections ws s).map.fetch = s.map.fetch ∧
    ∀ k, (announceSections ws s).map.sects.get k = if k ∈ namedRecords s.ctrl.copy ws
      then markedRec s.map.fetch k (s.map.sects.get k) else s.map.sects.get k := by
  have key : ∀ (l : List SectNo) (t : State), l.Nodup → t.map.cache = s.map.cache → t.map.fetch = s.map.fetch →
      (l.foldl (fun t i => t.setMap (markSection i t.map)) t).map.cache = s.map.cache ∧
      (l.foldl (fun t i => t.setMap (markSection i t.map)) t).map.fetch = s.map.fetch ∧
      ∀ k, (l.foldl (fun t i => t.setMap (markSection i t.map)) t).map.sects.get k =
        if k ∈ l then markedRec s.map.fetch k (t.map.sects.get k) else t.map.sects.get k := by
    intro l
    induction l with
    | nil => exact fun t _ hc hf => ⟨hc, hf, fun k => by simp⟩
    | cons i l ih =>
      intro t hl hc hf
      obtain ⟨hi, hl⟩ := List.nodup_cons.mp hl
      obtain ⟨h₁, h₂, h₃⟩ := ih (t.setMap (markSection i t.map)) hl hc hf
      refine ⟨h₁, h₂, fun k => ?_⟩
      rw [List.foldl_cons, h₃ k, State.setMap_map, markSection_get, hf]
      by_cases hk : i = k
      · subst hk
        simp [hi]
      · simp [hk, Ne.symm hk]
  unfold announceSections
  rw [if_neg ho]
  exact key _ s ((List.nodup_finRange 8).filter _) rfl rfl

/-! ### All parts -/

/-- The part of a write in an area names the entry. -/
def partNames (s : State) (w : WriteReq) (x : Area) (b : Bank) (p : Pos) : Bool :=
  (partOf s.ctrl x (namedWords w)).any fun v => decide (mapArea b = x ∧ entryPos s.ctrl.copy b v.addr = p)

theorem partNames_of_other {s : State} {w : WriteReq} {x : Area} (ha : x ≠ .mapA) (hb : x ≠ .mapB) (b : Bank)
    (p : Pos) : partNames s w x b p = false := by
  have : mapArea b ≠ x := by cases b <;> exact fun h => by simp_all [mapArea]
  simp [partNames, this]

theorem any_partNames (s : State) (w : WriteReq) (b : Bank) (p : Pos) :
    ((partAreas s w).any fun x => partNames s w x b p) = namesEntry s w b p := by
  rw [Bool.eq_iff_iff]
  simp only [List.any_eq_true, partNames, partOf, namesEntry, List.mem_filter, decide_eq_true_eq]
  constructor
  · rintro ⟨x, -, v, ⟨hv, hx⟩, rfl, hp⟩
    exact ⟨v, hv, hx, hp⟩
  · rintro ⟨v, hv, hx, hp⟩
    exact ⟨_, mem_partAreas.mpr ⟨v, hv, hx⟩, v, ⟨hv, hx⟩, rfl, hp⟩

/-- The records that a SECTIONS part names are those that the write names (R86). -/
theorem mem_namedRecords {s : State} {w : WriteReq} {k : SectNo} :
    k ∈ namedRecords s.ctrl.copy (partOf s.ctrl .sections (namedWords w)) ↔ namesSection s w k = true := by
  simp only [namedRecords, namesSection, partOf, List.mem_filter, List.mem_finRange, true_and, List.any_eq_true,
    decide_eq_true_eq, and_assoc]
  refine exists_congr fun v => and_congr_right fun _ => and_congr_right fun hx => ?_
  obtain ⟨-, -, -, hw⟩ := within_of_areaOf hx
  have hw := hw rfl
  simp only [within, decide_eq_true_eq] at hw
  rw [Fin.ext_iff]
  simp only [offsetFrom, Fin.ofNat_eq_cast, Fin.val_natCast]
  omega

/-- What the parts of the areas `l` have done to the map unit. -/
structure PartsWritten (s : State) (w : WriteReq) (l : List Area) (t : State) : Prop where
  cache : t.map.cache = s.map.cache.filter fun e => !l.any fun x => partNames s w x e.bank e.pos
  fetch : t.map.fetch = s.map.fetch.map
    (overtakenBy (fetchGranted s) fun b p => l.any fun x => partNames s w x b p)
  sects : ∀ k, t.map.sects.get k = if .sections ∈ l ∧ namesSection s w k = true
    then markedRec s.map.fetch k (s.map.sects.get k) else s.map.sects.get k

namespace PartsWritten

variable {s t u : State} {w : WriteReq} {l : List Area} {x : Area}

theorem nil (h : t.map = s.map) : PartsWritten s w [] t where
  cache := by simp [h]
  fetch := by cases hf : s.map.fetch <;> simp [h, hf, overtakenBy_none]
  sects := by simp [h]

/-- A part of an area that the map unit does not watch. -/
theorem other (h : PartsWritten s w l t) (hm : u.map = t.map) (ha : x ≠ .mapA) (hb : x ≠ .mapB)
    (hs : x ≠ .sections) : PartsWritten s w (l ++ [x]) u where
  cache := by simp [hm, h.cache, partNames_of_other ha hb]
  fetch := by simp [hm, h.fetch, partNames_of_other ha hb]
  sects k := by simp [hm, h.sects k, hs.symm]

/-- A part of a map bank. -/
theorem entries (h : PartsWritten s w l t) (ha : t.arb = s.arb) (hw : EntriesWritten (partNames s w x) t u)
    (hs : x ≠ .sections) : PartsWritten s w (l ++ [x]) u where
  cache := by
    rw [hw.cache, h.cache, List.filter_filter]
    exact List.filter_congr fun e _ => by simp [Bool.and_comm]
  fetch := by
    rw [hw.fetch, h.fetch, fetchGranted_of_overtaken ha h.fetch, Option.map_map]
    congr 1
    funext f
    refine (overtakenBy_or _ _ _ f).trans ?_
    congr 1
    funext b p
    simp
  sects k := by
    rw [hw.sects, h.sects k]
    simp [hs.symm]

/-- The SECTIONS part. -/
theorem sections (h : PartsWritten s w l t) (ht : t.ctrl = s.ctrl) (ho : s.ctrl.op ≠ .init) (hx : .sections ∉ l) :
    PartsWritten s w (l ++ [.sections]) (announceSections (partOf s.ctrl .sections (namedWords w)) t) := by
  obtain ⟨hc, hf, hs⟩ := announceSections_map (partOf s.ctrl .sections (namedWords w)) (s := t) (by rwa [ht])
  have hkind : t.map.fetch.map (·.kind) = s.map.fetch.map (·.kind) := by
    rw [h.fetch, Option.map_map]
    rfl
  refine ⟨?_, ?_, fun k => ?_⟩
  · simp [hc, h.cache, partNames_of_other]
  · simp [hf, h.fetch, partNames_of_other]
  · rw [hs k, h.sects k, ht]
    simp [hx, mem_namedRecords, markedRec, hkind]

end PartsWritten

/-- What the part of a bank names is what its announcement drops. -/
theorem announceMap_partNames {s t : State} (w : WriteReq) (b : Bank) (ht : t.ctrl = s.ctrl) (ho : s.ctrl.op ≠ .init) :
    EntriesWritten (partNames s w (mapArea b)) t
      (announceMap b (partOf s.ctrl (mapArea b) (namedWords w)) t) := by
  refine (announceMap_written b _ (by rwa [ht])).congr fun b' p' => ?_
  have hb : mapArea b' = mapArea b ↔ b' = b := by cases b <;> cases b' <;> simp [mapArea]
  rw [ht]
  unfold partNames
  congr 1
  funext v
  rw [decide_eq_decide, hb]
  refine and_congr_right fun e => ?_
  rw [e, eq_comm]

/-- What all the parts of a write do to the map unit. -/
theorem announced_partsWritten {s : State} {w : WriteReq} (hn : TakesNoCommand s w) (ho : s.ctrl.op ≠ .init) :
    PartsWritten s w (partAreas s w) (announced w s) := by
  refine announced_induction hn (P := PartsWritten s w) (.nil (by simp)) fun l x t hk hx h => ?_
  have ht : t.ctrl = s.ctrl := hk.ctrl.trans (accepted_ctrl w s)
  have ha : t.arb = s.arb := hk.beside.2.2.1
  cases x with
  | mapA => exact h.entries ha (announceMap_partNames w .bankA ht ho) (by simp)
  | mapB => exact h.entries ha (announceMap_partNames w .bankB ht ho) (by simp)
  | sections => exact h.sections ht ho hx
  | command => exact h.other (by rw [announce_command_part hn ht]) (by simp) (by simp) (by simp)
  | scan => exact h.other (announceScan_map _ t) (by simp) (by simp) (by simp)
  | descriptor | spareLow | status | spareHigh | programs | voices | ram | beyond | other =>
    exact h.other rfl (by simp) (by simp) (by simp)

theorem announced_map {s : State} {w : WriteReq} (hn : TakesNoCommand s w) (ho : s.ctrl.op ≠ .init) :
    (announced w s).map.cache = s.map.cache.filter (fun e => !namesEntry s w e.bank e.pos) ∧
    (announced w s).map.fetch = s.map.fetch.map (overtakenBy (fetchGranted s) (namesEntry s w)) ∧
    ∀ k, (announced w s).map.sects.get k = if namesSection s w k = true
      then markedRec s.map.fetch k (s.map.sects.get k) else s.map.sects.get k := by
  obtain ⟨hc, hf, hs⟩ := announced_partsWritten hn ho
  simp only [any_partNames] at hc hf
  refine ⟨hc, hf, fun k => (hs k).trans (if_congr (and_iff_right_of_imp fun hk => ?_) rfl rfl)⟩
  obtain ⟨v, hv, hx⟩ := List.any_eq_true.mp hk
  exact mem_partAreas.mpr ⟨v, hv, (of_decide_eq_true hx).1⟩

/-- Settles O32: the parts in their order, and the fetcher's choice after them. -/
theorem mapAndSectionWritesReachTheCaches : Obligations.MapAndSectionWritesReachTheCaches := by
  intro s w h hn
  have ho : s.ctrl.op ≠ .init := fun e => by
    have := h.1.1
    rw [e] at this
    cases this
  obtain ⟨hc, hf, hs⟩ := announced_map hn ho
  obtain ⟨hpost, hports, hctrl, heng, hstat⟩ := posted_announced hn
  have hk := announced_partKept hn
  refine ⟨_, exec_pWrite_accepted h, hpost, ?_, fun f hfl => ?_, fun k => ?_, hports, hctrl, heng, hstat, ?_, ?_, ?_,
    fun hno => ?_⟩
  · rw [chooseFetch_cache, hc]
  · rw [hfl] at hf
    rw [chooseFetch_busy (by simp [hf]), hf]
    obtain ⟨k, o, i⟩ := f
    cases k <;> rfl
  · rw [chooseFetch_sects, hs k]
    rfl
  · simp [hk.opcode]
  · simp [hk.result]
  · simp [hk.count]
  · simpa using announced_of_not_scan hn hno

end Sys2Proof.Machine
end

section
/-! PROOFS. The button bytes of an accepted P write (R24, R28, R41, R43, R44, R45). -/

namespace Sys2Proof.Machine

/-! ### A SCAN part at the scan monitor and the tracker -/

/-- The scan monitor after a SCAN part (R43, R44, R45). -/
def scanAfter (c : Control) (ws : List NamedWord) (sc : Scan) : Scan :=
  (buttonChanges c.copy ws).foldl (Scan.apply c.op (hushPinActive c)) { sc with silence := 0 }

/-- The tracker after a SCAN part (R48, R57). -/
def bellowsAfter (c : Control) (ws : List NamedWord) (b : Bellows) : Bellows :=
  match pressureOf c.copy ws with
  | none => b
  | some p => b.sample c.copy c.op p

theorem announceScan_views (ws : List NamedWord) (s : State) :
    (announceScan ws s).scan = scanAfter s.ctrl ws s.scan ∧
    (announceScan ws s).bellows = bellowsAfter s.ctrl ws s.bellows := by
  have key : ∀ (l : List (Pos × Bool)) (t : State), t.ctrl = s.ctrl →
      (l.foldl (fun t x => report t (t.setScan (t.scan.apply t.ctrl.op (hushPinActive t.ctrl) x))) t).ctrl = s.ctrl ∧
      (l.foldl (fun t x => report t (t.setScan (t.scan.apply t.ctrl.op (hushPinActive t.ctrl) x))) t).scan =
        l.foldl (Scan.apply s.ctrl.op (hushPinActive s.ctrl)) t.scan ∧
      (l.foldl (fun t x => report t (t.setScan (t.scan.apply t.ctrl.op (hushPinActive t.ctrl) x))) t).bellows =
        t.bellows := by
    intro l
    induction l with
    | nil => exact fun t ht => ⟨ht, rfl, rfl⟩
    | cons x l ih =>
      intro t ht
      have := ih (report t (t.setScan (t.scan.apply t.ctrl.op (hushPinActive t.ctrl) x))) (by simpa using ht)
      simpa [ht] using this
  obtain ⟨hctrl, hscan, hbel⟩ := key (buttonChanges s.ctrl.copy ws) (s.setScan { s.scan with silence := 0 }) rfl
  unfold announceScan scanAfter bellowsAfter
  dsimp only []
  cases pressureOf s.ctrl.copy ws with
  | none => exact ⟨hscan, hbel⟩
  | some p =>
    refine ⟨by simpa using hscan, ?_⟩
    simp [hctrl, hbel]

/-- What the parts of a write do to the scan monitor and the tracker. -/
theorem announced_scan {s : State} {w : WriteReq} (hn : TakesNoCommand s w) (hs : .scan ∈ partAreas s w) :
    (announced w s).scan = scanAfter s.ctrl (partOf s.ctrl .scan (namedWords w)) s.scan ∧
    (announced w s).bellows = bellowsAfter s.ctrl (partOf s.ctrl .scan (namedWords w)) s.bellows := by
  have key := announced_induction hn (P := fun l t =>
    (t.scan = if .scan ∈ l then scanAfter s.ctrl (partOf s.ctrl .scan (namedWords w)) s.scan else s.scan) ∧
    t.bellows = if .scan ∈ l then bellowsAfter s.ctrl (partOf s.ctrl .scan (namedWords w)) s.bellows
      else s.bellows) (by simp) fun l x t hk hx ih => ?_
  · simpa [hs] using key
  · have ht : t.ctrl = s.ctrl := hk.ctrl.trans (accepted_ctrl w s)
    cases x with
    | scan =>
      obtain ⟨h₁, h₂⟩ := announceScan_views (partOf s.ctrl .scan (namedWords w)) t
      rw [if_neg hx, if_neg hx] at ih
      rw [ht, ih.1] at h₁
      rw [ht, ih.2] at h₂
      simpa [announce] using And.intro h₁ h₂
    | command =>
      rw [announce_command_part hn ht]
      simpa using ih
    | mapA | mapB | sections => simpa [announce] using ih
    | descriptor | spareLow | status | spareHigh | programs | voices | ram | beyond | other =>
      simpa [announce] using ih

/-! ### New states of different positions (R44, R45) -/

section Apply

variable (op : OpState) (eff : Bool)

theorem foldl_apply_silence (l : List (Pos × Bool)) (sc : Scan) :
    (l.foldl (Scan.apply op eff) sc).silence = sc.silence := by
  induction l generalizing sc with
  | nil => rfl
  | cons x l ih => exact ih _

theorem foldl_apply_down {l : List (Pos × Bool)} (hl : (l.map (·.1)).Nodup) (sc : Scan) (p : Pos) :
    (l.foldl (Scan.apply op eff) sc).down.get p =
      match l.lookup p with
      | none => sc.down.get p
      | some b => condAfter op eff (sc.down.get p) b := by
  induction l generalizing sc with
  | nil => rfl
  | cons x l ih =>
    obtain ⟨q, b⟩ := x
    obtain ⟨hx, hl⟩ := List.nodup_cons.mp hl
    rw [List.foldl_cons, ih hl, apply_down_get, List.lookup_cons]
    by_cases hp : p = q
    · subst hp
      have : l.lookup p = none := by
        rw [List.lookup_eq_none_iff]
        intro y hy
        simpa using fun e : p = y.1 => hx (List.mem_map.mpr ⟨y, hy, e.symm⟩)
      simp [this]
    · have hpq : (p == q) = false := by simpa using hp
      simp [hp, hpq]

theorem foldl_apply_events {l : List (Pos × Bool)} (hl : (l.map (·.1)).Nodup) (sc : Scan) :
    (l.foldl (Scan.apply .performing eff) sc).events = sc.events ++ l.flatMap (newEvents eff sc) := by
  induction l generalizing sc with
  | nil => simp
  | cons x l ih =>
    obtain ⟨hx, hl⟩ := List.nodup_cons.mp hl
    rw [List.foldl_cons, ih hl, apply_events, List.flatMap_cons, List.append_assoc]
    congr 2
    refine List.flatMap_congr fun y hy => ?_
    unfold newEvents
    rw [down_of_not_mem hx y hy]

theorem foldl_apply_events_of_ne (ho : op ≠ .performing) (l : List (Pos × Bool)) (sc : Scan) :
    (l.foldl (Scan.apply op eff) sc).events = sc.events := by
  induction l generalizing sc with
  | nil => rfl
  | cons x l ih => rw [List.foldl_cons, ih, apply_events_of_ne ho]

end Apply

/-! ### The new states in the order of their positions (R43) -/

theorem insertByAddr_sorted (v : NamedWord) {l : List NamedWord}
    (h : l.Pairwise fun a b => a.addr.toNat ≤ b.addr.toNat) :
    (insertByAddr v l).Pairwise fun a b => a.addr.toNat ≤ b.addr.toNat := by
  induction l with
  | nil => simp [insertByAddr]
  | cons u l ih =>
    unfold insertByAddr
    obtain ⟨hu, hl⟩ := List.pairwise_cons.mp h
    split
    · next hle =>
      refine List.pairwise_cons.mpr ⟨fun x hx => ?_, h⟩
      exact (List.mem_cons.mp hx).elim (fun e => e ▸ hle) fun hx => hle.trans (hu x hx)
    · next hle =>
      refine List.pairwise_cons.mpr ⟨fun x hx => ?_, ih hl⟩
      rcases List.mem_cons.mp ((insertByAddr_perm v l).mem_iff.mp hx) with rfl | hx
      · omega
      · exact hu x hx

theorem sortByAddr_sorted (ws : List NamedWord) :
    (sortByAddr ws).Pairwise fun a b => a.addr.toNat ≤ b.addr.toNat := by
  induction ws with
  | nil => exact .nil
  | cons v ws ih => exact insertByAddr_sorted v ih

/-- What the new states of a word are (R41, R43). -/
theorem mem_buttonsOfWord {d : Desc} {v : NamedWord} {p : Pos} {b : Bool} (hv : d.scan.toNat ≤ v.addr.toNat) :
    (p, b) ∈ buttonsOfWord d v ↔ ∃ i < 4, v.mask.getLsbD i = true ∧ p.val < d.used.toNat ∧
      v.addr.toNat + i = d.scan.toNat + p.val ∧ b = (byteAt v.data i != 0) := by
  have hoff : offsetFrom d.scan v.addr = v.addr.toNat - d.scan.toNat := rfl
  simp only [buttonsOfWord, List.mem_map, List.mem_filter, List.mem_range, Bool.and_eq_true, decide_eq_true_eq,
    Prod.mk.injEq, and_assoc]
  refine exists_congr fun i => and_congr_right fun _ => and_congr_right fun _ => ?_
  constructor
  · rintro ⟨hlt, hp, hb⟩
    have hp' : p.val = offsetFrom d.scan v.addr + i := by
      rw [← hp]
      simp only [Fin.ofNat_eq_cast, Fin.val_natCast]
      omega
    exact ⟨by omega, by omega, hb.symm⟩
  · rintro ⟨hlt, hp, hb⟩
    have := p.isLt
    refine ⟨by omega, Fin.ext ?_, hb.symm⟩
    simp only [Fin.ofNat_eq_cast, Fin.val_natCast]
    omega

section Buttons

variable {s : State} {w : WriteReq}

theorem scan_le_of_part {v : NamedWord} (hv : v ∈ partOf s.ctrl .scan (namedWords w)) :
    s.ctrl.copy.scan.toNat ≤ v.addr.toNat := by
  have := (within_of_areaOf (of_decide_eq_true (List.mem_filter.mp hv).2)).1 rfl
  simp only [within, decide_eq_true_eq] at this
  exact this.1

/-- What the new states of a SCAN part are. -/
theorem mem_buttonChanges {p : Pos} {b : Bool} :
    (p, b) ∈ buttonChanges s.ctrl.copy (partOf s.ctrl .scan (namedWords w)) ↔
      ∃ v ∈ namedWords w, ∃ i < 4, areaOf s.ctrl v.addr = .scan ∧ v.mask.getLsbD i = true ∧
        p.val < s.ctrl.copy.used.toNat ∧ v.addr.toNat + i = s.ctrl.copy.scan.toNat + p.val ∧
        b = (byteAt v.data i != 0) := by
  simp only [buttonChanges, List.mem_flatMap, (sortByAddr_perm _).mem_iff]
  constructor
  · rintro ⟨v, hv, hb⟩
    obtain ⟨i, hi, hm, hu, hp, hb⟩ := (mem_buttonsOfWord (scan_le_of_part hv)).mp hb
    obtain ⟨hw, ha⟩ := List.mem_filter.mp hv
    exact ⟨v, hw, i, hi, of_decide_eq_true ha, hm, hu, hp, hb⟩
  · rintro ⟨v, hw, i, hi, ha, hm, hu, hp, hb⟩
    have hv : v ∈ partOf s.ctrl .scan (namedWords w) := List.mem_filter.mpr ⟨hw, decide_eq_true ha⟩
    exact ⟨v, hv, (mem_buttonsOfWord (scan_le_of_part hv)).mpr ⟨i, hi, hm, hu, hp, hb⟩⟩

/-- A byte that the write carries for a button is one of a word that names it. -/
theorem buttonByte_eq_some {p : Pos} {y : Byte} (h : buttonByte s w p = some y) :
    ∃ v ∈ namedWords w, ∃ i < 4, areaOf s.ctrl v.addr = .scan ∧ v.mask.getLsbD i = true ∧
      p.val < s.ctrl.copy.used.toNat ∧ v.addr.toNat + i = s.ctrl.copy.scan.toNat + p.val ∧ y = byteAt v.data i := by
  unfold buttonByte at h
  split at h
  · next hu =>
    obtain ⟨v, hv, h⟩ := List.exists_of_findSome?_eq_some h
    obtain ⟨i, hi, h⟩ := List.exists_of_findSome?_eq_some h
    split at h
    · next hc =>
      obtain ⟨ha, hp, hm⟩ := hc
      exact ⟨v, hv, i, List.mem_range.mp hi, ha, hm, hu, hp, (Option.some.inj h).symm⟩
    · cases h
  · cases h

theorem buttonByte_isSome {p : Pos} {v : NamedWord} {i : Nat} (hv : v ∈ namedWords w) (hi : i < 4)
    (ha : areaOf s.ctrl v.addr = .scan) (hm : v.mask.getLsbD i = true) (hu : p.val < s.ctrl.copy.used.toNat)
    (hp : v.addr.toNat + i = s.ctrl.copy.scan.toNat + p.val) : (buttonByte s w p).isSome = true := by
  unfold buttonByte
  rw [if_pos hu, List.findSome?_isSome_iff]
  refine ⟨v, hv, ?_⟩
  rw [List.findSome?_isSome_iff]
  exact ⟨i, List.mem_range.mpr hi, by rw [if_pos ⟨ha, hp, hm⟩]; rfl⟩

/-- The new state that the write gives to a position (R41). -/
def newState (s : State) (w : WriteReq) (p : Pos) : Option Bool := (buttonByte s w p).map fun y => y != 0

theorem lookup_filterMap (f : Pos → Option Bool) (l : List Pos) (p : Pos) :
    (l.filterMap fun q => (f q).map (q, ·)).lookup p = if p ∈ l then f p else none := by
  induction l with
  | nil => rfl
  | cons q l ih =>
    rw [List.filterMap_cons]
    by_cases hq : p = q
    · subst hq
      cases hf : f p with
      | none => simp [ih, hf]
      | some b => simp
    · have hpq : (p == q) = false := by simpa using hq
      cases f q <;> simp [ih, hq, List.lookup_cons, hpq]

variable (hal : w.start.toNat % 4 = 0)
include hal

/-- The words of a SCAN part in ascending order stand apart, so that their buttons ascend. -/
theorem buttonChanges_sorted :
    (buttonChanges s.ctrl.copy (partOf s.ctrl .scan (namedWords w))).Pairwise fun a b => a.1 < b.1 := by
  unfold buttonChanges
  have hperm := sortByAddr_perm (partOf s.ctrl .scan (namedWords w))
  have hapart := (hperm.pairwise_iff (fun ⟨h₁, h₂, h₃⟩ => ⟨h₂, h₁, Ne.symm h₃⟩)).mpr
    ((namedWords_apart hal).filter fun v => decide (areaOf s.ctrl v.addr = .scan))
  refine List.pairwise_flatMap.mpr ⟨fun v _ => ?_, ?_⟩
  · unfold buttonsOfWord
    rw [List.pairwise_map]
    refine List.Pairwise.imp_of_mem ?_ (List.pairwise_lt_range.filter _)
    intro i j hi hj hij
    simp only [List.mem_filter, Bool.and_eq_true, decide_eq_true_eq] at hi hj
    rw [Fin.lt_def]
    simp only [Fin.ofNat_eq_cast, Fin.val_natCast]
    omega
  · refine List.Pairwise.imp_of_mem ?_ (hapart.and (sortByAddr_sorted _))
    intro u v hu hv ⟨⟨h₁, h₂, h₃⟩, h₄⟩ x hx y hy
    have hu' := scan_le_of_part (hperm.mem_iff.mp hu)
    have hv' := scan_le_of_part (hperm.mem_iff.mp hv)
    obtain ⟨i, hi, -, -, hpx, -⟩ := (mem_buttonsOfWord (p := x.1) (b := x.2) hu').mp hx
    obtain ⟨j, hj, -, -, hpy, -⟩ := (mem_buttonsOfWord (p := y.1) (b := y.2) hv').mp hy
    rw [Fin.lt_def]
    omega

/-- The new states of a SCAN part are those that the write's button bytes give, position by position. -/
theorem buttonChanges_eq : buttonChanges s.ctrl.copy (partOf s.ctrl .scan (namedWords w)) =
    (List.finRange 256).filterMap fun p => (newState s w p).map (p, ·) := by
  have hsub {p : Pos} {b : Bool} (h : newState s w p = some b) :
      (p, b) ∈ buttonChanges s.ctrl.copy (partOf s.ctrl .scan (namedWords w)) := by
    obtain ⟨y, hy, rfl⟩ := Option.map_eq_some_iff.mp h
    obtain ⟨v, hv, i, hi, ha, hm, hu, hp, rfl⟩ := buttonByte_eq_some hy
    exact mem_buttonChanges.mpr ⟨v, hv, i, hi, ha, hm, hu, hp, rfl⟩
  have hone := List.inj_on_of_nodup_map (buttonChanges_nodup (c := s.ctrl) hal)
  have : Std.Irrefl fun a b : Pos × Bool => a.1 < b.1 := ⟨fun a => lt_irrefl a.1⟩
  have : Std.Antisymm fun a b : Pos × Bool => a.1 < b.1 := ⟨fun a b h k => absurd (h.trans k) (lt_irrefl _)⟩
  refine List.Pairwise.eq_of_mem_iff (buttonChanges_sorted hal) ?_ fun ⟨p, b⟩ => ?_
  · rw [List.pairwise_filterMap]
    refine (List.pairwise_lt_finRange 256).imp ?_
    intro p q hpq a ha b hb
    obtain ⟨_, -, rfl⟩ := Option.map_eq_some_iff.mp ha
    obtain ⟨_, -, rfl⟩ := Option.map_eq_some_iff.mp hb
    exact hpq
  · simp only [List.mem_filterMap, List.mem_finRange, true_and, Option.map_eq_some_iff, Prod.mk.injEq]
    constructor
    · intro h
      obtain ⟨v, hv, i, hi, ha, hm, hu, hp, -⟩ := mem_buttonChanges.mp h
      obtain ⟨y, hy⟩ := Option.isSome_iff_exists.mp (buttonByte_isSome hv hi ha hm hu hp)
      have hy' : newState s w p = some (y != 0) := by simp [newState, hy]
      exact ⟨p, y != 0, hy', rfl, (Prod.mk.inj (hone (hsub hy') h rfl)).2⟩
    · rintro ⟨q, y, hy, rfl, rfl⟩
      exact hsub hy

/-- A new state of a position is the one that its button byte gives. -/
theorem lookup_buttonChanges (p : Pos) :
    (buttonChanges s.ctrl.copy (partOf s.ctrl .scan (namedWords w))).lookup p = newState s w p := by
  rw [buttonChanges_eq hal, lookup_filterMap, if_pos (List.mem_finRange p)]

end Buttons

end Sys2Proof.Machine
end

section
/-! PROOFS. The down image and the button events after an accepted P write (R43, R44, R45). -/

namespace Sys2Proof.Machine

section Tables

variable (op : OpState) (eff : Bool) {c : Cond}

theorem condAfter_released (c : Cond) : condAfter op eff c false = .up := by
  cases c <;> rfl

theorem condAfter_of_ne_up (h : c ≠ .up) : condAfter op eff c true = c := by
  cases c with
  | up => exact absurd rfl h
  | down | hushed => rfl

theorem eventOf_pressed (c : Cond) (p : Pos) :
    eventOf eff c p true = if c = .up ∧ eff = false then some { isPress := true, pos := p } else none := by
  cases c with
  | up => cases eff <;> rfl
  | down | hushed => rfl

theorem eventOf_released (c : Cond) (p : Pos) :
    eventOf eff c p false = if c = .down then some { isPress := false, pos := p } else none := by
  cases c <;> rfl

end Tables

section Buttons

variable {s : State} {w : WriteReq}

theorem buttonByte_of_not_scan (h : ¬∃ v ∈ namedWords w, areaOf s.ctrl v.addr = .scan) (p : Pos) :
    buttonByte s w p = none := by
  refine Option.eq_none_iff_forall_ne_some.mpr fun y hy => ?_
  obtain ⟨v, hv, _, _, ha, _⟩ := buttonByte_eq_some hy
  exact h ⟨v, hv, ha⟩

theorem newState_of_none {p : Pos} (h : buttonByte s w p = none) : newState s w p = none := by
  rw [newState, h]
  rfl

theorem newState_of_some {p : Pos} {y : Byte} (h : buttonByte s w p = some y) : newState s w p = some (y != 0) := by
  rw [newState, h]
  rfl

/-- The event that the write brings for a position in PERFORMING. -/
def newEvent (s : State) (w : WriteReq) (p : Pos) : Option ButtonEvent :=
  (newState s w p).bind fun b => eventOf (hushPinActive s.ctrl) (s.scan.down.get p) p b

/-- What an accepted write gives the scan monitor, position by position. -/
structure ButtonsTaken (s : State) (w : WriteReq) (sc : Scan) : Prop where
  silence : sc.silence = if ∃ x ∈ namedWords w, areaOf s.ctrl x.addr = .scan then 0 else s.scan.silence
  down : ∀ p, sc.down.get p = match newState s w p with
    | none => s.scan.down.get p
    | some b => condAfter s.ctrl.op (hushPinActive s.ctrl) (s.scan.down.get p) b
  events : sc.events = if s.ctrl.op = .performing then s.scan.events ++ (List.finRange 256).filterMap (newEvent s w)
    else s.scan.events

theorem buttonsTaken_of_not_scan (h : ¬∃ v ∈ namedWords w, areaOf s.ctrl v.addr = .scan) :
    ButtonsTaken s w s.scan where
  silence := by rw [if_neg h]
  down p := by rw [newState_of_none (buttonByte_of_not_scan h p)]
  events := by
    have : newEvent s w = fun _ => none := funext fun p => by
      rw [newEvent, newState_of_none (buttonByte_of_not_scan h p)]
      rfl
    rw [this]
    simp

theorem newEvents_buttonChanges (hal : w.start.toNat % 4 = 0) :
    (buttonChanges s.ctrl.copy (partOf s.ctrl .scan (namedWords w))).flatMap
      (newEvents (hushPinActive s.ctrl) { s.scan with silence := 0 }) =
    (List.finRange 256).filterMap (newEvent s w) := by
  have : newEvents (hushPinActive s.ctrl) { s.scan with silence := 0 } =
      fun x => (eventOf (hushPinActive s.ctrl) (s.scan.down.get x.1) x.1 x.2).toList := rfl
  rw [buttonChanges_eq hal, this, ← List.filterMap_eq_flatMap_toList, List.filterMap_filterMap]
  refine List.filterMap_congr fun p _ => ?_
  rw [newEvent]
  cases newState s w p <;> rfl

theorem buttonsTaken_of_scan (hal : w.start.toNat % 4 = 0) (h : ∃ v ∈ namedWords w, areaOf s.ctrl v.addr = .scan) :
    ButtonsTaken s w (scanAfter s.ctrl (partOf s.ctrl .scan (namedWords w)) s.scan) where
  silence := by rw [if_pos h, scanAfter, foldl_apply_silence]
  down p := by
    have := foldl_apply_down s.ctrl.op (hushPinActive s.ctrl) (buttonChanges_nodup (c := s.ctrl) hal)
      { s.scan with silence := 0 } p
    rwa [lookup_buttonChanges hal] at this
  events := by
    unfold scanAfter
    split
    · next ho => rw [ho, foldl_apply_events _ (buttonChanges_nodup hal), newEvents_buttonChanges hal]
    · next ho => rw [foldl_apply_events_of_ne _ _ ho]

theorem start_aligned (h : PAccepts s w) : w.start.toNat % 4 = 0 := by
  by_contra hm
  exact absurd ((badForm_iff w).mpr (.inl hm)) (by simp [h.2.1])

theorem announced_buttons (h : PAccepts s w) (hn : TakesNoCommand s w) : ButtonsTaken s w (announced w s).scan := by
  by_cases hs : ∃ v ∈ namedWords w, areaOf s.ctrl v.addr = .scan
  · rw [(announced_scan hn (mem_partAreas.mpr hs)).1]
    exact buttonsTaken_of_scan (start_aligned h) hs
  · rw [(announced_of_not_scan hn fun v hv he => hs ⟨v, hv, he⟩).1]
    exact buttonsTaken_of_not_scan hs

end Buttons

/-- Settles O30: the SCAN part is taken position by position, and no other part reaches the scan monitor. -/
theorem buttonBytesMoveTheDownImage : Obligations.ButtonBytesMoveTheDownImage := by
  intro s w h hn
  obtain ⟨hsil, hdown, hev⟩ := announced_buttons h hn
  obtain ⟨hpost, hports, hctrl, heng, hstat⟩ := posted_announced hn
  refine ⟨_, exec_pWrite_accepted h, hpost, by rw [chooseFetch_scan, hsil], fun p => ?_, ?_, hports, hctrl, heng, hstat⟩
  · rw [chooseFetch_scan]
    refine (hdown p).trans ?_
    cases hb : buttonByte s w p with
    | none => rw [newState_of_none hb]
    | some y =>
      rw [newState_of_some hb]
      dsimp only []
      split
      · next hy => simp [hy, condAfter_released]
      · next hy =>
        have hy' : (y != 0) = true := by simpa using hy
        rw [hy']
        split
        · next hc => exact condAfter_of_ne_up _ _ hc
        · next hc =>
          rw [not_not.mp hc]
          cases s.ctrl.op <;> rfl
  · rw [chooseFetch_scan, hev]
    refine if_congr Iff.rfl (congrArg _ (List.filterMap_congr fun p _ => ?_)) rfl
    rw [newEvent]
    split
    · next hb =>
      rw [newState_of_none hb]
      rfl
    · next y hb =>
      rw [newState_of_some hb, Option.bind_some]
      split
      · next hy =>
        have hy' : (y != 0) = true := by simpa using hy
        rw [hy', eventOf_pressed]
      · next hy =>
        have hy' : (y != 0) = false := by simpa using hy
        rw [hy', eventOf_released]

end Sys2Proof.Machine
end

section
/-! PROOFS. The bellows word of an accepted P write (R43, R48, R57, R58, R59, R61, R62). -/

namespace Sys2Proof.Machine

/-! ### A sample at the tracker -/

section Sample

variable (d : Desc) (op : OpState)

theorem testDir_of_turns {b : Bellows} (h : b.motion ≠ .rest ∧ b.motion.dir? ≠ some b.dir ∧ b.hold = 0) :
    ∃ m, b.motion.dir? = some m ∧ b.testDir d op = b.turn d op m := by
  obtain ⟨hm, hd, hh⟩ := h
  unfold Bellows.testDir
  cases hdir : b.motion.dir? with
  | none => cases hb : b.motion <;> simp_all [Motion.dir?]
  | some m =>
    rw [hdir] at hd
    exact ⟨m, rfl, if_pos ⟨fun e => hd (congrArg some e), hh⟩⟩

theorem testDir_of_not_turns {b : Bellows} (h : ¬(b.motion ≠ .rest ∧ b.motion.dir? ≠ some b.dir ∧ b.hold = 0)) :
    b.testDir d op = b := by
  unfold Bellows.testDir
  cases hdir : b.motion.dir? with
  | none => rfl
  | some m =>
    refine if_neg fun ⟨hm, hh⟩ => h ⟨fun e => ?_, fun e => hm ?_, hh⟩
    · rw [e] at hdir
      cases hdir
    · rw [hdir] at e
      exact Option.some.inj e

theorem testDir_kept (b : Bellows) :
    (b.testDir d op).magnitude = b.magnitude ∧ (b.testDir d op).motion = b.motion ∧
    (b.testDir d op).levelNotice = b.levelNotice ∧ (b.testDir d op).notified = b.notified := by
  unfold Bellows.testDir
  repeat' split
  all_goals exact ⟨rfl, rfl, rfl, rfl⟩

theorem testLevel_kept (b : Bellows) :
    (b.testLevel d).magnitude = b.magnitude ∧ (b.testLevel d).motion = b.motion ∧ (b.testLevel d).dir = b.dir ∧
    (b.testLevel d).hold = b.hold ∧ (b.testLevel d).reversals = b.reversals ∧
    (b.testLevel d).revNotice = b.revNotice := by
  unfold Bellows.testLevel
  split
  all_goals exact ⟨rfl, rfl, rfl, rfl, rfl, rfl⟩

theorem gap_eq (m n : Nat) : gap m n = ((m : Int) - n).natAbs := by
  unfold gap
  split <;> omega

/-- The tracker with the magnitude and the motion of a sample, before its tests (R57). -/
def moved (p : Int) (b : Bellows) : Bellows :=
  { b with magnitude := (clampPressure p).natAbs, motion := motionAfter d b.motion (clampPressure p) }

/-- A sample tests the level in PERFORMING and SETTLING only (R57). -/
theorem sample_eq (p : Int) (b : Bellows) : b.sample d op p =
    if op = .performing ∨ op = .settling then ((moved d p b).testDir d op).testLevel d
    else (moved d p b).testDir d op := by
  cases op <;> rfl

/-- What a sample does beside the test of the level. -/
theorem sample_dir (p : Int) (b : Bellows) :
    (b.sample d op p).magnitude = (moved d p b).magnitude ∧ (b.sample d op p).motion = (moved d p b).motion ∧
    (b.sample d op p).dir = ((moved d p b).testDir d op).dir ∧
    (b.sample d op p).hold = ((moved d p b).testDir d op).hold ∧
    (b.sample d op p).reversals = ((moved d p b).testDir d op).reversals ∧
    (b.sample d op p).revNotice = ((moved d p b).testDir d op).revNotice := by
  obtain ⟨hmag, hmot, -, -⟩ := testDir_kept d op (moved d p b)
  obtain ⟨lmag, lmot, ldir, lhold, lrev, lnot⟩ := testLevel_kept d ((moved d p b).testDir d op)
  rw [sample_eq]
  split
  · exact ⟨lmag.trans hmag, lmot.trans hmot, ldir, lhold, lrev, lnot⟩
  · exact ⟨hmag, hmot, rfl, rfl, rfl, rfl⟩

theorem sample_of_turns {p : Int} {b : Bellows}
    (h : (moved d p b).motion ≠ .rest ∧ (moved d p b).motion.dir? ≠ some b.dir ∧ b.hold = 0) :
    (moved d p b).motion.dir? = some (b.sample d op p).dir ∧ (b.sample d op p).hold = d.reverseHold.toNat ∧
    (b.sample d op p).reversals = b.reversals + 1 ∧
    (b.sample d op p).revNotice = if op = .performing then some (b.sample d op p).dir else b.revNotice := by
  obtain ⟨-, -, hdir, hhold, hrev, hnot⟩ := sample_dir d op p b
  obtain ⟨m, hm, ht⟩ := testDir_of_turns d op (b := moved d p b) h
  rw [hdir, hhold, hrev, hnot, ht]
  exact ⟨hm, rfl, rfl, rfl⟩

theorem sample_of_not_turns {p : Int} {b : Bellows}
    (h : ¬((moved d p b).motion ≠ .rest ∧ (moved d p b).motion.dir? ≠ some b.dir ∧ b.hold = 0)) :
    (b.sample d op p).dir = b.dir ∧ (b.sample d op p).hold = b.hold ∧ (b.sample d op p).reversals = b.reversals ∧
    (b.sample d op p).revNotice = b.revNotice := by
  obtain ⟨-, -, hdir, hhold, hrev, hnot⟩ := sample_dir d op p b
  rw [hdir, hhold, hrev, hnot, testDir_of_not_turns d op (b := moved d p b) h]
  exact ⟨rfl, rfl, rfl, rfl⟩

/-- When a sample tests the level and finds it far enough from the one notified, or fallen to 0 (R62). -/
def LevelChanges (p : Int) (b : Bellows) : Prop :=
  (op = .performing ∨ op = .settling) ∧
    ((d.levelStep.toNat : Int) ≤ (((moved d p b).magnitude : Int) - b.notified).natAbs ∨
      ((moved d p b).magnitude = 0 ∧ b.notified ≠ 0))

theorem levelTest_iff (p : Int) (b : Bellows) :
    (d.levelStep.toNat ≤ gap ((moved d p b).testDir d op).magnitude ((moved d p b).testDir d op).notified ∨
      ((moved d p b).testDir d op).magnitude = 0 ∧ ((moved d p b).testDir d op).notified ≠ 0) ↔
    ((d.levelStep.toNat : Int) ≤ (((moved d p b).magnitude : Int) - b.notified).natAbs ∨
      ((moved d p b).magnitude = 0 ∧ b.notified ≠ 0)) := by
  obtain ⟨hmag, -, -, hnot⟩ := testDir_kept d op (moved d p b)
  have hnot : ((moved d p b).testDir d op).notified = b.notified := hnot
  rw [hmag, hnot, gap_eq, Nat.cast_le]

theorem sample_of_level {p : Int} {b : Bellows} (h : LevelChanges d op p b) :
    (b.sample d op p).levelNotice = some (moved d p b).magnitude ∧
    (b.sample d op p).notified = (moved d p b).magnitude := by
  obtain ⟨ho, hl⟩ := h
  rw [sample_eq, if_pos ho, Bellows.testLevel, if_pos ((levelTest_iff d op p b).mpr hl)]
  dsimp only []
  rw [(testDir_kept d op (moved d p b)).1]
  exact ⟨rfl, rfl⟩

theorem sample_of_not_level {p : Int} {b : Bellows} (h : ¬LevelChanges d op p b) :
    (b.sample d op p).levelNotice = b.levelNotice ∧ (b.sample d op p).notified = b.notified := by
  obtain ⟨-, -, hlev, hnot⟩ := testDir_kept d op (moved d p b)
  rw [sample_eq]
  split
  · next ho =>
    rw [Bellows.testLevel, if_neg fun hl => h ⟨ho, (levelTest_iff d op p b).mp hl⟩]
    exact ⟨hlev, hnot⟩
  · exact ⟨hlev, hnot⟩

end Sample

/-! ### The bellows word among the words of a write (R48) -/

section Word

variable {s : State} {w : WriteReq}

/-- The words of an aligned write have different addresses. -/
theorem namedWords_eq_of_addr (hal : w.start.toNat % 4 = 0) {u v : NamedWord} (hu : u ∈ namedWords w)
    (hv : v ∈ namedWords w) (h : u.addr = v.addr) : u = v := by
  refine List.inj_on_of_nodup_map (f := NamedWord.addr) ?_ hu hv h
  rw [List.Nodup, List.pairwise_map]
  exact (namedWords_apart hal).imp fun ⟨_, _, hne⟩ e => hne (congrArg BitVec.toNat e)

theorem pressureOf_of_whole (hal : w.start.toNat % 4 = 0) {x : NamedWord} (hx : x ∈ namedWords w)
    (ha : areaOf s.ctrl x.addr = .scan) (hadr : x.addr.toNat = s.ctrl.copy.scan.toNat + 256)
    (h0 : x.mask.getLsbD 0 = true) (h1 : x.mask.getLsbD 1 = true) :
    pressureOf s.ctrl.copy (partOf s.ctrl .scan (namedWords w)) = some (bitsAt x.data 0 16).toInt := by
  have hp : x ∈ partOf s.ctrl .scan (namedWords w) := List.mem_filter.mpr ⟨hx, decide_eq_true ha⟩
  unfold pressureOf
  cases hf : (partOf s.ctrl .scan (namedWords w)).find? fun w =>
      decide (w.addr.toNat = s.ctrl.copy.scan.toNat + 256) && w.mask.getLsbD 0 && w.mask.getLsbD 1 with
  | none => simpa [hadr, h0, h1] using List.find?_eq_none.mp hf x hp
  | some v =>
    have hv := List.find?_some hf
    simp only [Bool.and_eq_true, decide_eq_true_eq] at hv
    obtain ⟨⟨hv, -⟩, -⟩ := hv
    have hm := (List.mem_filter.mp (List.mem_of_find?_eq_some hf)).1
    rw [namedWords_eq_of_addr hal hm hx (BitVec.eq_of_toNat_eq (hv.trans hadr.symm))]
    rfl

theorem pressureOf_of_part
    (h : ∀ x ∈ namedWords w, areaOf s.ctrl x.addr = .scan → x.addr.toNat = s.ctrl.copy.scan.toNat + 256 →
      ¬(x.mask.getLsbD 0 = true ∧ x.mask.getLsbD 1 = true)) :
    pressureOf s.ctrl.copy (partOf s.ctrl .scan (namedWords w)) = none := by
  rw [pressureOf, Option.map_eq_none_iff, List.find?_eq_none]
  intro x hx hc
  obtain ⟨hw, ha⟩ := List.mem_filter.mp hx
  simp only [Bool.and_eq_true, decide_eq_true_eq] at hc
  obtain ⟨⟨hadr, h0⟩, h1⟩ := hc
  exact h x hw (of_decide_eq_true ha) hadr ⟨h0, h1⟩

/-- A write that takes no command and no sample leaves the tracker. -/
theorem announced_bellows_of_part (hn : TakesNoCommand s w)
    (h : ∀ x ∈ namedWords w, areaOf s.ctrl x.addr = .scan → x.addr.toNat = s.ctrl.copy.scan.toNat + 256 →
      ¬(x.mask.getLsbD 0 = true ∧ x.mask.getLsbD 1 = true)) : (announced w s).bellows = s.bellows := by
  by_cases hs : .scan ∈ partAreas s w
  · rw [(announced_scan hn hs).2, bellowsAfter, pressureOf_of_part h]
  · exact (announced_of_not_scan hn fun v hv he => hs (mem_partAreas.mpr ⟨v, hv, he⟩)).2.1

/-- A write of the bellows word alone gives no button a new state. -/
theorem scanAfter_of_one (hb : badForm w = false) (hm : w.more = 0) {x : NamedWord} (hx : x ∈ namedWords w)
    (hadr : x.addr.toNat = s.ctrl.copy.scan.toNat + 256) :
    scanAfter s.ctrl (partOf s.ctrl .scan (namedWords w)) s.scan = { s.scan with silence := 0 } := by
  have hbs : badStart w.start = false := (Bool.or_eq_false_iff.mp hb).1
  have hno : buttonChanges s.ctrl.copy (partOf s.ctrl .scan (namedWords w)) = [] := by
    refine List.eq_nil_iff_forall_not_mem.mpr fun ⟨p, b⟩ h => ?_
    obtain ⟨v, hv, i, -, -, -, -, hp, -⟩ := mem_buttonChanges.mp h
    rw [namedWords_one hm hbs, List.mem_singleton] at hv hx
    rw [hv, ← hx] at hp
    have := p.isLt
    omega
  rw [scanAfter, hno]
  rfl

end Word

/-- Settles O31: the one word at offset 256 with both bytes written is the sample, and its tests follow the tables. -/
theorem theBellowsWordIsASample : Obligations.TheBellowsWordIsASample := by
  intro s w h hn
  have hal := start_aligned h
  obtain ⟨hsil, -, -⟩ := announced_buttons h hn
  obtain ⟨hpost, hports, hctrl, heng, hstat⟩ := posted_announced hn
  refine ⟨fun x hx ha hadr h0 h1 => ?_, fun hpart => ?_⟩
  · obtain ⟨hscan, hbel⟩ := announced_scan hn (mem_partAreas.mpr ⟨x, hx, ha⟩)
    rw [bellowsAfter, pressureOf_of_whole hal hx ha hadr h0 h1] at hbel
    rw [if_pos ⟨x, hx, ha⟩] at hsil
    obtain ⟨hmag, hmot, -⟩ := sample_dir s.ctrl.copy s.ctrl.op (bitsAt x.data 0 16).toInt s.bellows
    have hb := (chooseFetch_bellows (announced w s)).trans hbel
    refine ⟨_, exec_pWrite_accepted h, hpost, by rw [chooseFetch_scan, hsil], hb ▸ hmag, hb ▸ hmot, ?_, ?_, ?_, ?_,
      fun hm => ?_, hports, hctrl, heng, hstat⟩
    · exact hb ▸ sample_of_turns s.ctrl.copy s.ctrl.op
    · exact hb ▸ sample_of_not_turns s.ctrl.copy s.ctrl.op
    · exact hb ▸ sample_of_level s.ctrl.copy s.ctrl.op
    · exact hb ▸ sample_of_not_level s.ctrl.copy s.ctrl.op
    · rw [chooseFetch_scan, hscan, scanAfter_of_one h.2.1 hm hx hadr]
  · refine ⟨_, exec_pWrite_accepted h, hpost, ?_, heng, hstat, fun hs => ?_⟩
    · rw [chooseFetch_bellows, announced_bellows_of_part hn hpart]
    · rw [chooseFetch_scan, hsil, if_pos hs]

end Sys2Proof.Machine
end

section
/-! PROOFS. A command does the same whatever P writes are queued, where no bank's region is among them (R153, R165). -/

namespace Sys2Proof.Machine

variable (s : State) (q : PlayerQueue)

/-! ### The P write queue and the other blocks -/

@[simp] theorem setPorts_setPlayer (x : Ports) : (s.setPlayer q).setPorts x = (s.setPorts x).setPlayer q := rfl
@[simp] theorem setScan_setPlayer (x : Scan) : (s.setPlayer q).setScan x = (s.setScan x).setPlayer q := rfl
@[simp] theorem setBellows_setPlayer (x : Bellows) : (s.setPlayer q).setBellows x = (s.setBellows x).setPlayer q := rfl
@[simp] theorem setMap_setPlayer (x : MapUnit) : (s.setPlayer q).setMap x = (s.setMap x).setPlayer q := rfl
@[simp] theorem setEng_setPlayer (x : Engine) : (s.setPlayer q).setEng x = (s.setEng x).setPlayer q := rfl
@[simp] theorem setVoice_setPlayer (x : VoiceWriter) : (s.setPlayer q).setVoice x = (s.setVoice x).setPlayer q := rfl
@[simp] theorem setTone_setPlayer (x : Tone) : (s.setPlayer q).setTone x = (s.setTone x).setPlayer q := rfl
@[simp] theorem setCtrl_setPlayer (x : Control) : (s.setPlayer q).setCtrl x = (s.setCtrl x).setPlayer q := rfl
@[simp] theorem setStat_setPlayer (x : Status) : (s.setPlayer q).setStat x = (s.setStat x).setPlayer q := rfl
@[simp] theorem statusView_setPlayer : statusView (s.setPlayer q) = statusView s := rfl

/-! ### The operations that do not look at the P write queue -/

@[simp] theorem report_setPlayer (a b : State) :
    report (a.setPlayer q) (b.setPlayer q) = (report a b).setPlayer q := by
  by_cases h : statusView a = statusView b <;> simp [report, h]

@[simp] theorem raiseFlag_setPlayer (f : BitVec 7) : raiseFlag f (s.setPlayer q) = (raiseFlag f s).setPlayer q := by
  simp [raiseFlag]

@[simp] theorem ackFlags_setPlayer (m : BitVec 7) : ackFlags m (s.setPlayer q) = (ackFlags m s).setPlayer q := by
  simp [ackFlags]

@[simp] theorem takeOpcode_setPlayer (op : Byte) :
    takeOpcode op (s.setPlayer q) = (takeOpcode op s).setPlayer q := by
  simp [takeOpcode]

@[simp] theorem finish_setPlayer (w : Awaited) (r : CmdResult) :
    finish w r (s.setPlayer q) = (finish w r s).setPlayer q := by
  by_cases h : s.stat.awaited = w <;> simp [finish, h]

@[simp] theorem answer_setPlayer (r : CmdResult) : answer r (s.setPlayer q) = (answer r s).setPlayer q := by
  simp [answer]

@[simp] theorem leavePending_setPlayer (w : Awaited) :
    leavePending w (s.setPlayer q) = (leavePending w s).setPlayer q := by
  by_cases h : s.stat.awaited = .command <;> simp [leavePending, h]

@[simp] theorem workOut_setPlayer : workOut (s.setPlayer q) = (workOut s).setPlayer q := by
  simp [workOut]

@[simp] theorem workOutSustain_setPlayer : workOutSustain (s.setPlayer q) = (workOutSustain s).setPlayer q := by
  unfold workOutSustain
  by_cases h : (s.ctrl.sustain && !(workOut s).ctrl.sustain && decide ((workOut s).ctrl.op = .performing)) = true
  all_goals simp only [workOut_setPlayer, State.setPlayer_ctrl, State.setPlayer_eng, setEng_setPlayer, h]
  all_goals rfl

@[simp] theorem setOp_setPlayer (op : OpState) : setOp op (s.setPlayer q) = (setOp op s).setPlayer q := by
  simp [setOp]

@[simp] theorem completeSwap_setPlayer : completeSwap (s.setPlayer q) = (completeSwap s).setPlayer q := by
  simp [completeSwap]

@[simp] theorem takeSwap_setPlayer (w : Swap) : takeSwap w (s.setPlayer q) = (takeSwap w s).setPlayer q := by
  by_cases h : w.mode = .restrike ∧ s.ctrl.op = .performing <;> simp [takeSwap, h]

@[simp] theorem endRestrike_setPlayer : endRestrike (s.setPlayer q) = (endRestrike s).setPlayer q := by
  cases h : s.eng.restrikeWalk <;> simp [endRestrike, h]

@[simp] theorem touchesOpen_setPlayer (r : ReadReq) : touchesOpen (s.setPlayer q) r = touchesOpen s r := rfl

@[simp] theorem tryFill_setPlayer : tryFill (s.setPlayer q) = (tryFill s).setPlayer q := by
  cases h : s.tone.slot with
  | waiting r => by_cases hc : s.tone.fill = .none ∧ touchesOpen s r = false <;> simp [tryFill, h, hc]
  | vacant | filling | ready => simp [tryFill, h]

@[simp] theorem closeGroups_setPlayer : closeGroups (s.setPlayer q) = (closeGroups s).setPlayer q := by
  simp [closeGroups]

@[simp] theorem endFilling_setPlayer : endFilling (s.setPlayer q) = (endFilling s).setPlayer q := by
  simp [endFilling]

@[simp] theorem leaveFetch_setPlayer (w : Wait) : leaveFetch w (s.setPlayer q) = (leaveFetch w s).setPlayer q := by
  cases w with
  | entry | program => by_cases h : s.map.engReq.isSome = true <;> simp [leaveFetch, h]
  | push | turnEntry | turnProgram => rfl

@[simp] theorem endItem_setPlayer : endItem (s.setPlayer q) = (endItem s).setPlayer q := by
  cases h : s.eng.item <;> simp [endItem, h]

@[simp] theorem endForHush_setPlayer : endForHush (s.setPlayer q) = (endForHush s).setPlayer q := by
  cases h : itemIsHush s.eng <;> simp [endForHush, h]

@[simp] theorem announceHush_setPlayer : announceHush (s.setPlayer q) = (announceHush s).setPlayer q := by
  simp [announceHush]

@[simp] theorem enterPerforming_setPlayer : enterPerforming (s.setPlayer q) = (enterPerforming s).setPlayer q := by
  simp [enterPerforming]

@[simp] theorem enterSettling_setPlayer : enterSettling (s.setPlayer q) = (enterSettling s).setPlayer q := by
  simp [enterSettling]

@[simp] theorem fetchGranted_setPlayer : fetchGranted (s.setPlayer q) = fetchGranted s := rfl

@[simp] theorem overtake_setPlayer (n : Bank → Pos → Bool) :
    overtake n (s.setPlayer q) = (overtake n s).setPlayer q := by
  cases hf : s.map.fetch with
  | none => simp [overtake, hf]
  | some f =>
    cases hk : f.kind with
    | entry b p => by_cases hc : (fetchGranted s && n b p) = true <;> simp [overtake, hf, hk, hc]
    | program | reload | argument | descriptor | sections => simp [overtake, hf, hk]

@[simp] theorem flushCache_setPlayer : flushCache (s.setPlayer q) = (flushCache s).setPlayer q := by
  simp [flushCache]

@[simp] theorem takeReinit_setPlayer : takeReinit (s.setPlayer q) = (takeReinit s).setPlayer q := by
  simp only [takeReinit, ← leavePending_setPlayer]
  rfl

/-! ### The commands that test a swap against the queued P writes (R153) -/

/-- With the P write queue `q` each bank's region is waited for just as it is now. -/
def SameBanks (q : PlayerQueue) (s : State) : Prop := ∀ b, holdsBank (s.setPlayer q) b = holdsBank s b

variable {s q}

theorem SameBanks.of_eq {t : State} (h : SameBanks q s) (hc : t.ctrl.desc = s.ctrl.desc) (hp : t.player = s.player) :
    SameBanks q t := by
  intro b
  have := h b
  simpa [holdsBank, Control.copy, hc, hp] using this

theorem testSwap_setPlayer (h : SameBanks q s) : testSwap (s.setPlayer q) = (testSwap s).setPlayer q := by
  cases hw : s.ctrl.swap with
  | none => simp [testSwap, hw]
  | some w => by_cases hc : (!w.taken && !holdsBank s w.incoming) = true <;> simp [testSwap, hw, h w.incoming, hc]

theorem enterTransparent_setPlayer (h : SameBanks q s) :
    enterTransparent (s.setPlayer q) = (enterTransparent s).setPlayer q := by
  simp only [enterTransparent, setOp_setPlayer, workOut_setPlayer, setBellows_setPlayer]
  exact testSwap_setPlayer (h.of_eq (by simp) (by simp))

theorem actPerform_setPlayer : actPerform (s.setPlayer q) = (actPerform s).setPlayer q := by
  cases ho : s.ctrl.op with
  | transparent =>
    by_cases hc : s.eng.hushPending ≠ .clear ∨ itemIsHush s.eng = true <;> simp [actPerform, ho, hc]
  | performing | settling | held | init => simp [actPerform, ho]

theorem actSettle_setPlayer : actSettle (s.setPlayer q) = (actSettle s).setPlayer q := by
  cases ho : s.ctrl.op <;> simp [actSettle, ho]

theorem actCut_setPlayer (h : s.ctrl.op = .performing → SameBanks q s) :
    actCut (s.setPlayer q) = (actCut s).setPlayer q := by
  cases ho : s.ctrl.op with
  | performing => simp [actCut, ho, enterTransparent_setPlayer ((h ho).of_eq (t := announceHush s) (by simp) (by simp))]
  | transparent | settling | held | init => simp [actCut, ho]

theorem actSwap_setPlayer (m : SwapMode) (h : SameBanks q s) :
    actSwap m (s.setPlayer q) = (actSwap m s).setPlayer q := by
  by_cases hb : (s.ctrl.swap.isSome || s.eng.restrikeWalk) = true
  · simp [actSwap, hb]
  · by_cases ho : s.ctrl.op = .transparent
    · simp [actSwap, hb, ho, testSwap_setPlayer, h.of_eq]
    · simp [actSwap, hb, ho]

theorem actSustain_setPlayer (on : Bool) : actSustain on (s.setPlayer q) = (actSustain on s).setPlayer q := by
  simp [actSustain]

theorem actGuard_setPlayer (a : Word) : actGuard a (s.setPlayer q) = (actGuard a s).setPlayer q := by
  cases hl : s.ctrl.guard.lock with
  | true => simp [actGuard, hl]
  | false =>
    cases hm : guardModeOf a with
    | none => simp [actGuard, hl, hm]
    | some m => by_cases hc : fieldAt a 8 8 < fieldAt a 0 8 <;> simp [actGuard, hl, hm, hc]

theorem actPlain_setPlayer (o : Opcode) : actPlain o (s.setPlayer q) = (actPlain o s).setPlayer q := by
  cases o with
  | perform => exact actPerform_setPlayer
  | panic | guardLock | flush | reinit => simp [actPlain, actGuardLock]
  | standby | swap | sustain | guard | ack => rfl

theorem actWith_setPlayer (o : Opcode) (a : Word) (hc : s.ctrl.op = .performing → SameBanks q s)
    (hs : o = .swap → SameBanks q s) : actWith o a (s.setPlayer q) = (actWith o a s).setPlayer q := by
  cases o with
  | standby =>
    unfold actWith
    dsimp only []
    generalize fieldAt a 0 2 = n
    match n with
    | 1 => exact actSettle_setPlayer
    | 2 => exact actCut_setPlayer hc
    | 0 | _ + 3 => exact answer_setPlayer s q _
  | swap =>
    unfold actWith
    cases swapModeOf a with
    | none => exact answer_setPlayer s q _
    | some m => exact actSwap_setPlayer m (hs rfl)
  | sustain =>
    unfold actWith
    dsimp only []
    generalize fieldAt a 0 2 = n
    match n with
    | 0 => exact actSustain_setPlayer false
    | 1 => exact actSustain_setPlayer true
    | _ + 2 => exact answer_setPlayer s q _
  | guard => exact actGuard_setPlayer a
  | ack => simp [actWith]
  | perform | panic | guardLock | reinit | flush => simp only [actWith, actPlain_setPlayer]

/-- A command does the same with another P write queue, as far as it may test a swap. -/
theorem takeCommand_setPlayer {word0 : Word} {arg : Option Word} {n : Nat}
    (hp : s.ctrl.op = .performing → s.ctrl.valid = true) (h : s.ctrl.valid = true → SameBanks q s) :
    takeCommand word0 arg n (s.setPlayer q) = (takeCommand word0 arg n s).setPlayer q := by
  have hb : SameBanks q s → SameBanks q (takeOpcode (byteAt word0 0) s) := fun h => h.of_eq (by simp) (by simp)
  simp only [takeCommand, takeOpcode_setPlayer, State.setPlayer_ctrl, takeOpcode_ctrl]
  cases opcodeOf (byteAt word0 0) with
  | none => exact answer_setPlayer _ q _
  | some o =>
    dsimp only []
    by_cases hbusy : s.ctrl.command.isSome = true ∧ o ≠ .panic ∧ o ≠ .reinit
    · rw [if_pos hbusy, if_pos hbusy, answer_setPlayer]
    rw [if_neg hbusy, if_neg hbusy]
    by_cases hval : s.ctrl.valid = false ∧ o.anyDescriptor = false
    · rw [if_pos hval, if_pos hval, answer_setPlayer]
    rw [if_neg hval, if_neg hval]
    cases o.hasArg with
    | false => exact actPlain_setPlayer o
    | true =>
      cases arg with
      | none => rfl
      | some a =>
        refine actWith_setPlayer o a (fun ho => hb (h (hp (by simpa using ho)))) fun ho => hb (h ?_)
        subst ho
        simpa [Opcode.anyDescriptor] using hval

/-! ### What the status record keeps of a command that has been taken (R166) -/

/-- The last opcode and the command count are as they were. -/
def CommandCountKept (s t : State) : Prop :=
  t.stat.lastOpcode = s.stat.lastOpcode ∧ t.stat.cmdCount = s.stat.cmdCount

theorem actPerform_count : CommandCountKept s (actPerform s) := by
  cases ho : s.ctrl.op with
  | transparent =>
    by_cases hc : s.eng.hushPending ≠ .clear ∨ itemIsHush s.eng = true
    all_goals simp [CommandCountKept, actPerform, answer, ho, hc]
  | performing | settling | held | init => simp [CommandCountKept, actPerform, answer, ho]

theorem enterSettling_count : CommandCountKept s (enterSettling s) := by
  simp [CommandCountKept, enterSettling]

theorem actSettle_count : CommandCountKept s (actSettle s) := by
  obtain ⟨h₁, h₂⟩ := enterSettling_count (s := s)
  cases ho : s.ctrl.op <;> simp [CommandCountKept, actSettle, answer, ho, h₁, h₂]

theorem actCut_count : CommandCountKept s (actCut s) := by
  cases ho : s.ctrl.op <;> simp [CommandCountKept, actCut, answer, ho]

theorem actSwap_count (m : SwapMode) : CommandCountKept s (actSwap m s) := by
  by_cases hb : (s.ctrl.swap.isSome || s.eng.restrikeWalk) = true
  · simp [CommandCountKept, actSwap, answer, hb]
  · by_cases ho : s.ctrl.op = .transparent <;> simp [CommandCountKept, actSwap, hb, ho]

theorem actGuard_count (a : Word) : CommandCountKept s (actGuard a s) := by
  cases hl : s.ctrl.guard.lock with
  | true => simp [CommandCountKept, actGuard, answer, hl]
  | false =>
    cases hm : guardModeOf a with
    | none => simp [CommandCountKept, actGuard, answer, hl, hm]
    | some m => by_cases hc : fieldAt a 8 8 < fieldAt a 0 8 <;> simp [CommandCountKept, actGuard, answer, hl, hm, hc]

theorem answer_count (r : CmdResult) : CommandCountKept s (answer r s) := by
  simp [CommandCountKept, answer]

theorem actSustain_count (on : Bool) : CommandCountKept s (actSustain on s) := by
  simp [CommandCountKept, actSustain, answer]

theorem ackFlags_count (m : BitVec 7) : CommandCountKept s (ackFlags m s) := by
  unfold ackFlags
  dsimp only []
  split
  all_goals simp [CommandCountKept]

theorem actPlain_count (o : Opcode) : CommandCountKept s (actPlain o s) := by
  cases o with
  | perform => exact actPerform_count
  | reinit => simp [CommandCountKept, actPlain, takeReinit]
  | panic | guardLock | flush => simp [CommandCountKept, actPlain, actGuardLock, answer, flushCache]
  | standby | swap | sustain | guard | ack => exact ⟨rfl, rfl⟩

theorem actWith_count (o : Opcode) (a : Word) : CommandCountKept s (actWith o a s) := by
  cases o with
  | standby =>
    unfold actWith
    dsimp only []
    generalize fieldAt a 0 2 = n
    match n with
    | 1 => exact actSettle_count
    | 2 => exact actCut_count
    | 0 | _ + 3 => exact answer_count _
  | swap =>
    unfold actWith
    cases swapModeOf a with
    | none => exact answer_count _
    | some m => exact actSwap_count m
  | sustain =>
    unfold actWith
    dsimp only []
    generalize fieldAt a 0 2 = n
    match n with
    | 0 => exact actSustain_count false
    | 1 => exact actSustain_count true
    | _ + 2 => exact answer_count _
  | guard => exact actGuard_count a
  | ack =>
    obtain ⟨h₁, h₂⟩ := ackFlags_count (s := s) (bitsAt a 0 7)
    simp [CommandCountKept, actWith, answer, h₁, h₂]
  | perform | panic | guardLock | reinit | flush =>
    simp only [actWith]
    exact actPlain_count _

/-- The status record names the command taken, with any result (R166). -/
theorem takeCommand_count (word0 : Word) (arg : Option Word) (n : Nat) :
    (takeCommand word0 arg n s).stat.lastOpcode = byteAt word0 0 ∧
    (takeCommand word0 arg n s).stat.cmdCount = s.stat.cmdCount + 1 := by
  have key {t : State} (h : CommandCountKept (takeOpcode (byteAt word0 0) s) t) :
      t.stat.lastOpcode = byteAt word0 0 ∧ t.stat.cmdCount = s.stat.cmdCount + 1 := by
    obtain ⟨h₁, h₂⟩ := h
    exact ⟨by simp [h₁], by simp [h₂]⟩
  unfold takeCommand
  dsimp only []
  cases opcodeOf (byteAt word0 0) with
  | none => exact key (answer_count _)
  | some o =>
    dsimp only []
    split
    · exact key (answer_count _)
    split
    · exact key (answer_count _)
    split
    · cases arg with
      | none => exact key ⟨rfl, rfl⟩
      | some a => exact key (actWith_count o a)
    · exact key (actPlain_count o)

end Sys2Proof.Machine
end

section
/-! PROOFS. An accepted P write: deferred for room, or posted with the command that it names (R22, R28, R29, R46,
R165). -/

namespace Sys2Proof.Machine

/-! ### Deferred for room (R29, R46, R178) -/

section Deferred

variable {s : State} {w : WriteReq} (ho : POpen s) (hb : badForm w = false)
  (hf : firstRefused (refusesPWrite s.ctrl) (namedAddrs w.toReadReq) = none)
include ho hb hf

theorem pWrite_of_full (hq : 8 ≤ s.player.writes.length) :
    pWrite w s = answerP .defer (setCounters (fun c => { c with pQueueDefers := bump c.pQueueDefers }) s) := by
  simp [pWrite, ho.1, ho.2, hb, hf, Config.pQueueMax, hq]

theorem pWrite_of_scanDefers (hq : s.player.writes.length < 8) (hs : scanDefers s (namedWords w) = true) :
    pWrite w s = answerP .defer (setCounters (fun c => { c with scanDefers := bump c.scanDefers }) s) := by
  simp [pWrite, ho.1, ho.2, hb, hf, Config.pQueueMax, Nat.not_le.mpr hq, hs]

end Deferred

theorem onlyAnswered_defer (g : Counters → Counters) (s : State) :
    OnlyAnswered s (answerP .defer (setCounters g s)) := by
  simp [OnlyAnswered, answerP]

theorem defer_stat (g : Counters → Counters) (s : State) :
    (answerP .defer (setCounters g s)).stat.counters = g s.stat.counters ∧
    (answerP .defer (setCounters g s)).stat.flags = s.stat.flags ∧
    (answerP .defer (setCounters g s)).stat.faultLog = s.stat.faultLog := by
  simp [answerP]

/-! ### Where no block watches (R28) -/

section Unwatched

variable {s : State} {w : WriteReq}

theorem announced_unwatched (hn : TakesNoCommand s w)
    (h : ∀ x ∈ partAreas s w, x ∈ [Area.descriptor, .command, .spareLow, .spareHigh, .programs, .ram, .other]) :
    announced w s = accepted w s := by
  refine announced_induction hn (P := fun l t =>
    (∀ x ∈ l, x ∈ [Area.descriptor, .command, .spareLow, .spareHigh, .programs, .ram, .other]) → t = accepted w s)
    (fun _ => rfl) (fun l x t hk _ ih hl => ?_) h
  have ht := ih fun y hy => hl y (by simp [hy])
  have hx := hl x (by simp)
  cases x with
  | command => rw [announce_command_part hn (hk.ctrl.trans (accepted_ctrl w s)), ht]
  | descriptor | spareLow | spareHigh | programs | ram | other => exact ht
  | _ => simp at hx

end Unwatched

/-! ### The command slot (R165) -/

/-- An address of the control block. -/
def InControl (c : Control) (a : Addr) : Prop := controlBase c.dsel ≤ a.toNat ∧ a.toNat < controlBase c.dsel + 512

theorem inControl_of_command {c : Control} {a : Addr} (h : areaOf c a = .command) : InControl c a := by
  have := bounds_of_command h
  exact ⟨by omega, by omega⟩

/-- A write with a word of the command slot lies in the control block. -/
theorem inControl_of_mem {c : Control} {r : ReadReq} {a b : Addr} (ha : a ∈ namedAddrs r) (hc : areaOf c a = .command)
    (hb : b ∈ namedAddrs r) : InControl c b := by
  obtain ⟨i, hi, rfl⟩ := mem_namedAddrs ha
  obtain ⟨j, hj, rfl⟩ := mem_namedAddrs hb
  obtain ⟨h₁, h₂⟩ := bounds_of_command hc
  exact wordAddr_control hi hj h₁ h₂

/-- The command slot is the one area of the control block that a block watches. -/
theorem announce_of_inControl {c : Control} {a : Addr} (ha : InControl c a) (hc : areaOf c a ≠ .command)
    (ws : List NamedWord) (s : State) : announce (areaOf c a) ws s = s := by
  obtain ⟨h₁, h₂⟩ := ha
  rw [areaOf_control h₁ h₂] at hc ⊢
  unfold controlPart at hc ⊢
  split
  · rfl
  split
  · next h₃ h₄ => simp [h₃, h₄] at hc
  repeat' split
  all_goals rfl

section Command

variable {s : State} {w : WriteReq} (hall : ∀ v ∈ namedWords w, InControl s.ctrl v.addr)
include hall

theorem foldl_announce_control {l : List Area} (hl : ∀ x ∈ l, x ∈ partAreas s w ∧ x ≠ .command) (t : State) :
    l.foldl (fun t x => announce x (partOf s.ctrl x (namedWords w)) t) t = t := by
  refine List.foldlRecOn (motive := (· = t)) l _ rfl fun u hu x hx => ?_
  obtain ⟨hm, hne⟩ := hl x hx
  obtain ⟨v, hv, rfl⟩ := mem_partAreas.mp hm
  rw [announce_of_inControl (hall v hv) hne, hu]

/-- Of the parts of a write of the command slot, its own alone does anything. -/
theorem announced_command (hc : .command ∈ partAreas s w) :
    announced w s = announceCommand (partOf s.ctrl .command (namedWords w)) (accepted w s) := by
  obtain ⟨l, r, hlr⟩ := List.append_of_mem hc
  have hnd : (partAreas s w).Nodup := areasInOrder_nodup _ _
  have hmem {x : Area} (hx : x ∈ l ∨ x ∈ r) : x ∈ partAreas s w ∧ x ≠ .command := by
    rw [hlr] at hnd ⊢
    refine ⟨by simp only [List.mem_append, List.mem_cons]; tauto, fun e => ?_⟩
    subst e
    exact (List.nodup_middle.mp hnd).notMem (List.mem_append.mpr hx)
  rw [announced, hlr, List.foldl_append, foldl_announce_control hall (fun x hx => hmem (.inl hx)), List.foldl_cons,
    foldl_announce_control hall (fun x hx => hmem (.inr hx))]
  rfl

end Command

/-- What is looked for at an address of the command slot is found in its part of the write or nowhere. -/
theorem find?_part_command {c : Control} {ws : List NamedWord} {p : NamedWord → Bool}
    (h : ∀ v, p v = true → areaOf c v.addr = .command) :
    (partOf c .command ws).find? p = ws.find? p := by
  rw [partOf, List.find?_filter]
  congr 1
  funext v
  cases hp : p v with
  | false => simp
  | true => simp [h v hp]

theorem find?_commandWord {w : WriteReq} (hal : w.start.toNat % 4 = 0) {x : NamedWord} {a : Addr}
    (hx : x ∈ namedWords w) (ha : x.addr = a) (hm : x.mask = 0xF) :
    (namedWords w).find? (fun v => decide (v.addr = a ∧ v.mask = 0xF)) = some x := by
  cases hf : (namedWords w).find? fun v => decide (v.addr = a ∧ v.mask = 0xF) with
  | none => simpa [ha, hm] using List.find?_eq_none.mp hf x hx
  | some v =>
    have hv := List.find?_some hf
    simp only [decide_eq_true_eq] at hv
    obtain ⟨hv, -⟩ := hv
    rw [namedWords_eq_of_addr hal (List.mem_of_find?_eq_some hf) hx (hv.trans ha.symm)]

/-- A write that writes all four bytes of word 0 of the command slot takes the command that its words give. -/
theorem announced_takes {s : State} {w : WriteReq} (hal : w.start.toNat % 4 = 0) {x : NamedWord}
    (hx : x ∈ namedWords w) (ha : x.addr = controlAddr s.ctrl 0x80) (hm : x.mask = 0xF) :
    announced w s = takeCommand x.data
      (((namedWords w).find? fun v => decide (v.addr = controlAddr s.ctrl 0x84)).map (·.data))
      s.player.writes.length (accepted w s) := by
  obtain ⟨h80, h84, -⟩ := controlAddr_command s.ctrl
  have hcmd : areaOf s.ctrl x.addr = .command := ha ▸ h80
  have hmem (v : NamedWord) (hv : v ∈ namedWords w) : v.addr ∈ namedAddrs w.toReadReq :=
    map_addr_namedWords w ▸ List.mem_map_of_mem hv
  rw [announced_command (fun v hv => inControl_of_mem (hmem x hx) hcmd (hmem v hv))
    (mem_partAreas.mpr ⟨x, hx, hcmd⟩)]
  have h₀ : (partOf s.ctrl .command (namedWords w)).find?
      (fun v => decide (v.addr = controlAddr s.ctrl 0x80 ∧ v.mask = 0xF)) = some x := by
    rw [find?_part_command fun v hv => (of_decide_eq_true hv).1 ▸ h80]
    exact find?_commandWord hal hx ha hm
  have h₁ : (partOf s.ctrl .command (namedWords w)).find? (fun v => decide (v.addr = controlAddr s.ctrl 0x84)) =
      (namedWords w).find? fun v => decide (v.addr = controlAddr s.ctrl 0x84) :=
    find?_part_command fun v hv => of_decide_eq_true hv ▸ h84
  unfold announceCommand
  simp only [accepted_ctrl, Config.commandOffset, accepted_player, List.length_append, List.length_singleton,
    Nat.add_sub_cancel]
  rw [h₀, h₁]

/-! ### The command's own row (R153, R165) -/

/-- A write into the control block holds no bank's region. -/
theorem holdsArea_append_control {c : Control} (hl : Laid c.copy (controlBase c.dsel)) {w : WriteReq}
    (hw : ∀ a ∈ namedAddrs w.toReadReq, InControl c a) (q : PlayerQueue) (b : Bank) :
    holdsArea { q with writes := q.writes ++ [w] } (c.copy.mapBase b).toNat 1024 =
      holdsArea q (c.copy.mapBase b).toNat 1024 := by
  have hno : ((namedAddrs w.toReadReq).any fun a => within (c.copy.mapBase b).toNat 1024 a.toNat) = false := by
    rw [List.any_eq_false]
    intro a ha hin
    obtain ⟨h₁, h₂⟩ := hw a ha
    have hin : (c.copy.mapBase b).toNat ≤ a.toNat ∧ a.toNat < (c.copy.mapBase b).toNat + 1024 := of_decide_eq_true hin
    have hA := hl.control ⟨c.copy.mapA.toNat, 1024, 3⟩ (by simp [Desc.regions])
    have hB := hl.control ⟨c.copy.mapB.toNat, 1024, 4⟩ (by simp [Desc.regions])
    simp only [overlap, decide_eq_false_iff_not] at hA hB
    cases b
    all_goals
      simp only [Desc.mapBase] at hin
      omega
  simp only [holdsArea, List.any_append, List.any_cons, List.any_nil, hno, Bool.or_false]

theorem inControl_commandRequest (c : Control) (op : Byte) (k : CmdWrite) :
    ∀ a ∈ namedAddrs (commandRequest c op k).toReadReq, InControl c a := by
  obtain ⟨h80, h84, -⟩ := controlAddr_command c
  intro a ha
  rw [namedAddrs_command] at ha
  cases hk : k.arg with
  | none =>
    rw [hk] at ha
    rw [List.mem_singleton.mp ha]
    exact inControl_of_command h80
  | some x =>
    rw [hk] at ha
    rcases List.mem_cons.mp ha with rfl | ha
    · exact inControl_of_command h80
    · rw [List.mem_singleton.mp ha]
      exact inControl_of_command h84

/-- A command does the same, whichever writes of the control block stand last in the queue. -/
theorem takeCommand_accepted {s : State} {v w : WriteReq} (hc : ControlLaw s)
    (hv : ∀ a ∈ namedAddrs v.toReadReq, InControl s.ctrl a) (hw : ∀ a ∈ namedAddrs w.toReadReq, InControl s.ctrl a)
    (word0 : Word) (arg : Option Word) (n : Nat) :
    takeCommand word0 arg n (accepted w s) =
      (takeCommand word0 arg n (accepted v s)).setPlayer { s.player with writes := s.player.writes ++ [w] } := by
  obtain ⟨-, hperf, hval, -⟩ := hc
  have heq : accepted w s = (accepted v s).setPlayer { s.player with writes := s.player.writes ++ [w] } := rfl
  rw [heq]
  refine takeCommand_setPlayer (fun ho => ?_) fun hvalid b => ?_
  · rw [accepted_ctrl] at ho ⊢
    exact hperf (.inl ho)
  · rw [accepted_ctrl] at hvalid
    have hl := laid_of_check (hval hvalid).2
    simp only [holdsBank, State.setPlayer_player, State.setPlayer_ctrl, accepted_ctrl, accepted_player]
    rw [holdsArea_append_control hl hw, holdsArea_append_control hl hv]

/-- Settles O29: the room is judged last; a part of the command slot takes the command, which acts as its own row has
it, since no write into the control block holds a swap back. -/
theorem pWritesArePostedOrDeferred : Obligations.PWritesArePostedOrDeferred := by
  refine ⟨fun s w ho hb hf => ⟨fun hq => ?_, fun hq hs => ?_⟩, fun s w h hn hall => ?_,
    fun s w i op c x hlaw h hi hx hadr hm hdata harg => ?_⟩
  · refine ⟨_, congrArg Host.Outcome.next (pWrite_of_full ho hb hf hq), onlyAnswered_defer _ s,
      by simp [answerP], defer_stat _ s⟩
  · have hd : scanDefers s (namedWords w) = true := decide_eq_true hs
    refine ⟨_, congrArg Host.Outcome.next (pWrite_of_scanDefers ho hb hf hq hd), onlyAnswered_defer _ s,
      by simp [answerP], defer_stat _ s⟩
  · have hareas (x : Area) (hx : x ∈ partAreas s w) :
        x ∈ [Area.descriptor, .command, .spareLow, .spareHigh, .programs, .ram, .other] := by
      obtain ⟨v, hv, rfl⟩ := mem_partAreas.mp hx
      exact hall v.addr (map_addr_namedWords w ▸ List.mem_map_of_mem hv)
    obtain ⟨hpost, hports, hctrl, heng, -⟩ := posted_announced hn
    refine ⟨_, exec_pWrite_accepted h, hpost, hports, ?_, hctrl, ?_, heng, ?_, ?_⟩
    all_goals simp [CachesKept, announced_unwatched hn hareas]
  · have hal := start_aligned h
    have hcmd : areaOf s.ctrl x.addr = .command := by
      rw [hadr]
      exact (controlAddr_command s.ctrl).1
    have hmem {v : NamedWord} (hv : v ∈ namedWords w) : v.addr ∈ namedAddrs w.toReadReq :=
      map_addr_namedWords w ▸ List.mem_map_of_mem hv
    have htake := announced_takes hal hx hadr hm
    rw [hdata, show controlAddr s.ctrl 0x84 = BitVec.ofNat 24 (controlBase s.ctrl.dsel + 0x84) from rfl, ← harg,
      takeCommand_accepted hlaw (inControl_commandRequest s.ctrl op c)
        (fun a ha => inControl_of_mem (hmem hx) hcmd ha)] at htake
    have hu : exec i s = .next (chooseFetch (takeCommand (c.high ++ op) c.arg s.player.writes.length
        (accepted (commandRequest s.ctrl op c) s))) := by
      obtain ⟨⟨hw, hread⟩, -, -, hq, -⟩ := h
      rw [exec_commandOf hi, commandWrite_taken hw hread hq]
      rfl
    obtain ⟨hop, hcount⟩ := takeCommand_count (s := accepted (commandRequest s.ctrl op c) s) (c.high ++ op) c.arg
      s.player.writes.length
    refine ⟨_, _, exec_pWrite_accepted h, hu, ?_⟩
    rw [htake]
    refine ⟨by simp, by simp [hop, byteAt_commandWord], by simp [hcount], ?_, by simp⟩
    rw [chooseFetch_ctrl (takeCommand _ _ _ (accepted (commandRequest s.ctrl op c) s)), chooseFetch_ctrl]
    rfl

end Sys2Proof.Machine
end

section
/-! PROOFS. The level sweep's place as slots leave the sounding order, and the run of a record's releases (R107, R117,
R132). -/

namespace Sys2Proof.Machine

/-! ### The place after slots that leave one after another (R132) -/

section Next

variable {α : Type} [DecidableEq α]

theorem nextAfter_cons_self (x : α) (l : List α) : nextAfter x (x :: l) = l.head? := by
  cases l <;> simp [nextAfter]

theorem nextAfter_cons_of_ne {x y : α} (h : y ≠ x) (l : List α) : nextAfter x (y :: l) = nextAfter x l := by
  cases l <;> simp [nextAfter, h]

/-- The element after `j` among those that stay. -/
theorem nextAfter_filter {p : α → Bool} {j : α} (hj : p j = true) {l : List α} (hl : l.Nodup) :
    nextAfter j (l.filter p) = (l.dropWhile fun x => decide (x ≠ j)).find? fun x => p x && decide (x ≠ j) := by
  induction l with
  | nil => rfl
  | cons y l ih =>
    obtain ⟨hy, hl⟩ := List.nodup_cons.mp hl
    by_cases h : y = j
    · subst h
      have hfind : (l.find? fun x => p x && decide (x ≠ y)) = l.find? p :=
        List.find?_congr fun x hx => by simp [ne_of_mem_of_not_mem hx hy]
      rw [List.filter_cons_of_pos hj, nextAfter_cons_self, List.head?_filter, List.dropWhile_cons_of_neg (by simp),
        List.find?_cons_of_neg (by simp), hfind]
    · have hfilter : nextAfter j ((y :: l).filter p) = nextAfter j (l.filter p) := by
        cases hp : p y with
        | true => rw [List.filter_cons_of_pos hp, nextAfter_cons_of_ne h]
        | false => rw [List.filter_cons_of_neg (by simp [hp])]
      rw [hfilter, ih hl, List.dropWhile_cons_of_pos (by simpa using h)]

/-- Where `j` is the first that stays, what follows it is what stays without it. -/
theorem find?_past_first {p : α → Bool} {j : α} {l : List α} (h : l.find? p = some j) :
    (l.find? fun x => p x && decide (x ≠ j)) =
      (l.dropWhile fun x => decide (x ≠ j)).find? fun x => p x && decide (x ≠ j) := by
  induction l with
  | nil => rfl
  | cons y l ih =>
    by_cases hy : y = j
    · subst hy
      simp
    · cases hp : p y with
      | true => simp [hp, hy] at h
      | false =>
        rw [List.find?_cons_of_neg (by simp [hp]), List.dropWhile_cons_of_pos (by simpa using hy)]
        exact ih (by simpa [hp] using h)

theorem find?_past_later {p : α → Bool} {i j : α} {l : List α} (hl : l.Nodup)
    (h : (l.dropWhile fun x => decide (x ≠ i)).find? p = some j) :
    ((l.dropWhile fun x => decide (x ≠ i)).find? fun x => p x && decide (x ≠ j)) =
      (l.dropWhile fun x => decide (x ≠ j)).find? fun x => p x && decide (x ≠ j) := by
  induction l with
  | nil => rfl
  | cons y l ih =>
    obtain ⟨hy, hl⟩ := List.nodup_cons.mp hl
    by_cases hi : y = i
    · rw [List.dropWhile_cons_of_neg (by simpa using hi)] at h ⊢
      exact find?_past_first h
    · rw [List.dropWhile_cons_of_pos (by simpa using hi)] at h ⊢
      have hj : j ∈ l := (List.dropWhile_sublist _).subset (List.mem_of_find?_eq_some h)
      have hne : y ≠ j := fun e => hy (e ▸ hj)
      rw [List.dropWhile_cons_of_pos (l := l) (by simpa using hne)]
      exact ih hl h

theorem find?_of_ne_first {p : α → Bool} {j : α} {l : List α} (h : l.find? p ≠ some j) :
    (l.find? fun x => p x && decide (x ≠ j)) = l.find? p := by
  induction l with
  | nil => rfl
  | cons y l ih =>
    cases hp : p y with
    | true =>
      have hy : y ≠ j := fun e => h (by rw [List.find?_cons_of_pos hp, e])
      simp [hp, hy]
    | false =>
      rw [List.find?_cons_of_neg (by simp [hp]), List.find?_cons_of_neg (by simp [hp])]
      exact ih (by simpa [hp] using h)

end Next

section Passing

variable {gone : List Slot} {e : Engine} {i : Slot}

theorem sweepPassing_of_mem (h : e.sweep = some i) (hi : i ∈ gone) : sweepPassing gone e =
    (e.order.dropWhile fun j => decide (j ≠ i)).find? fun j => !gone.contains j := by
  simp [sweepPassing, h, hi]

theorem sweepPassing_of_not_mem (h : e.sweep = some i) (hi : i ∉ gone) : sweepPassing gone e = some i := by
  simp [sweepPassing, h, hi]

theorem sweepPassing_of_none (h : e.sweep = none) : sweepPassing gone e = none := by
  simp [sweepPassing, h]

theorem sweepPassing_nil (e : Engine) : sweepPassing [] e = e.sweep := by
  cases h : e.sweep with
  | none => exact sweepPassing_of_none h
  | some i => exact sweepPassing_of_not_mem h List.not_mem_nil

end Passing

/-- One more slot leaves the sounding order after those of `gone`. -/
theorem sweepPassing_append {e e' : Engine} {gone : List Slot} {j : Slot} (hn : e.order.Nodup) (hj : j ∉ gone)
    (ho : e'.order = e.order.filter fun i => !gone.contains i) (hs : e'.sweep = sweepPassing gone e) :
    sweepLeaving j e' = sweepPassing (gone ++ [j]) e := by
  have hq : (fun x => !(gone ++ [j]).contains x) = fun x => (!gone.contains x) && decide (x ≠ j) := by
    funext x
    simp
  have hnext : nextAfter j e'.order =
      (e.order.dropWhile fun x => decide (x ≠ j)).find? fun x => !(gone ++ [j]).contains x := by
    rw [ho, nextAfter_filter (by simpa using hj) hn, hq]
  cases h : e.sweep with
  | none => rw [sweepLeaving, hs, sweepPassing_of_none h, sweepPassing_of_none h, if_neg (by simp)]
  | some i =>
    by_cases hi : i ∈ gone
    · rw [sweepLeaving, hs, sweepPassing_of_mem h hi, sweepPassing_of_mem h (List.mem_append_left _ hi), hnext, hq]
      split
      · next hf => exact (find?_past_later hn hf).symm
      · next hf => exact (find?_of_ne_first hf).symm
    · rw [sweepLeaving, hs, sweepPassing_of_not_mem h hi, hnext]
      by_cases hij : i = j
      · subst hij
        rw [if_pos rfl, sweepPassing_of_mem h (by simp)]
      · rw [if_neg (by simpa using hij), sweepPassing_of_not_mem h (by simp [hi, hij])]

end Sys2Proof.Machine
end

section
/-! PROOFS. The run of a record's releases, in one group of their own (R96, R99, R107, R117, R132). -/

namespace Sys2Proof.Machine

/-! ### The group of the run (R117) -/

/-- The group that the releases of `l` fill. -/
def openedGroup (s : State) (l : List Slot) : Group :=
  { tag := s.voice.nextTag, slots := l, started := [], notLanded := l.length, filling := true,
    openedAt := s.timebase, late := false }

theorem fillingGroup_eq_none {v : VoiceWriter} (h : ∀ g ∈ v.groups, g.filling = false) : fillingGroup v = none :=
  List.find?_eq_none.mpr fun g hg => by simp [h g hg]

theorem fillingGroup_last {v : VoiceWriter} {gs : List Group} {g : Group} (hv : v.groups = gs ++ [g])
    (h : ∀ x ∈ gs, x.filling = false) (hg : g.filling = true) : fillingGroup v = some g := by
  have : gs.find? (·.filling) = none := List.find?_eq_none.mpr fun x hx => by simp [h x hx]
  simp [fillingGroup, hv, List.find?_append, this, hg]

theorem joinGroup_last {v : VoiceWriter} {gs : List Group} {g : Group} (hv : v.groups = gs ++ [g])
    (h : ∀ x ∈ gs, x.filling = false) (hg : g.filling = true) {i : Slot} (hi : i ∉ g.slots) (now : Nat) :
    (joinGroup i false now v).groups = gs ++ [{ g with slots := g.slots ++ [i], notLanded := g.notLanded + 1 }] := by
  have hgs (f : Group → Group) : gs.map (fun x => if x.filling then f x else x) = gs :=
    (List.map_congr_left (g := id) fun x hx => by simp [h x hx]).trans gs.map_id
  simp only [joinGroup, fillingGroup_last hv h hg, hv, List.map_append, List.map_singleton, hg, if_true, hgs]
  simp [addSlot, hi]

/-! ### One release -/

/-- Slot `i` becomes FREE with its release (R107). -/
def latchZero (s : State) (i : Slot) : Bool := decide ((s.map.sects.get (s.eng.mirror.get i).sect).latch = 0)

theorem releasePush_freeing {s : State} {i : Slot} (h : latchZero s i = true) (p : Pos) :
    releasePush s p i = .freeing i true := if_pos (of_decide_eq_true h)

theorem releasePush_releasing {s : State} {i : Slot} (h : latchZero s i = false) (p : Pos) :
    releasePush s p i = .releasing p i (s.map.sects.get (s.eng.mirror.get i).sect).latch :=
  if_neg (of_decide_eq_false h)

theorem releasePush_grouped (s : State) (p : Pos) (i : Slot) :
    (releasePush s p i).grouped = true ∧ (releasePush s p i).slot = i ∧ (releasePush s p i).starts = false ∧
    (releasePush s p i).steals = false := by
  cases h : latchZero s i with
  | true => rw [releasePush_freeing h]; exact ⟨rfl, rfl, rfl, rfl⟩
  | false => rw [releasePush_releasing h]; exact ⟨rfl, rfl, rfl, rfl⟩

/-- The write of a release (R99, R107). -/
theorem pushedWrite_release (s : State) (p : Pos) (i : Slot) :
    pushedWrite s (releasePush s p i) = releaseWrite s p (pushTag s.voice) i := by
  cases h : latchZero s i with
  | true =>
    rw [releasePush_freeing h, releaseWrite, if_pos (of_decide_eq_true h)]
    rfl
  | false =>
    rw [releasePush_releasing h, releaseWrite, if_neg (of_decide_eq_false h)]
    rfl

/-- The engine after a release. -/
theorem pushEngine_release {s : State} {i : Slot} (hi : i ∈ s.eng.order) (p : Pos) :
    pushEngine s (releasePush s p i) s.eng = { s.eng with
      mirror := s.eng.mirror.set i (releasedRec s i)
      order := if latchZero s i then s.eng.order.filter fun j => decide (j ≠ i) else s.eng.order
      sweep := if latchZero s i then sweepLeaving i s.eng else s.eng.sweep
      free := if latchZero s i then s.eng.free ++ [i] else s.eng.free
      counts := (pushEngine s (releasePush s p i) s.eng).counts
      held := withoutSlots [i] s.eng.held } := by
  cases h : latchZero s i with
  | true =>
    rw [releasePush_freeing h, releasedRec, if_pos (of_decide_eq_true h)]
    exact freeSlot_eq hi
  | false =>
    rw [releasePush_releasing h, releasedRec, if_neg (of_decide_eq_false h)]
    have he : pushEngine s (.releasing p i (s.map.sects.get (s.eng.mirror.get i).sect).latch) s.eng = _ :=
      releaseSlot_eq hi
    rw [he]
    rfl

theorem withoutSlots_append (l m : List Slot) (held : List HeldRec) :
    withoutSlots (l ++ m) held = withoutSlots m (withoutSlots l held) := by
  simp only [withoutSlots, List.map_map]
  refine List.map_congr_left fun r _ => ?_
  simp only [Function.comp_apply, List.filter_filter]
  congr 2
  funext i
  simp [Bool.and_comm]

theorem withoutSlots_nil (held : List HeldRec) : withoutSlots [] held = held := by
  simp [withoutSlots]

/-! ### The releases of a list, one after another -/

/-- The slots of a list that become FREE with their release (R107). -/
def freed (s : State) (l : List Slot) : List Slot := l.filter (latchZero s)

theorem contains_freed (s : State) (l : List Slot) (i : Slot) :
    (freed s l).contains i = (l.contains i && latchZero s i) := by
  cases h : latchZero s i <;> simp [freed, h]

/-- The slots of `l` have been released for the record of `p`, in a group that is filling. -/
structure ReleaseRun (p : Pos) (l : List Slot) (s t : State) : Prop where
  queue : t.voice.queue = s.voice.queue ++ l.map (releaseWrite s p s.voice.nextTag)
  groups : t.voice.groups = if l = [] then s.voice.groups else s.voice.groups ++ [openedGroup s l]
  nextTag : l = [] → t.voice.nextTag = s.voice.nextTag
  mirror : ∀ i, t.eng.mirror.get i = if i ∈ l then releasedRec s i else s.eng.mirror.get i
  order : t.eng.order = s.eng.order.filter fun i => !(freed s l).contains i
  free : t.eng.free = s.eng.free ++ freed s l
  sweep : s.eng.order.Nodup → t.eng.sweep = sweepPassing (freed s l) s.eng
  held : t.eng.held = withoutSlots l s.eng.held
  eng : t.eng = { s.eng with
    mirror := t.eng.mirror, order := t.eng.order, free := t.eng.free, sweep := t.eng.sweep, counts := t.eng.counts,
    held := t.eng.held }
  map : t.map = s.map
  ctrl : t.ctrl = s.ctrl
  timebase : t.timebase = s.timebase
  scan : t.scan = s.scan
  bellows : t.bellows = s.bellows
  player : t.player = s.player
  ports : t.ports = s.ports
  status : StatusKept s t

namespace ReleaseRun

variable {p : Pos} {l : List Slot} {s t : State}

theorem nil (p : Pos) (s : State) : ReleaseRun p [] s s where
  queue := by simp
  groups := rfl
  nextTag _ := rfl
  mirror _ := rfl
  order := by simp [freed]
  free := by simp [freed]
  sweep _ := (sweepPassing_nil _).symm
  held := (withoutSlots_nil _).symm
  eng := rfl
  map := rfl
  ctrl := rfl
  timebase := rfl
  scan := rfl
  bellows := rfl
  player := rfl
  ports := rfl
  status := .refl s

section Step

variable (h : ReleaseRun p l s t) {i : Slot} (hi : i ∉ l)
include h hi

theorem same_slot : t.eng.mirror.get i = s.eng.mirror.get i := by rw [h.mirror, if_neg hi]

theorem same_latchZero : latchZero t i = latchZero s i := by rw [latchZero, h.map, h.same_slot hi]; rfl

theorem same_releasedRec : releasedRec t i = releasedRec s i := by
  unfold releasedRec
  rw [h.map, h.same_slot hi]

theorem same_releaseWrite (tag : Nat) : releaseWrite t p tag i = releaseWrite s p tag i := by
  unfold releaseWrite
  rw [h.map, h.same_slot hi]

theorem mem_order (ho : i ∈ s.eng.order) : i ∈ t.eng.order := by
  rw [h.order, List.mem_filter]
  refine ⟨ho, ?_⟩
  simp [freed, hi]

end Step

section Groups

variable (h : ReleaseRun p l s t) (hf : ∀ g ∈ s.voice.groups, g.filling = false)
include h hf

/-- The run is in the group that its first release has opened. -/
theorem tag : pushTag t.voice = s.voice.nextTag := by
  unfold pushTag
  by_cases hl : l = []
  · rw [fillingGroup_eq_none (by rw [h.groups, if_pos hl]; exact hf)]
    exact h.nextTag hl
  · rw [fillingGroup_last (by rw [h.groups, if_neg hl]) hf rfl]
    rfl

theorem room (hg : s.voice.groups.length < 4) (hq : s.voice.queue.length + l.length < 32) : GroupRoom t := by
  refine ⟨by simpa [h.queue] using hq, ?_⟩
  by_cases hl : l = []
  · rw [h.groups, if_pos hl]
    exact .inl hg
  · rw [fillingGroup_last (by rw [h.groups, if_neg hl]) hf rfl]
    exact .inr rfl

/-- The run's group after one more release. -/
theorem joined {i : Slot} (hi : i ∉ l) :
    (joinGroup i false t.timebase t.voice).groups = s.voice.groups ++ [openedGroup s (l ++ [i])] := by
  by_cases hl : l = []
  · have hgroups : t.voice.groups = s.voice.groups := by rw [h.groups, if_pos hl]
    unfold joinGroup
    rw [fillingGroup_eq_none (by rw [hgroups]; exact hf)]
    simp [hgroups, hl, h.nextTag hl, h.timebase, openedGroup]
  · rw [joinGroup_last (by rw [h.groups, if_neg hl]) hf rfl (by simpa [openedGroup] using hi)]
    simp [openedGroup]

/-- One more release. -/
theorem step {i : Slot} (hi : i ∉ l) (ho : i ∈ s.eng.order) :
    ReleaseRun p (l ++ [i]) s (doPush (releasePush t p i) t) := by
  have heng := (doPush_eng (releasePush t p i) t).trans (pushEngine_release (h.mem_order hi ho) p)
  have hzero := h.same_latchZero hi
  obtain ⟨hgrouped, hslot, hstarts, hsteals⟩ := releasePush_grouped t p i
  have hfreed : freed s (l ++ [i]) = if latchZero s i then freed s l ++ [i] else freed s l := by
    cases hz : latchZero s i <;> simp [freed, hz]
  constructor
  case queue =>
    rw [doPush_voice, pushWriter_queue, pushedWrite_release, h.tag hf, h.same_releaseWrite hi, h.queue]
    simp
  case groups =>
    rw [doPush_voice, if_neg (by simp)]
    unfold pushWriter
    simp only [hgrouped, if_true, hslot, hstarts]
    exact h.joined hf hi
  case nextTag => simp
  case mirror =>
    intro j
    rw [heng]
    dsimp only []
    by_cases hj : j = i
    · rw [hj, Tbl.get_set_same, if_pos (by simp), h.same_releasedRec hi]
    · rw [Tbl.get_set_other _ _ (Ne.symm hj), h.mirror]
      simp [hj]
  case order =>
    rw [heng, hfreed]
    dsimp only []
    rw [hzero, h.order]
    split
    · rw [List.filter_filter]
      refine List.filter_congr fun j _ => ?_
      simp [Bool.and_comm]
    · rfl
  case free =>
    rw [heng, hfreed]
    dsimp only []
    rw [hzero, h.free]
    split <;> simp
  case sweep =>
    intro hn
    rw [heng, hfreed]
    dsimp only []
    rw [hzero]
    split
    · exact sweepPassing_append hn (by simp [freed, hi]) h.order (h.sweep hn)
    · exact h.sweep hn
  case held =>
    rw [heng, withoutSlots_append, ← h.held]
  case eng =>
    rw [heng]
    dsimp only []
    rw [h.eng]
  case map => simp [h.map]
  case ctrl => simp [h.ctrl]
  case timebase => simp [h.timebase]
  case scan => simp [h.scan]
  case bellows => simp [h.bellows]
  case player => simp [h.player]
  case ports => simp [h.ports]
  case status => exact h.status.trans (doPush_statusKept hsteals t)

end Groups

end ReleaseRun

/-- Where there is room, the run makes all its releases and goes on with the jobs after them. -/
theorem runJobs_releases (k : ItemKind) (p : Pos) (js : List Job) {s : State} {l : List Slot} (ho : Ordered s l)
    (hr : RoomFor s l.length) :
    ∃ t, runJobs k (l.map (Job.releaseSlot p) ++ js) s = runJobs k js t ∧ ReleaseRun p l s t := by
  obtain ⟨hn, hmem⟩ := ho
  obtain ⟨hq, hg, hf⟩ := hr
  have key : ∀ after before t, before ++ after = l → ReleaseRun p before s t →
      ∃ u, runJobs k (after.map (Job.releaseSlot p) ++ js) t = runJobs k js u ∧ ReleaseRun p l s u := by
    intro after
    induction after with
    | nil =>
      intro before t hl h
      rw [List.append_nil] at hl
      exact ⟨t, rfl, hl ▸ h⟩
    | cons i after ih =>
      intro before t hl h
      have hi : i ∉ before := fun hm => by
        rw [← hl] at hn
        exact (List.nodup_append.mp hn).2.2 i hm i (.head _) rfl
      have hroom : GroupRoom t := h.room hf hg (by
        rw [← hl, List.length_append, List.length_cons] at hq
        omega)
      obtain ⟨u, hu, hrun⟩ := ih (before ++ [i]) _ (by simpa using hl)
        (h.step hf hi (hmem i (hl ▸ by simp)))
      refine ⟨u, hu ▸ ?_, hrun⟩
      simp only [List.map_cons, List.cons_append, runJobs]
      rw [if_pos (canPush_of_room _ hroom)]
  exact key l [] s rfl (.nil p s)

end Sys2Proof.Machine
end

section
/-! PROOFS. The record that an entry makes or changes, and its program asked for (R101, R102, R141). -/

namespace Sys2Proof.Machine

/-! ### What the run of a press or a restrike step leaves -/

/-- What an item leaves alone that makes or changes its record and asks for a program. -/
structure RunKept (s t : State) : Prop where
  ctrl : t.ctrl = s.ctrl
  cache : t.map.cache = s.map.cache
  sects : t.map.sects = s.map.sects
  fetch : t.map.fetch = s.map.fetch
  scan : t.scan = s.scan
  bellows : t.bellows = s.bellows
  player : t.player = s.player
  ports : t.ports = s.ports
  discard : t.eng.awaitDiscard = s.eng.awaitDiscard
  status : StatusKept s t

namespace RunKept

variable {s t u : State}

theorem refl (s : State) : RunKept s s := ⟨rfl, rfl, rfl, rfl, rfl, rfl, rfl, rfl, rfl, .refl s⟩

theorem trans (h : RunKept s t) (k : RunKept t u) : RunKept s u where
  ctrl := k.ctrl.trans h.ctrl
  cache := k.cache.trans h.cache
  sects := k.sects.trans h.sects
  fetch := k.fetch.trans h.fetch
  scan := k.scan.trans h.scan
  bellows := k.bellows.trans h.bellows
  player := k.player.trans h.player
  ports := k.ports.trans h.ports
  discard := k.discard.trans h.discard
  status := h.status.trans k.status

end RunKept

theorem afterItem_beside {k : ItemKind} (hk : k ≠ .hush) (s : State) :
    (afterItem k s).ctrl = s.ctrl ∧ (afterItem k s).map = s.map ∧ (afterItem k s).bellows = s.bellows := by
  cases k with
  | hush => exact absurd rfl hk
  | reversalStep p =>
    simp only [afterItem]
    split <;> exact ⟨rfl, rfl, rfl⟩
  | sweepStep | releaseAll | expiry | press | release | sustainStep | restrikeStep | rebuild => exact ⟨rfl, rfl, rfl⟩

theorem runKept_itemEnd {k : ItemKind} (hk : k ≠ .hush) (s : State) : RunKept s (itemEnd k s) := by
  obtain ⟨hctrl, hmap, hbel⟩ := afterItem_beside hk (endFilling (s.setEng { s.eng with item := none }))
  have hctrl : (itemEnd k s).ctrl = s.ctrl := hctrl.trans (by simp)
  have hmap : (itemEnd k s).map = s.map := hmap.trans (by simp)
  have hbel : (itemEnd k s).bellows = s.bellows := hbel.trans (by simp)
  constructor
  case status => exact .of_stat (itemEnd_stat hk s)
  case discard => rw [itemEnd_eng hk]
  all_goals simp [hctrl, hmap, hbel]

theorem runKept_waitFor (k : ItemKind) (w : Wait) (js : List Job) (s : State) : RunKept s (waitFor k w js s) := by
  constructor
  case status => exact .of_stat (by simp)
  all_goals rfl

theorem runKept_release (p : Pos) (i : Slot) (s : State) : RunKept s (doPush (releasePush s p i) s) := by
  obtain ⟨-, -, -, hsteals⟩ := releasePush_grouped s p i
  constructor
  case status => exact doPush_statusKept hsteals s
  case discard =>
    rw [doPush_eng]
    cases h : latchZero s i with
    | true =>
      rw [releasePush_freeing h]
      simp only [pushEngine, freeSlot]
      split <;> rfl
    | false =>
      rw [releasePush_releasing h]
      simp only [pushEngine, releaseSlot]
      split <;> rfl
  all_goals simp

theorem runKept_setEng {s : State} {e : Engine} (h : e.awaitDiscard = s.eng.awaitDiscard) :
    RunKept s (s.setEng e) := by
  constructor
  case status => exact .of_stat rfl
  case discard => exact h
  all_goals rfl

theorem runKept_report {s t : State} (h : RunKept s t) (a : State) : RunKept s (report a t) := by
  refine h.trans ?_
  constructor
  case status => simp [StatusKept]
  all_goals simp

theorem runKept_setEngReq (r : Option EngReq) (s : State) : RunKept s (s.setMap { s.map with engReq := r }) := by
  constructor
  case status => exact .of_stat rfl
  all_goals rfl

theorem runKept_voiceRecord {k : ItemKind} (hk : k ≠ .hush) (p : Pos) (s : State) :
    RunKept s (voiceRecord k p s) := by
  unfold voiceRecord
  split
  · exact runKept_itemEnd hk s
  split
  · exact runKept_itemEnd hk s
  split
  · exact runKept_itemEnd hk s
  split
  · exact runKept_waitFor _ _ _ s
  · exact (runKept_setEngReq _ s).trans (runKept_waitFor _ _ _ _)

theorem runKept_pressEntered (b : Bank) (p : Pos) (e : EntrySnap) (s : State) : RunKept s (pressEntered b p e s) := by
  unfold pressEntered
  dsimp only []
  split
  · exact (runKept_report (runKept_setEng (by rfl)) s).trans (runKept_voiceRecord (by simp) p _)
  · exact runKept_itemEnd (by simp) s

/-- The run of a list of releases and a voicing, with room for them or without. -/
theorem runKept_releases {k : ItemKind} (hk : k ≠ .hush) (p q : Pos) (l : List Slot) (s : State) :
    RunKept s (runJobs k (l.map (Job.releaseSlot p) ++ [.voice q]) s) := by
  induction l generalizing s with
  | nil => exact runKept_voiceRecord hk q s
  | cons i l ih =>
    simp only [List.map_cons, List.cons_append, runJobs]
    split
    · exact (runKept_release p i s).trans (ih _)
    · exact runKept_waitFor _ _ _ s

theorem runKept_restrikeEntered (b : Bank) (p : Pos) (e : EntrySnap) (s : State) :
    RunKept s (restrikeEntered b p e s) := by
  unfold restrikeEntered
  refine (runKept_setEng (e := updateRec p (fun r => { r with snap := e, bank := b }) s.eng) rfl).trans ?_
  dsimp only []
  split
  · exact runKept_itemEnd (by simp) _
  · exact runKept_releases (by simp) _ p _ _

/-! ### The record in the table -/

theorem findRec_pos {e : Engine} {p : Pos} {r : HeldRec} (h : findRec e p = some r) : r.pos = p :=
  of_decide_eq_true (List.find?_some (p := fun r : HeldRec => decide (r.pos = p)) h)

/-- A change of records that keeps their positions, as the record of `p` sees it. -/
theorem findRec_map {e e' : Engine} {p : Pos} {g : HeldRec → HeldRec} (hg : ∀ r, (g r).pos = r.pos)
    (he : e'.held = e.held.map g) : findRec e' p = (findRec e p).map g := by
  have : (fun r : HeldRec => decide (r.pos = p)) ∘ g = fun r => decide (r.pos = p) := by
    funext r
    simp [hg]
  rw [findRec, he, List.find?_map, this]
  rfl

theorem findRec_append {e e' : Engine} {p : Pos} {r : HeldRec} (h : findRec e p = none) (hr : r.pos = p)
    (he : e'.held = e.held ++ [r]) : findRec e' p = some r := by
  have h : e.held.find? (fun r => decide (r.pos = p)) = none := h
  simp [findRec, he, h, hr]

/-! ### The voicing of a record (R102) -/

/-- The program is asked for, unless an answer is awaited for discard first (R74, R97). -/
def asked (n : ProgNo) (s : State) : State :=
  if s.eng.awaitDiscard then s else s.setMap { s.map with engReq := some (.program n) }

@[simp] theorem asked_voice (n : ProgNo) (s : State) : (asked n s).voice = s.voice := by
  unfold asked
  split <;> rfl

theorem asked_of_free {s : State} (h : s.eng.awaitDiscard = false) (n : ProgNo) :
    asked n s = s.setMap { s.map with engReq := some (.program n) } := by
  simp [asked, h]

section Voice

variable {k : ItemKind} {p : Pos} {s : State} {r : HeldRec} (hr : findRec s.eng p = some r)
include hr

theorem voiceRecord_ends (h : r.snap.program r.dir = none ∨ s.ctrl.op ≠ .performing) :
    voiceRecord k p s = itemEnd k s := by
  unfold voiceRecord
  rw [hr]
  cases hn : r.snap.program r.dir with
  | none => simp [hn]
  | some n => simp [hn, h.resolve_left (by simp [hn])]

theorem voiceRecord_waits {n : ProgNo} (hn : r.snap.program r.dir = some n) (ho : s.ctrl.op = .performing) :
    voiceRecord k p s = waitFor k (programWait s p) [] (asked n s) := by
  unfold voiceRecord
  rw [hr]
  cases hd : s.eng.awaitDiscard <;> simp [hn, ho, hd, programWait, asked]

end Voice

/-- The engine after a voicing: the item waits or has ended, and nothing else of it changes (R102). -/
theorem voiceRecord_eng {k : ItemKind} {p q : Pos} (hk : k = .press q ∨ k = .restrikeStep q) (s : State) :
    (voiceRecord k p s).eng = { s.eng with item := (voiceRecord k p s).eng.item } := by
  have hh : k ≠ .hush := by rcases hk with rfl | rfl <;> simp
  have hend : (itemEnd k s).eng = { s.eng with item := none } := by
    rw [itemEnd_eng hh]
    rcases hk with rfl | rfl <;> rfl
  unfold voiceRecord
  split
  · rw [hend]
  split
  · rw [hend]
  split
  · rw [hend]
  split
  all_goals rfl

/-- A request of the engine is the fetcher's choice where nothing else is requested (R82, R83). -/
theorem chosen_of_engReq {s t : State} {r : EngReq} (hc : t.ctrl = s.ctrl) (hs : t.map.sects = s.map.sects)
    (hp : t.player = s.player) (hf : t.map.fetch = none) (hr : t.map.engReq = some r) :
    Chosen s (chooseFetch t) r.kind := by
  intro hnone hw
  simp only [requested, List.append_eq_nil_iff] at hnone
  obtain ⟨⟨hcr, hrel⟩, -⟩ := hnone
  have hreq : requested t = [r.kind] := by
    have hrel' : reloads t.map = [] := by simpa [reloads, hs] using hrel
    simp [requested, hc, hcr, hrel', hr]
  rw [chooseFetch_head hf (k := r.kind) (by rw [hreq]; rfl) (hp ▸ hw)]
  rfl

/-! ### The state in which an entry is handed over -/

/-- The state stands as it was, but for the cache, the status record, and an answer no longer awaited; the fetcher is
idle. -/
structure Standing (s u : State) : Prop where
  ctrl : u.ctrl = s.ctrl
  voice : u.voice = s.voice
  timebase : u.timebase = s.timebase
  sects : u.map.sects = s.map.sects
  idle : u.map.fetch = none
  scan : u.scan = s.scan
  bellows : u.bellows = s.bellows
  player : u.player = s.player
  ports : u.ports = s.ports
  eng : u.eng = { s.eng with awaitDiscard := u.eng.awaitDiscard }

section Entered

variable {s u : State} (h : Standing s u) {b : Bank} {p : Pos} {e : EntrySnap}
include h

/-- The press has made its record, and the item waits for its program or has ended (R101, R102). -/
theorem pressEntered_entered (hf : findRec s.eng p = none) (hl : s.eng.held.length < 32) :
    PressEntered s (chooseFetch (pressEntered b p e u)) (programWait u p) b p e ∧
    (∀ n, e.program s.eng.appliedDir = some n → s.ctrl.op = .performing → u.eng.awaitDiscard = false →
      Chosen s (chooseFetch (pressEntered b p e u)) (.program n)) := by
  have hdir : u.eng.appliedDir = s.eng.appliedDir := by rw [h.eng]
  have hheld : u.eng.held = s.eng.held := by rw [h.eng]
  have hfind : findRec u.eng p = none := by rw [findRec, hheld]; exact hf
  have hcan : canHold p u.eng = true := by simp [canHold, hfind, hheld, Config.heldMax, hl]
  rw [pressEntered_of_canHold hcan, hdir, hheld]
  generalize hr : ({ pos := p, bank := b, snap := e, dir := s.eng.appliedDir, voices := [], sustained := false } :
    HeldRec) = r
  have hprog : r.snap.program r.dir = e.program s.eng.appliedDir := by rw [← hr]
  generalize hv : report u (u.setEng { u.eng with held := s.eng.held ++ [r] }) = v
  have heng : v.eng = { u.eng with held := s.eng.held ++ [r] } := by rw [← hv]; simp
  have hrec : findRec v.eng p = some r := findRec_append hfind (by rw [← hr]) (by rw [heng, hheld])
  have hctrl : v.ctrl = s.ctrl := by rw [← hv]; simp [h.ctrl]
  have hvoice : v.voice = s.voice := by rw [← hv]; simp [h.voice]
  have hmap : v.map = u.map := by rw [← hv]; simp
  have hwait : programWait v p = programWait u p := by simp [programWait, heng]
  have hafter := voiceRecord_eng (p := p) (.inl rfl : ItemKind.press p = .press p ∨ _) v
  rw [heng, h.eng] at hafter
  have hafter := (chooseFetch_eng _).trans hafter
  refine ⟨⟨?_, fun hend => ?_, fun hn ho => ?_, ?_, ?_, ?_, ?_⟩, fun n hn ho hd => ?_⟩
  · exact (congrArg Engine.held hafter).trans (by rw [← hr])
  · rw [chooseFetch_eng, voiceRecord_ends hrec (by rw [hprog, hctrl]; exact hend), itemEnd_eng (by simp)]
  · obtain ⟨n, hn⟩ := Option.ne_none_iff_exists'.mp hn
    rw [chooseFetch_eng, voiceRecord_waits hrec (hprog.trans hn) (by rw [hctrl, ho]), hwait]
    rfl
  · exact (congrArg Engine.mirror hafter).trans rfl
  · exact (congrArg Engine.order hafter).trans rfl
  · exact (congrArg Engine.free hafter).trans rfl
  · rw [chooseFetch_voice, voiceRecord_queue, hvoice]
  · have hdv : v.eng.awaitDiscard = false := by rw [heng]; exact hd
    have hkept := runKept_voiceRecord (k := .press p) (by simp) p v
    refine chosen_of_engReq (r := .program n) (hkept.ctrl.trans hctrl) ?_ ?_ ?_ ?_
    · rw [hkept.sects, hmap, h.sects]
    · rw [hkept.player, ← hv]
      simp [h.player]
    · rw [hkept.fetch, hmap, h.idle]
    · rw [voiceRecord_waits hrec (hprog.trans hn) (by rw [hctrl, ho]), asked_of_free hdv]
      rfl

end Entered

end Sys2Proof.Machine
end

section
/-! PROOFS. A restrike step with its new entry: the record's voices go in one group (R141). -/

namespace Sys2Proof.Machine

/-! ### The release of slots that stand as before -/

/-- The slots stand in `v` as in `s`, with the same release latches and the same voice write queue. -/
structure SameSlots (s v : State) : Prop where
  voice : v.voice = s.voice
  timebase : v.timebase = s.timebase
  sects : v.map.sects = s.map.sects
  mirror : v.eng.mirror = s.eng.mirror
  order : v.eng.order = s.eng.order
  free : v.eng.free = s.eng.free
  sweep : v.eng.sweep = s.eng.sweep

namespace SameSlots

variable {s v : State} (h : SameSlots s v)
include h

theorem releaseWrite (p : Pos) (tag : Nat) (i : Slot) : releaseWrite v p tag i = releaseWrite s p tag i := by
  simp only [Machine.releaseWrite, h.mirror, h.sects]

theorem releasedRec (i : Slot) : releasedRec v i = releasedRec s i := by
  simp only [Machine.releasedRec, h.mirror, h.sects]

theorem freed (l : List Slot) : freed v l = freed s l :=
  List.filter_congr fun i _ => by simp only [latchZero, h.mirror, h.sects]

theorem sweepPassing (gone : List Slot) : sweepPassing gone v.eng = sweepPassing gone s.eng := by
  simp only [Machine.sweepPassing, h.order, h.sweep]

/-- The run of the releases, told of the state before it. -/
theorem releasedAs {t u : State} {p : Pos} {l : List Slot} {filling : Bool} {it : Option Item}
    (hrun : ReleaseRun p l v t) (hqueue : u.voice.queue = t.voice.queue) (heng : u.eng = { t.eng with item := it })
    (hgroup : l ≠ [] → { openedGroup s l with filling := filling } ∈ u.voice.groups) : ReleasedAs filling s u p l := by
  refine ⟨?_, fun i => ?_, ?_, ?_, fun hn => ?_, fun hl => ⟨_, hgroup hl, rfl, rfl, rfl, rfl, rfl, rfl⟩⟩
  · rw [hqueue, hrun.queue, h.voice]
    exact congrArg _ (List.map_congr_left fun i _ => h.releaseWrite p _ i)
  · rw [heng]
    exact (hrun.mirror i).trans (by rw [h.releasedRec, h.mirror])
  · rw [heng]
    refine hrun.order.trans ?_
    rw [h.order]
    refine List.filter_congr fun i _ => ?_
    rw [h.freed, contains_freed]
    rfl
  · rw [heng]
    exact hrun.free.trans (by rw [h.free, h.freed]; rfl)
  · rw [heng]
    exact (hrun.sweep (by rwa [h.order])).trans (by rw [h.sweepPassing, h.freed]; rfl)

end SameSlots

theorem openedGroup_congr {s v : State} (h : SameSlots s v) (l : List Slot) : openedGroup v l = openedGroup s l := by
  rw [openedGroup, h.voice, h.timebase]
  rfl

/-! ### The step -/

/-- The record of a restrike step has its new entry. -/
def reentered (b : Bank) (p : Pos) (e : EntrySnap) (s : State) : State :=
  s.setEng (updateRec p (fun r => { r with snap := e, bank := b }) s.eng)

section Restrike

variable {s u : State} {b : Bank} {p : Pos} {e : EntrySnap} {r : HeldRec}

theorem findRec_reentered (hr : findRec s.eng p = some r) :
    findRec (reentered b p e s).eng p = some { r with snap := e, bank := b } := by
  rw [findRec_map (e := s.eng) (g := fun x => if x.pos = p then { x with snap := e, bank := b } else x)
    (fun x => by split <;> rfl) rfl, hr, Option.map_some, if_pos (findRec_pos hr)]

theorem restrikeEntered_eq (hr : findRec s.eng p = some r) :
    restrikeEntered b p e s = runJobs (.restrikeStep p) (r.voices.map (Job.releaseSlot p) ++ [.voice p])
      (reentered b p e s) := by
  have hf := findRec_reentered (b := b) (e := e) hr
  unfold restrikeEntered
  unfold reentered at hf ⊢
  dsimp only []
  rw [hf]
  dsimp only [releaseJobs]
  rw [findRec_pos hr]

theorem Standing.sameSlots (h : Standing s u) : SameSlots s (reentered b p e u) where
  voice := h.voice
  timebase := h.timebase
  sects := h.sects
  mirror := (congrArg Engine.mirror h.eng).trans rfl
  order := (congrArg Engine.order h.eng).trans rfl
  free := (congrArg Engine.free h.eng).trans rfl
  sweep := (congrArg Engine.sweep h.eng).trans rfl

/-- The restrike step has its record's new entry and has released its voices, and waits for the program or has ended
(R141). -/
theorem restrikeEntered_entered (h : Standing s u) (hr : findRec s.eng p = some r) (ho : Ordered s r.voices)
    (hroom : RoomFor s r.voices.length) :
    RestrikeEntered s (chooseFetch (restrikeEntered b p e u)) (programWait u p) b p r e ∧
    (∀ n, e.program r.dir = some n → s.ctrl.op = .performing → u.eng.awaitDiscard = false →
      Chosen s (chooseFetch (restrikeEntered b p e u)) (.program n)) := by
  have hheld : u.eng.held = s.eng.held := by rw [h.eng]
  have hsame : SameSlots s (reentered b p e u) := h.sameSlots
  have hru : findRec u.eng p = some r := by rw [findRec, hheld]; exact hr
  obtain ⟨t, hrun, hrel⟩ := runJobs_releases (.restrikeStep p) p [.voice p] (s := reentered b p e u) (l := r.voices)
    (by rw [Ordered, hsame.order]; exact ho) (by rw [RoomFor, hsame.voice]; exact hroom)
  have hvoice : runJobs (.restrikeStep p) [.voice p] t = voiceRecord (.restrikeStep p) p t := rfl
  rw [restrikeEntered_eq hru, hrun, hvoice]
  have hctrl : t.ctrl = s.ctrl := hrel.ctrl.trans h.ctrl
  have hmap : t.map = u.map := hrel.map
  have hrec : findRec t.eng p = some { r with
      snap := e, bank := b, voices := r.voices.filter fun i => !r.voices.contains i } := by
    rw [findRec_map (g := fun x => { x with voices := x.voices.filter fun i => !r.voices.contains i }) (fun _ => rfl)
      hrel.held, findRec_reentered hru]
    rfl
  have hdiscard : t.eng.awaitDiscard = u.eng.awaitDiscard := by rw [hrel.eng]; rfl
  have hwait : programWait t p = programWait u p := by simp [programWait, hdiscard]
  have hkind : ItemKind.restrikeStep p = .press p ∨ ItemKind.restrikeStep p = .restrikeStep p := .inr rfl
  have hafter := (chooseFetch_eng _).trans (voiceRecord_eng (p := p) hkind t)
  have hqueue : (chooseFetch (voiceRecord (.restrikeStep p) p t)).voice.queue = t.voice.queue := by
    rw [chooseFetch_voice, voiceRecord_queue]
  refine ⟨⟨?_, ?_, fun hend => ⟨?_, ?_⟩, fun hn hperf => ⟨?_, ?_⟩⟩, fun n hn hperf hd => ?_⟩
  · refine (congrArg Engine.held hafter).trans (hrel.held.trans ?_)
    rw [← hheld]
    rfl
  · refine (congrArg Engine.restrikeWalk hafter).trans ((congrArg Engine.restrikeWalk hrel.eng).trans ?_)
    exact (congrArg Engine.restrikeWalk h.eng).trans rfl
  · refine hsame.releasedAs hrel hqueue hafter fun hl => ?_
    rw [chooseFetch_voice, voiceRecord_ends hrec (by rw [hctrl]; exact hend), itemEnd_groups (by simp), hrel.groups,
      if_neg hl, openedGroup_congr hsame]
    refine List.mem_filter.mpr ⟨List.mem_map.mpr ⟨_, List.mem_append_right _ (List.mem_singleton.mpr rfl), rfl⟩, ?_⟩
    simpa [Group.closable, openedGroup] using hl
  · rw [chooseFetch_eng, voiceRecord_ends hrec (by rw [hctrl]; exact hend), itemEnd_eng (by simp)]
  · obtain ⟨n, hn⟩ := Option.ne_none_iff_exists'.mp hn
    refine hsame.releasedAs hrel hqueue hafter fun hl => ?_
    rw [chooseFetch_voice, voiceRecord_waits hrec hn (by rw [hctrl, hperf]), waitFor_voice, asked_voice, hrel.groups,
      if_neg hl, openedGroup_congr hsame]
    exact List.mem_append_right _ (List.mem_singleton.mpr rfl)
  · obtain ⟨n, hn⟩ := Option.ne_none_iff_exists'.mp hn
    rw [chooseFetch_eng, voiceRecord_waits hrec hn (by rw [hctrl, hperf]), hwait]
    rfl
  · have hkept := runKept_voiceRecord (k := .restrikeStep p) (by simp) p t
    refine chosen_of_engReq (r := .program n) (hkept.ctrl.trans hctrl) ?_ ?_ ?_ ?_
    · exact (hkept.sects.trans (congrArg MapUnit.sects hmap)).trans h.sects
    · exact (hkept.player.trans hrel.player).trans h.player
    · exact (hkept.fetch.trans (congrArg MapUnit.fetch hmap)).trans h.idle
    · rw [voiceRecord_waits hrec hn (by rw [hctrl, hperf]), asked_of_free (hdiscard.trans hd)]
      rfl

end Restrike

end Sys2Proof.Machine
end

section
/-! PROOFS. The landing of a map entry fetch (R40, R70, R74, R76, R77, R79, R84, R97). -/

namespace Sys2Proof.Machine

/-! ### A word judged and handed over (R70) -/

/-- The snapshot that an entry word hands over. -/
def snapOf (w : Word) : EntrySnap :=
  match judgeEntry w with
  | .valid e => e
  | .invalid => EntrySnap.none
  | .bad => EntrySnap.none

theorem snapOf_of_judged {w : Word} {e : EntrySnap} (h : Judged w e) : snapOf w = e := by
  unfold snapOf
  rcases h with h | ⟨h | h, rfl⟩ <;> rw [h]

section HandEntry

variable (b : Bank) (p : Pos) {w : Word} (s : State)

theorem handEntry_fst (w : Word) : (handEntry b p w s).1 = snapOf w := by
  unfold handEntry snapOf
  cases judgeEntry w <;> rfl

theorem handEntry_bad (h : judgeEntry w = .bad) : (handEntry b p w s).2 =
    logFault .badEntry .bridge (s.ctrl.copy.mapBase b + BitVec.ofNat 24 (4 * p.val)) s := by
  rw [handEntry, h]

theorem handEntry_good (h : judgeEntry w ≠ .bad) : (handEntry b p w s).2 = s := by
  unfold handEntry
  cases hj : judgeEntry w with
  | valid | invalid => rfl
  | bad => exact absurd hj h

end HandEntry

theorem FaultLogged.of_kept {k : FaultKind} {p : PortId} {a : Addr} {s t u : State} (hk : StatusKept s t)
    (h : FaultLogged k p a t u) : FaultLogged k p a s u := by
  obtain ⟨k₁, k₂, -, k₄, -⟩ := hk
  rw [FaultLogged, k₁, k₂, k₄] at h
  exact h

/-! ### The answer of RAM (R76, R77, R84) -/

/-- The snapshot that an answer hands over. -/
def snapAfter : RamAnswer → EntrySnap
  | .done w => snapOf (w.get 0)
  | .error => EntrySnap.none

/-- The map cache after an answer. -/
def cacheAfter (x : RamAnswer) (f : Fetch) (b : Bank) (p : Pos) (cache : List CacheEntry) : List CacheEntry :=
  match x with
  | .done w => if f.overtaken then cache else install { bank := b, pos := p, word := w.get 0 } cache
  | .error => cache

/-- The state in which an answer is handed over. -/
def arrived (x : RamAnswer) (f : Fetch) (b : Bank) (p : Pos) (s : State) : State :=
  match x with
  | .done w => (handEntry b p (w.get 0)
      ((endFetch s).setMap { (endFetch s).map with cache := cacheAfter x f b p s.map.cache })).2
  | .error => endFetch s

theorem entryLanded_eq (x : RamAnswer) {f : Fetch} (b : Bank) (p : Pos) {s : State} (hf : s.map.fetch = some f) :
    entryLanded x b p s = chooseFetch (deliverEntry b p (snapAfter x) (arrived x f b p s)) := by
  unfold entryLanded
  rw [hf]
  cases x with
  | error => rfl
  | done w =>
    dsimp only [snapAfter, arrived, cacheAfter]
    rw [handEntry_fst]
    split <;> rfl

theorem exec_mapEntryFetchLands {s : State} {a : Access} {b : Bank} {p : Pos} (x : RamAnswer) {f : Fetch}
    (h : Carries s (.fetch (.entry b p)) a) (hf : s.map.fetch = some f) : exec (.mapEntryFetchLands x) s =
      .next (chooseFetch (deliverEntry b p (snapAfter x) (arrived x f b p (landed s a x.failed)))) := by
  rw [← entryLanded_eq x b p (by simpa using hf)]
  refine congrArg Host.Outcome.next ((landing_of_carries h rfl _ _).trans ?_)
  rw [h.2.1]
  rfl

/-- What the landing of an entry fetch logs (R40, R70, R84). -/
def LandingLogged (s u : State) (x : RamAnswer) (a : Access) (b : Bank) (p : Pos) : Prop :=
  (x = .error → FaultLogged .memoryError .bridge a.req.start s u) ∧
  (∀ w, x = .done w → judgeEntry (w.get 0) = .bad →
    FaultLogged .badEntry .bridge (s.ctrl.copy.mapBase b + BitVec.ofNat 24 (4 * p.val)) s u) ∧
  (∀ w, x = .done w → judgeEntry (w.get 0) ≠ .bad → StatusKept s u)

theorem LandingLogged.trans_kept {s t u : State} {x : RamAnswer} {a : Access} {b : Bank} {p : Pos}
    (h : LandingLogged s t x a b p) (hk : StatusKept t u) : LandingLogged s u x a b p := by
  obtain ⟨herr, hbad, hgood⟩ := h
  exact ⟨fun hx => (herr hx).trans_kept hk, fun w hx hj => (hbad w hx hj).trans_kept hk,
    fun w hx hj => (hgood w hx hj).trans hk⟩

section Arrival

variable {s : State} {a : Access} {b : Bank} {p : Pos} {f : Fetch} (x : RamAnswer)

theorem arrived_eng : (arrived x f b p (landed s a x.failed)).eng = s.eng := by
  cases x <;> simp [arrived, endFetch]

theorem arrived_cache : (arrived x f b p (landed s a x.failed)).map.cache = cacheAfter x f b p s.map.cache := by
  cases x <;> simp [arrived, endFetch, cacheAfter]

theorem arrived_standing : Standing s (arrived x f b p (landed s a x.failed)) := by
  constructor
  case eng => rw [arrived_eng]
  all_goals cases x <;> simp [arrived, endFetch, landed, freePort]

theorem arrived_logged (h : Carries s (.fetch (.entry b p)) a) :
    LandingLogged s (arrived x f b p (landed s a x.failed)) x a b p := by
  refine ⟨fun hx => ?_, fun w hx hj => ?_, fun w hx hj => ?_⟩
  all_goals subst hx
  · exact (landed_logged s h.2.1).trans_kept (.of_stat rfl)
  · have hkept : StatusKept s (((endFetch (landed s a false)).setMap { (endFetch (landed s a false)).map with
        cache := cacheAfter (.done w) f b p (landed s a false).map.cache })) := .of_stat rfl
    have hlog := logFault_logged .badEntry .bridge (s.ctrl.copy.mapBase b + BitVec.ofNat 24 (4 * p.val))
      (((endFetch (landed s a false)).setMap { (endFetch (landed s a false)).map with
        cache := cacheAfter (.done w) f b p (landed s a false).map.cache }))
    rw [arrived, handEntry_bad b p _ hj]
    exact hlog.of_kept hkept
  · rw [arrived, handEntry_good b p _ hj]
    exact .of_stat rfl

end Arrival

/-- The run of an item that is no hush, after the landing. -/
theorem entryLanded_of_run {s u t : State} {x : RamAnswer} {a : Access} {b : Bank} {p : Pos} (h : Standing s u)
    (hl : LandingLogged s u x a b p) (hk : RunKept u t) : EntryLanded s (chooseFetch t) x a b p := by
  obtain ⟨herr, hbad, hgood⟩ := hl.trans_kept (hk.status.trans (statusKept_chooseFetch t))
  refine ⟨herr, hbad, hgood, ?_, ?_, ?_, ?_, ?_⟩
  · rw [chooseFetch_sects, hk.sects, h.sects]
  · rw [chooseFetch_scan, hk.scan, h.scan]
  · rw [chooseFetch_bellows, hk.bellows, h.bellows]
  · rw [chooseFetch_player, hk.player, h.player]
  · rw [chooseFetch_ports, hk.ports, h.ports]

/-! ### To whom the answer goes (R97) -/

section Deliver

variable {s : State} {b : Bank} {p : Pos} {e : EntrySnap} {k : ItemKind} {js : List Job}

theorem deliverEntry_waited {b' : Bank} {p' : Pos}
    (h : s.eng.item = some { kind := k, wait := .entry b' p', jobs := js }) :
    deliverEntry b p e s = entryGiven k b p e s := by
  rw [deliverEntry, h]

/-- The state once an answer awaited for discard has come. -/
def discardOver (s : State) : State := s.setEng { s.eng with awaitDiscard := false }

theorem deliverEntry_turnEntry {q : Pos} (h : s.eng.item = some { kind := k, wait := .turnEntry q, jobs := js }) :
    deliverEntry b p e s = requestEntry k s.ctrl.bank q (discardOver s) := by
  rw [deliverEntry, h]
  rfl

theorem deliverEntry_turnProgram {q : Pos}
    (h : s.eng.item = some { kind := k, wait := .turnProgram q, jobs := js }) :
    deliverEntry b p e s = voiceRecord k q (discardOver s) := by
  rw [deliverEntry, h]
  rfl

theorem deliverEntry_kept (h : s.eng.item = none ∨ ∃ it pu, s.eng.item = some it ∧ it.wait = .push pu) :
    deliverEntry b p e s = discardOver s := by
  rcases h with h | ⟨it, pu, h, hw⟩
  · rw [deliverEntry, h]
    rfl
  · rw [deliverEntry, h]
    dsimp only []
    rw [hw]
    rfl

theorem requestEntry_miss (h : lookupEntry b p s.map.cache = none) : requestEntry k b p s = missEntry k b p s := by
  rw [requestEntry, h]

theorem requestEntry_hit {c : CacheEntry} (h : lookupEntry b p s.map.cache = some c) :
    requestEntry k b p s = entryGiven k b p (snapOf c.word) (hitEntry c s).2 := by
  rw [requestEntry, h]
  dsimp only []
  rw [hitEntry, handEntry_fst]

theorem missEntry_free (h : s.eng.awaitDiscard = false) : missEntry k b p s =
    waitFor k (.entry b p) [] (s.setMap { s.map with engReq := some (.entry b p) }) := by
  simp [missEntry, h]

end Deliver

theorem lookupEntry_tag {b : Bank} {p : Pos} {cache : List CacheEntry} {c : CacheEntry}
    (h : lookupEntry b p cache = some c) : c.bank = b ∧ c.pos = p :=
  of_decide_eq_true (List.find?_some (p := fun e : CacheEntry => decide (e.bank = b ∧ e.pos = p)) h)

/-! ### The end of a settle cut's hush, which no entry waits for -/

theorem takeSwap_discard (w : Swap) (s : State) : (takeSwap w s).eng.awaitDiscard = s.eng.awaitDiscard := by
  unfold takeSwap
  dsimp only []
  split
  all_goals simp

theorem testSwap_discard (s : State) : (testSwap s).eng.awaitDiscard = s.eng.awaitDiscard := by
  unfold testSwap
  repeat' split
  all_goals simp [takeSwap_discard]

theorem endSettling_idle {s : State} (h : s.eng.item = none) :
    (endSettling s).map.cache = s.map.cache ∧ (endSettling s).eng.awaitDiscard = s.eng.awaitDiscard := by
  simp [endSettling, enterTransparent, testSwap_discard, h]

theorem itemEnd_cache_discard (k : ItemKind) (s : State) :
    (itemEnd k s).map.cache = s.map.cache ∧ (itemEnd k s).eng.awaitDiscard = s.eng.awaitDiscard := by
  by_cases hk : k = .hush
  · subst hk
    simp only [itemEnd, afterItem]
    split
    · obtain ⟨hcache, hdiscard⟩ := endSettling_idle (s := endFilling (s.setEng { s.eng with item := none })) (by simp)
      exact ⟨hcache.trans (by simp), hdiscard.trans (by simp)⟩
    · simp
  · exact ⟨(runKept_itemEnd hk s).cache, (runKept_itemEnd hk s).discard⟩

theorem entryGiven_cache_discard (k : ItemKind) (b : Bank) (p : Pos) (e : EntrySnap) (s : State) :
    (entryGiven k b p e s).map.cache = s.map.cache ∧
    (entryGiven k b p e s).eng.awaitDiscard = s.eng.awaitDiscard := by
  cases k with
  | press q => exact ⟨(runKept_pressEntered b p e s).cache, (runKept_pressEntered b p e s).discard⟩
  | restrikeStep q => exact ⟨(runKept_restrikeEntered b p e s).cache, (runKept_restrikeEntered b p e s).discard⟩
  | hush | releaseAll | reversalStep | expiry | release | sustainStep | sweepStep | rebuild =>
    exact itemEnd_cache_discard _ s

end Sys2Proof.Machine
end

section
/-! PROOFS. An answer awaited for discard, and the item behind it (R76, R97). -/

namespace Sys2Proof.Machine

/-! ### The state once the answer has come -/

section Standing

variable {s u : State} (h : Standing s u)
include h

theorem standing_discardOver : Standing s (discardOver u) where
  ctrl := h.ctrl
  voice := h.voice
  timebase := h.timebase
  sects := h.sects
  idle := h.idle
  scan := h.scan
  bellows := h.bellows
  player := h.player
  ports := h.ports
  eng := by
    rw [discardOver, State.setEng_eng, h.eng]

theorem discardOver_eng : (discardOver u).eng = { s.eng with awaitDiscard := false } := by
  rw [discardOver, State.setEng_eng, h.eng]

/-- A hit in the map cache changes the cache and the log only (R76). -/
theorem standing_hitEntry (c : CacheEntry) : Standing s (hitEntry c u).2 where
  ctrl := by simp [hitEntry, h.ctrl]
  voice := by simp [hitEntry, h.voice]
  timebase := by simp [hitEntry, h.timebase]
  sects := by simp [hitEntry, h.sects]
  idle := by simp [hitEntry, h.idle]
  scan := by simp [hitEntry, h.scan]
  bellows := by simp [hitEntry, h.bellows]
  player := by simp [hitEntry, h.player]
  ports := by simp [hitEntry, h.ports]
  eng := by
    have heng : (hitEntry c u).2.eng = u.eng := by simp [hitEntry]
    rw [heng]
    exact h.eng

end Standing

theorem hitEntry_cache (c : CacheEntry) (s : State) : (hitEntry c s).2.map.cache = promote c s.map.cache := by
  simp [hitEntry]

/-- What a hit of the entry of `p` in the active bank logs (R70). -/
theorem entryLogged_hit {s u t : State} {c : CacheEntry} {p : Pos} (h : Standing s u) (hk : StatusKept s u)
    (hb : c.bank = s.ctrl.bank) (hp : c.pos = p) (ht : StatusKept (hitEntry c u).2 t) : EntryLogged p c.word s t := by
  have hset : StatusKept s (u.setMap { u.map with cache := promote c u.map.cache }) := hk.trans (.of_stat rfl)
  subst hp
  refine ⟨fun hj => ?_, fun hj => ?_⟩
  · rw [hitEntry, handEntry_bad _ _ _ hj] at ht
    have hlog := (logFault_logged .badEntry .bridge _ _).trans_kept ht
    simp only [State.setMap_ctrl, h.ctrl, hb] at hlog
    refine ⟨hlog.of_kept hset, ?_⟩
    obtain ⟨-, -, -, -, hcount⟩ := ht
    obtain ⟨-, -, -, -, hcount'⟩ := hset
    rw [hcount, logFault_stat_counters, hcount']
  · rw [hitEntry, handEntry_good _ _ _ hj] at ht
    exact hset.trans ht

section Discard

variable {s u : State} (h : Standing s u) {b : Bank} {p : Pos} {e : EntrySnap}
include h

theorem item_of_standing : u.eng.item = s.eng.item := by rw [h.eng]

theorem deliverEntry_behind {k : ItemKind} {q : Pos} {js : List Job}
    (hi : s.eng.item = some { kind := k, wait := .turnEntry q, jobs := js }) :
    deliverEntry b p e u = requestEntry k s.ctrl.bank q (discardOver u) := by
  rw [deliverEntry_turnEntry ((item_of_standing h).trans hi), h.ctrl]

theorem deliverEntry_behind_hit {k : ItemKind} {q : Pos} {js : List Job} {c : CacheEntry}
    (hi : s.eng.item = some { kind := k, wait := .turnEntry q, jobs := js })
    (hc : lookupEntry s.ctrl.bank q u.map.cache = some c) :
    deliverEntry b p e u = entryGiven k s.ctrl.bank q (snapOf c.word) (hitEntry c (discardOver u)).2 := by
  rw [deliverEntry_behind h hi]
  exact requestEntry_hit hc

theorem deliverEntry_behind_miss {k : ItemKind} {q : Pos} {js : List Job}
    (hi : s.eng.item = some { kind := k, wait := .turnEntry q, jobs := js })
    (hc : lookupEntry s.ctrl.bank q u.map.cache = none) :
    deliverEntry b p e u = waitFor k (.entry s.ctrl.bank q) [] ((discardOver u).setMap
      { u.map with engReq := some (.entry s.ctrl.bank q) }) := by
  rw [deliverEntry_behind h hi, requestEntry_miss (s := discardOver u) hc]
  exact missEntry_free rfl

/-- The item behind the answer finds its entry in the cache (R97, assumption 23). -/
theorem discarded_hit {k : ItemKind} {q : Pos} {js : List Job} {c : CacheEntry} {n : EntrySnap}
    (hi : s.eng.item = some { kind := k, wait := .turnEntry q, jobs := js })
    (hc : lookupEntry s.ctrl.bank q u.map.cache = some c) (hj : Judged c.word n) :
    (chooseFetch (deliverEntry b p e u)).map.cache =
        c :: u.map.cache.filter (fun x => !decide (x.bank = c.bank ∧ x.pos = c.pos)) ∧
      (chooseFetch (deliverEntry b p e u)).eng.awaitDiscard = false ∧
      (k = .press q → findRec s.eng q = none → s.eng.held.length < 32 →
        PressEntered s (chooseFetch (deliverEntry b p e u)) (.program q) s.ctrl.bank q n ∧
        ∀ i, n.program s.eng.appliedDir = some i → s.ctrl.op = .performing →
          Chosen s (chooseFetch (deliverEntry b p e u)) (.program i)) ∧
      (∀ r, k = .restrikeStep q → findRec s.eng q = some r → Ordered s r.voices → RoomFor s r.voices.length →
        RestrikeEntered s (chooseFetch (deliverEntry b p e u)) (.program q) s.ctrl.bank q r n ∧
        ∀ i, n.program r.dir = some i → s.ctrl.op = .performing →
          Chosen s (chooseFetch (deliverEntry b p e u)) (.program i)) := by
  have hz := standing_hitEntry (standing_discardOver h) c
  have hfree : (hitEntry c (discardOver u)).2.eng.awaitDiscard = false := by rw [hitEntry_eng]; rfl
  have hwait : programWait (hitEntry c (discardOver u)).2 q = .program q := by
    rw [programWait, hfree]
    rfl
  obtain ⟨hcache, hdiscard⟩ := entryGiven_cache_discard k s.ctrl.bank q n (hitEntry c (discardOver u)).2
  rw [deliverEntry_behind_hit h hi hc, snapOf_of_judged hj]
  refine ⟨?_, ?_, fun hk hf hl => ?_, fun r hk hr ho hroom => ?_⟩
  · rw [chooseFetch_cache, hcache, hitEntry_cache]
    rfl
  · rw [chooseFetch_eng, hdiscard, hfree]
  · obtain ⟨hpress, hchosen⟩ := pressEntered_entered hz (b := s.ctrl.bank) (e := n) hf hl
    subst hk
    exact ⟨hwait ▸ hpress, fun i hn hp => hchosen i hn hp hfree⟩
  · obtain ⟨hrestrike, hchosen⟩ := restrikeEntered_entered hz (b := s.ctrl.bank) (e := n) hr ho hroom
    subst hk
    exact ⟨hwait ▸ hrestrike, fun i hn hp => hchosen i hn hp hfree⟩

theorem awaiting_eng (w : Wait) (k : ItemKind) (r : Option EngReq) :
    (chooseFetch (waitFor k w [] ((discardOver u).setMap { u.map with engReq := r }))).eng =
      { s.eng with awaitDiscard := false, item := some { kind := k, wait := w, jobs := [] } } := by
  rw [chooseFetch_eng]
  exact congrArg (fun e : Engine => { e with item := some { kind := k, wait := w, jobs := [] } })
    (discardOver_eng h)

theorem awaiting_chosen (w : Wait) (k : ItemKind) (r : EngReq) :
    Chosen s (chooseFetch (waitFor k w [] ((discardOver u).setMap { u.map with engReq := some r }))) r.kind :=
  chosen_of_engReq h.ctrl h.sects h.player h.idle rfl

theorem voices_discardOver {k : ItemKind} {q : Pos} {js : List Job} {r : HeldRec}
    (hi : s.eng.item = some { kind := k, wait := .turnProgram q, jobs := js }) (hk : Voices k q)
    (hr : findRec s.eng q = some r) :
    (r.snap.program r.dir = none ∨ s.ctrl.op ≠ .performing →
      (chooseFetch (deliverEntry b p e u)).eng.item = none ∧
      (chooseFetch (deliverEntry b p e u)).eng.awaitDiscard = false ∧
      (chooseFetch (deliverEntry b p e u)).voice.queue = s.voice.queue) ∧
    (∀ n, r.snap.program r.dir = some n → s.ctrl.op = .performing →
      deliverEntry b p e u =
        waitFor k (.program q) [] ((discardOver u).setMap { u.map with engReq := some (.program n) })) := by
  obtain ⟨hh, -⟩ := voices_ne_hush hk
  have hrec : findRec (discardOver u).eng q = some r := by rw [discardOver_eng h]; exact hr
  have hfree : (discardOver u).eng.awaitDiscard = false := rfl
  rw [deliverEntry_turnProgram ((item_of_standing h).trans hi)]
  refine ⟨fun hend => ?_, fun n hn ho => ?_⟩
  · rw [voiceRecord_ends hrec (h.ctrl ▸ hend), chooseFetch_eng, chooseFetch_voice, itemEnd_queue, itemEnd_eng hh]
    exact ⟨rfl, rfl, congrArg VoiceWriter.queue h.voice⟩
  · rw [voiceRecord_waits hrec hn (h.ctrl ▸ ho), asked_of_free hfree]
    rfl

/-- An answer awaited for discard has come (R97). -/
theorem discarded_delivered : Discarded s (chooseFetch (deliverEntry b p e u)) u.map.cache := by
  refine ⟨fun hi => ?_, fun k q js hi => ⟨fun hc => ?_, fun c n hc hj => discarded_hit h hi hc hj⟩,
    fun k q js r hi hk hr => ?_⟩
  · rw [deliverEntry_kept (by rw [item_of_standing h]; exact hi), chooseFetch_eng, chooseFetch_voice, chooseFetch_cache]
    exact ⟨discardOver_eng h, h.voice, rfl⟩
  · rw [deliverEntry_behind_miss h hi hc]
    refine ⟨awaiting_eng h _ k _, ?_, ?_, awaiting_chosen h _ k (.entry s.ctrl.bank q)⟩
    · rw [chooseFetch_voice]
      exact h.voice
    · rw [chooseFetch_cache]
      rfl
  · obtain ⟨hends, hwaits⟩ := voices_discardOver h (b := b) (p := p) (e := e) hi hk hr
    refine ⟨hends, fun n hn ho => ?_⟩
    rw [hwaits n hn ho]
    refine ⟨awaiting_eng h _ k _, ?_, ?_, awaiting_chosen h _ k (.program n)⟩
    · rw [chooseFetch_voice]
      exact h.voice
    · rw [chooseFetch_cache]
      rfl

/-- An item that runs on without an entry of its own leaves what it does not name. -/
theorem runKept_delivered (hi : s.eng.item = none ∨ (∃ it pu, s.eng.item = some it ∧ it.wait = .push pu) ∨
    (∃ k q js, s.eng.item = some { kind := k, wait := .turnEntry q, jobs := js } ∧
      lookupEntry s.ctrl.bank q u.map.cache = none) ∨
    (∃ k q js, s.eng.item = some { kind := k, wait := .turnProgram q, jobs := js } ∧ Voices k q)) :
    RunKept (discardOver u) (deliverEntry b p e u) := by
  have hitem := item_of_standing h
  rcases hi with hi | hi | ⟨k, q, js, hi, hc⟩ | ⟨k, q, js, hi, hk⟩
  · rw [deliverEntry_kept (.inl (hitem.trans hi))]
    exact .refl _
  · rw [deliverEntry_kept (.inr (by rwa [hitem]))]
    exact .refl _
  · rw [deliverEntry_behind_miss h hi hc]
    exact (runKept_setEngReq _ (discardOver u)).trans (runKept_waitFor _ _ _ _)
  · obtain ⟨hh, -⟩ := voices_ne_hush hk
    rw [deliverEntry_turnProgram (hitem.trans hi)]
    exact runKept_voiceRecord hh q _

/-- What the item behind the answer logs, when it finds its entry in the cache. -/
theorem entryLogged_delivered {k : ItemKind} {q : Pos} {js : List Job} {c : CacheEntry}
    (hi : s.eng.item = some { kind := k, wait := .turnEntry q, jobs := js }) (hk : k = .press q ∨ k = .restrikeStep q)
    (hc : lookupEntry s.ctrl.bank q u.map.cache = some c) (hs : StatusKept s u) :
    EntryLogged q c.word s (chooseFetch (deliverEntry b p e u)) := by
  obtain ⟨hb, hp⟩ := lookupEntry_tag hc
  refine entryLogged_hit (standing_discardOver h) (hs.trans (.of_stat rfl)) hb hp ?_
  rw [deliverEntry_behind_hit h hi hc]
  refine StatusKept.trans ?_ (statusKept_chooseFetch _)
  rcases hk with rfl | rfl
  · exact (runKept_pressEntered _ _ _ _).status
  · exact (runKept_restrikeEntered _ _ _ _).status

end Discard

/-- Settles O40: the word is installed, judged and handed to the item that waits for it, or to none. -/
theorem mapEntriesAreInstalledAndHandedOver : Obligations.MapEntriesAreInstalledAndHandedOver := by
  intro s x a f b p h hf cache e
  have hcache : cache = cacheAfter x f b p s.map.cache := by
    cases x <;> rfl
  have he : e = snapAfter x := by
    cases x with
    | error => rfl
    | done w =>
      show _ = snapOf (w.get 0)
      unfold snapOf
      cases hj : judgeEntry (w.get 0) <;> simp only [e, hj]
  clear_value cache e
  subst hcache he
  have hexec := exec_mapEntryFetchLands x h hf
  have hstand : Standing s _ := arrived_standing (a := a) (b := b) (p := p) (f := f) x
  have hlog := arrived_logged (f := f) x h
  have hin := arrived_cache (s := s) (a := a) (b := b) (p := p) (f := f) x
  have heng := arrived_eng (s := s) (a := a) (b := b) (p := p) (f := f) x
  generalize arrived x f b p (landed s a x.failed) = u at *
  have hwait : programWait u p = programWait s p := by rw [programWait, heng]; rfl
  refine ⟨fun js hi hn hl => ⟨_, hexec, ?_⟩, fun js r hi hr ho hroom => ⟨_, hexec, ?_⟩, fun _ => ⟨_, hexec, ?_⟩⟩
  · obtain ⟨hpress, hchosen⟩ := pressEntered_entered hstand (b := b) (e := snapAfter x) hn hl
    have hk := runKept_pressEntered b p (snapAfter x) u
    rw [deliverEntry_waited (heng ▸ hi)]
    refine ⟨?_, entryLanded_of_run hstand hlog hk, hwait ▸ hpress, heng ▸ hchosen⟩
    exact (chooseFetch_cache _).trans (hk.cache.trans hin)
  · obtain ⟨hrestrike, hchosen⟩ := restrikeEntered_entered hstand (b := b) (e := snapAfter x) hr ho hroom
    have hk := runKept_restrikeEntered b p (snapAfter x) u
    rw [deliverEntry_waited (heng ▸ hi)]
    refine ⟨?_, entryLanded_of_run hstand hlog hk, hwait ▸ hrestrike, heng ▸ hchosen⟩
    exact (chooseFetch_cache _).trans (hk.cache.trans hin)
  · rw [← hin]
    refine ⟨discarded_delivered hstand, fun hi => ?_, fun k q js c w hi hk hc hx hj => ?_⟩
    · exact entryLanded_of_run (standing_discardOver hstand) (hlog.trans_kept (.of_stat rfl))
        (runKept_delivered hstand hi)
    · obtain ⟨-, -, hgood⟩ := hlog
      exact entryLogged_delivered hstand hi hk hc (hgood w hx hj)

end Sys2Proof.Machine
end

section
/-! PROOFS. PERFORM, STANDBY SETTLE and PANIC: the command is taken and acts at once (R165, R167, R170, R171, R172). -/

namespace Sys2Proof.Machine

/-! ### A command that acts when it is taken -/

section Acts

variable {s : State} {i : Instr} {op : Byte} {c : CmdWrite} {o : Opcode}

section Judged

variable (h : CommandAccepted s) (hi : commandOf i = some (op, c)) (ho : opcodeOf op = some o)
  (hfree : s.ctrl.command = none ∨ o = .panic ∨ o = .reinit) (hdesc : s.ctrl.valid = true ∨ o.anyDescriptor = true)
include h hi ho hfree hdesc

/-- A command that is neither unknown, nor busy, nor refused goes on to its argument (R167). -/
theorem exec_command_judged : exec i s = .next (chooseFetch
    (if o.hasArg then
      match c.arg with
      | some a => actWith o a (posted op c s)
      | none => requestArgument o s.player.writes.length (posted op c s)
    else actPlain o (posted op c s))) := by
  have hbusy : ¬(s.ctrl.command.isSome = true ∧ o ≠ .panic ∧ o ≠ .reinit) := by
    rintro ⟨hc, hp, hr⟩
    rcases hfree with hn | hn | hn
    · simp [hn] at hc
    · exact hp hn
    · exact hr hn
  have hrefused : ¬(s.ctrl.valid = false ∧ o.anyDescriptor = false) := by
    rintro ⟨hv, ha⟩
    exact hdesc.elim (by simp [hv]) (by simp [ha])
  rw [exec_commandOf hi, commandWrite_posted h, ho]
  exact congrArg (fun u => Host.Outcome.next (chooseFetch u)) ((if_neg hbusy).trans (if_neg hrefused))

theorem exec_plain_command (ha : o.hasArg = false) :
    exec i s = .next (chooseFetch (actPlain o (posted op c s))) := by
  rw [exec_command_judged h hi ho hfree hdesc, ha]
  rfl

theorem exec_argument_command {a : Word} (ha : o.hasArg = true) (hc : c.arg = some a) :
    exec i s = .next (chooseFetch (actWith o a (posted op c s))) := by
  rw [exec_command_judged h hi ho hfree hdesc, ha, hc]
  rfl

end Judged

/-- What the action of a command leaves of its taking is what R166 says of the command. -/
theorem commandTaken_of_posted {u : State} {r : CmdResult} (hplayer : u.player = (posted op c s).player)
    (hports : u.ports = (posted op c s).ports) (hcount : CommandCountKept (posted op c s) u)
    (hresult : u.stat.result = r) (hstale : u.stat.stale = true) : CommandTaken op c r s (chooseFetch u) := by
  obtain ⟨hop, hcmd⟩ := hcount
  refine ⟨?_, ?_, ?_, ?_, ?_, ?_⟩
  · rw [chooseFetch_player, hplayer, posted_player]
  · rw [chooseFetch_ports, hports, posted_ports]
  · rw [chooseFetch_stat, hop, posted_stat_lastOpcode]
  · rw [chooseFetch_stat, hresult]
  · rw [chooseFetch_stat, hcmd, posted_stat_cmdCount]
  · rw [chooseFetch_stat, hstale]

/-- A command that is being taken and has not been named otherwise takes the result that ends it (R166). -/
theorem answer_stat_result {r : CmdResult} (h : s.stat.awaited = .command) : (answer r s).stat.result = r := by
  rw [answer, finish_stat_result, if_pos h]

end Acts

/-! ### PERFORM (R170, R171) -/

theorem actPerform_enters {s : State} (ho : s.ctrl.op = .transparent) (hp : s.eng.hushPending = .clear)
    (hh : itemIsHush s.eng = false) : actPerform s = answer .done (enterPerforming s) := by
  simp [actPerform, ho, hp, hh]

/-- Sustain and HUSH effective, worked out afresh in PERFORMING with a valid descriptor (R156, R158). -/
theorem workedOut_performing {c : Control} (hv : c.valid = true) :
    sustainValue { c with op := .performing } = ((c.copy.sustEnable && c.sustReading) || c.sustainFlag) ∧
    hushValue { c with op := .performing } = (c.copy.hushEnable && c.hushReading) := by
  simp [sustainValue, hushValue, sustEnable, hushEnable, hushPinActive, OpState.working, Control.copy, hv]

/-- Settles O13: the taking of the command, and then the entry to PERFORMING. -/
theorem performEntersPerforming : Obligations.PerformEntersPerforming := by
  rintro s c ⟨h, hfree⟩ hv ho hp hh
  have hexec := exec_plain_command (i := .perform c) h rfl (show opcodeOf 1 = some .perform by decide) (.inl hfree)
    (.inl hv) rfl
  have hact : actPlain .perform (posted 1 c s) = answer .done (enterPerforming (posted 1 c s)) :=
    actPerform_enters (by simpa using ho) (by simpa using hp) (by simpa using hh)
  rw [hact] at hexec
  obtain ⟨hsustain, hhush⟩ := workedOut_performing hv
  refine ⟨_, hexec, ?_, ?_, ?_, ?_, ?_, ?_, ?_, ?_, ?_, ?_⟩
  · refine commandTaken_of_posted (by simp) (by simp) ?_ (answer_stat_result (by simp)) ?_
    · simp [CommandCountKept, answer]
    · exact finish_stale (enterPerforming_stale (posted_stale 1 c s))
  · rw [chooseFetch_ctrl, answer_ctrl, enterPerforming_ctrl, posted_ctrl, hsustain, hhush]
  · intro p
    simpa [Scan.enterPerforming] using get_map_hushCond s.scan.down p
  · simp [Scan.enterPerforming]
  · simp [Scan.enterPerforming]
  · simp [Bellows.enterPerforming]
  · simp
  · simp [PortsKept]
  · simp [CachesKept]
  · simp [StatusKept, answer]

/-! ### STANDBY SETTLE (R172) -/

/-- A restrike walk that stops leaves no walk, whether one was running or not. -/
theorem endRestrike_eng (s : State) : (endRestrike s).eng = { s.eng with restrikeWalk := false } := by
  unfold endRestrike
  split
  · rw [completeSwap_eng, State.setEng_eng]
  · next h => simp [← Bool.eq_false_iff.mpr h]

/-- A restrike walk that stops completes its swap (R134, R154). -/
theorem endRestrike_ctrl (s : State) : (endRestrike s).ctrl =
    { s.ctrl with swap := if s.eng.restrikeWalk then none else s.ctrl.swap } := by
  unfold endRestrike
  split <;> simp

theorem endRestrike_stat_flags (s : State) : (endRestrike s).stat.flags =
    if s.eng.restrikeWalk then s.stat.flags ||| 2 else s.stat.flags := by
  unfold endRestrike
  split <;> simp

/-- A swap that completes ends no other command (R154, R166). -/
theorem endRestrike_stat_result {s : State} (h : s.stat.awaited ≠ .swap) :
    (endRestrike s).stat.result = s.stat.result := by
  unfold endRestrike
  split
  · simp [completeSwap_stat_result, h]
  · rfl

theorem enterSettling_ctrl (s : State) : (enterSettling s).ctrl = { s.ctrl with
    op := .settling, settleFrames := 0, settleTimer := some s.timebase, settleCut := false, sustain := false
    hushEffective := hushPinActive s.ctrl, swap := if s.eng.restrikeWalk then none else s.ctrl.swap } := by
  simp only [enterSettling, workOut_ctrl, endRestrike_ctrl]
  simp [sustainValue, hushValue, OpState.working, hushPinActive, hushEnable, Control.copy]

theorem enterSettling_eng (s : State) : (enterSettling s).eng = { s.eng with
    revWalk := none, sustainWalk := false, restrikeWalk := false, releaseAll := true } := by
  simp [enterSettling, endRestrike_eng]

@[simp] theorem enterSettling_scan (s : State) : (enterSettling s).scan = { s.scan with events := [] } := by
  simp [enterSettling, Scan.flush]

@[simp] theorem enterSettling_bellows (s : State) :
    (enterSettling s).bellows = { s.bellows with revNotice := none } := by
  simp [enterSettling]

theorem enterSettling_stat_flags (s : State) : (enterSettling s).stat.flags =
    if s.eng.restrikeWalk then s.stat.flags ||| 2 else s.stat.flags := by
  simp [enterSettling, endRestrike_stat_flags]

@[simp] theorem enterSettling_stat_counters (s : State) :
    (enterSettling s).stat.counters = s.stat.counters := by
  simp [enterSettling]

@[simp] theorem enterSettling_stat_faultLog (s : State) :
    (enterSettling s).stat.faultLog = s.stat.faultLog := by
  simp [enterSettling]

@[simp] theorem enterSettling_stat_faultCount (s : State) :
    (enterSettling s).stat.faultCount = s.stat.faultCount := by
  simp [enterSettling]

theorem enterSettling_stat_result {s : State} (h : s.stat.awaited ≠ .swap) :
    (enterSettling s).stat.result = s.stat.result := by
  simp only [enterSettling, workOut_stat_result]
  rw [endRestrike_stat_result (by simpa using h)]
  simp

/-- Settles O14: the taking of the command, and then the entry to SETTLING, which leaves it pending. -/
theorem standbySettleEntersSettling : Obligations.StandbySettleEntersSettling := by
  rintro s h a w ⟨hacc, hfree⟩ hv ho hw
  have harg : w.arg = some (a ++ (1 : BitVec 2)) := by
    obtain ⟨-, rfl⟩ := Prod.mk.inj (Option.some.inj hw)
    rfl
  have hexec := exec_argument_command hacc hw (show opcodeOf 2 = some .standby by decide) (.inl hfree) (.inl hv) rfl harg
  have hact : actWith .standby (a ++ (1 : BitVec 2)) (posted 2 w s) =
      leavePending .settle (enterSettling (posted 2 w s)) := by
    simp [actWith, fieldAt_mode, actSettle, ho]
  rw [hact] at hexec
  have hhush : hushPinActive s.ctrl = (s.ctrl.copy.hushEnable && s.ctrl.hushReading) := by
    simp [hushPinActive, hushEnable, hv]
  refine ⟨_, hexec, ?_, ?_, ?_, ?_, ?_, ?_, ?_, ?_, ?_, ?_, ?_⟩
  · refine commandTaken_of_posted (by simp) (by simp) ?_ ?_ ?_
    · simpa [CommandCountKept] using enterSettling_count (s := posted 2 w s)
    · rw [leavePending_stat_result, enterSettling_stat_result (by simp), posted_stat_result]
    · rw [leavePending_stat_stale]
      exact enterSettling_stale (posted_stale 2 w s)
  · rw [chooseFetch_ctrl, leavePending_ctrl, enterSettling_ctrl]
    simp [hhush]
  · simp
  · simp
  · simp [enterSettling_eng]
  · simp [enterSettling_stat_flags]
  · simp
  · simp
  · simp
  · simp [PortsKept]
  · simp [CachesKept]

/-! ### PANIC (R159, R167) -/

/-- Settles O17: PANIC is taken also beside a command in progress, and the hush is announced at once. -/
theorem panicAnnouncesAHush : Obligations.PanicAnnouncesAHush := by
  intro s c h hv
  have hexec := exec_plain_command (i := .panic c) h rfl (show opcodeOf 4 = some .panic by decide) (.inr (.inl rfl))
    (.inl hv) rfl
  have hact : actPlain .panic (posted 4 c s) = answer .done (announceHush (posted 4 c s)) := rfl
  rw [hact] at hexec
  refine ⟨_, hexec, ?_, ?_, controlKept_chooseFetch (by simp), by simp [CachesKept], by simp [StatusKept, answer]⟩
  · refine commandTaken_of_posted (by simp) (by simp) ?_ (answer_stat_result (by simp)) ?_
    · simp [CommandCountKept, answer]
    · exact finish_stale (announceHush_stale (posted_stale 4 c s))
  · simpa [Hushed] using announceHush_hushed (posted 4 c s)

end Sys2Proof.Machine
end

section
/-! PROOFS. The answer that is a frame start, and the blocks that take it (R52, R53, R60, R94, R128, R129). -/

namespace Sys2Proof.Machine

/-! ### The answer (R128) -/

/-- A T read has been answered with data, and nothing outside the T-port and the M-port has changed. -/
structure ReadAnswered (s u : State) : Prop where
  ctrl : u.ctrl = s.ctrl
  scan : u.scan = s.scan
  bellows : u.bellows = s.bellows
  map : u.map = s.map
  eng : u.eng = s.eng
  voice : u.voice = s.voice
  player : u.player = s.player
  stat : u.stat = s.stat
  frame : u.tone.frame = s.tone.frame
  service : u.tone.service = none
  ports : ∃ ws, u.ports = { s.ports with tAnswer := some (.accept ws) }

theorem answerTRead_frameStart {s : State} {r : ReadReq} (h : isFrameStart s.ctrl r = true) (data : Tbl 8 Word) :
    answerTRead r data s = frameStart (answerT (.accept (answerWords r data)) s) :=
  if_pos h

theorem gate_of_heldReadFrame {s : State} {r : ReadReq} (h : heldReadFrame s r = true) : TOpen s ∧
    badStart r.start = false ∧ firstRefused (refusesRead s.ctrl) (namedAddrs r) = none ∧
    isFrameStart s.ctrl r = true ∧ ∃ data, gateOf s r = .fromSlot data := by
  simp only [heldReadFrame, Bool.and_eq_true, Option.isNone_iff_eq_none, Bool.not_eq_true'] at h
  obtain ⟨⟨⟨⟨⟨hservice, hworking⟩, hstart⟩, hrefused⟩, hframe⟩, hgate⟩ := h
  refine ⟨⟨hworking, hservice⟩, hstart, hrefused, hframe, ?_⟩
  split at hgate
  · next data hd => exact ⟨data, hd⟩
  · cases hgate
  · cases hgate

theorem carries_of_completesFrame {s : State} (h : completesFrame s = true) :
    ∃ a, Carries s .tRead a ∧ isFrameStart s.ctrl a.req.toReadReq = true := by
  unfold completesFrame at h
  split at h
  · next a ha =>
    obtain ⟨hmine, hframe⟩ := (Bool.and_eq_true _ _).mp h
    obtain ⟨howner, hdrop⟩ := of_decide_eq_true hmine
    exact ⟨a, ⟨ha, howner, hdrop⟩, hframe⟩
  · cases h

/-- Both answers that are frame starts come to a frame start of the state in which the read has been answered. -/
theorem frameAnswer_eq {s : State} {f : FrameCause} (h : wouldFrame s f = true) :
    ∃ u, ReadAnswered s u ∧ frameAnswer f s = frameStart u := by
  cases f with
  | completes w =>
    obtain ⟨a, ha, hframe⟩ := carries_of_completesFrame h
    have hland : frameAnswer (.completes w) s = answerTRead a.req.toReadReq w (endService (landed s a false)) :=
      Host.Outcome.next.inj (exec_tReadCompletes ha (.done w))
    refine ⟨_, ?_, hland.trans (answerTRead_frameStart (by simpa [endService] using hframe) w)⟩
    constructor
    case ports => exact ⟨answerWords a.req.toReadReq w, rfl⟩
    all_goals simp [endService, landed, freePort]
  | heldRead r =>
    obtain ⟨hopen, hstart, hrefused, hframe, data, hgate⟩ := gate_of_heldReadFrame h
    refine ⟨_, ?_, (tRead_fromSlot hopen hstart hrefused hgate).trans
      (answerTRead_frameStart (by simpa using hframe) data)⟩
    constructor
    case ports => exact ⟨answerWords r data, rfl⟩
    case service => simpa using hopen.2
    all_goals simp

/-- The command of the answer itself. -/
theorem exec_frameAnswer (f : FrameCause) (s : State) :
    exec (match f with
      | .completes w => .tReadCompletes (.done w)
      | .heldRead r => .tRead r) s = .next (frameAnswer f s) := by
  cases f <;> rfl

/-! ### The tone port, the engine and the tracker (R60, R94, R129) -/

/-- The frame counter, the pending frames and the tracker have taken the frame start. -/
def frameBegun (s : State) : State :=
  let s₁ := report s (s.setTone { s.tone with frame := s.tone.frame + 1 })
  let s₂ := s₁.setEng { s₁.eng with pendingFrames := addFrame s₁.eng.pendingFrames }
  report s₂ (s₂.setBellows (s₂.bellows.frame s₂.ctrl.copy s₂.ctrl.op))

theorem frameStart_eq (s : State) : frameStart s = frameControl (frameScan (frameBegun s)) := rfl

/-- What a state in which the scan monitor takes the frame start has of the state before the answer. -/
structure FrameBegun (s v : State) : Prop where
  ctrl : v.ctrl = s.ctrl
  scan : v.scan = s.scan
  bellows : v.bellows = s.bellows.frame s.ctrl.copy s.ctrl.op
  map : v.map = s.map
  eng : v.eng = { s.eng with
    pendingFrames := if s.eng.pendingFrames < 255 then s.eng.pendingFrames + 1 else s.eng.pendingFrames }
  voice : v.voice = s.voice
  player : v.player = s.player
  frame : v.tone.frame = s.tone.frame + 1
  service : v.tone.service = none
  ports : ∃ ws, v.ports = { s.ports with tAnswer := some (.accept ws) }
  status : StatusKept s v
  result : v.stat.result = s.stat.result
  awaited : v.stat.awaited = s.stat.awaited

theorem frameBegun_begun {s u : State} (h : ReadAnswered s u) : FrameBegun s (frameBegun u) where
  ctrl := by simp [frameBegun, h.ctrl]
  scan := by simp [frameBegun, h.scan]
  bellows := by simp [frameBegun, h.bellows, h.ctrl]
  map := by simp [frameBegun, h.map]
  eng := by simp [frameBegun, h.eng, addFrame, Config.frameMax]
  voice := by simp [frameBegun, h.voice]
  player := by simp [frameBegun, h.player]
  frame := by simp [frameBegun, h.frame]
  service := by simp [frameBegun, h.service]
  ports := by simpa [frameBegun] using h.ports
  status := by simp [frameBegun, StatusKept, h.stat]
  result := by simp [frameBegun, h.stat]
  awaited := by simp [frameBegun, h.stat]

/-- A frame start, block by block (assumption 26): when the scan monitor takes it, the blocks before it have. -/
theorem frameAnswer_begun {s : State} {f : FrameCause} (h : wouldFrame s f = true) :
    ∃ v, FrameBegun s v ∧ frameAnswer f s = frameControl (frameScan v) := by
  obtain ⟨u, hu, heq⟩ := frameAnswer_eq h
  exact ⟨frameBegun u, frameBegun_begun hu, heq.trans (frameStart_eq u)⟩

/-! ### The reversal hold (R59, R60) -/

section Hold

variable {b : Bellows} {d : Desc} {op : OpState}

theorem frame_hold_zero (h : b.hold = 0) : b.frame d op = b := if_pos h

theorem frame_hold_running (h : 1 < b.hold) : b.frame d op = { b with hold := b.hold - 1 } := by
  have h₀ : b.hold ≠ 0 := by omega
  have h₁ : b.hold - 1 ≠ 0 := by omega
  simp [Bellows.frame, h₀, h₁]

/-- When the hold count reaches 0 the sounding direction is tested again. -/
theorem frame_hold_ends (h : b.hold = 1) : b.frame d op = ({ b with hold := 0 } : Bellows).testDir d op := by
  simp [Bellows.frame, h]

theorem frame_hold_ends_kept (h : b.hold = 1) (hm : b.motion.dir? = none ∨ b.motion.dir? = some b.dir) :
    b.frame d op = { b with hold := 0 } := by
  rw [frame_hold_ends h]
  refine testDir_of_not_turns d op fun ⟨hr, hne, _⟩ => ?_
  rcases hm with hm | hm
  · exact hr (by cases hb : b.motion <;> simp [hb, Motion.dir?] at hm ⊢)
  · exact hne hm

theorem frame_hold_ends_turned (h : b.hold = 1) (hn : b.motion.dir? ≠ none) (hd : b.motion.dir? ≠ some b.dir) :
    ∃ m, b.motion.dir? = some m ∧ b.frame d op = ({ b with hold := 0 } : Bellows).turn d op m := by
  rw [frame_hold_ends h]
  exact testDir_of_turns d op (b := { b with hold := 0 }) ⟨fun hr : b.motion = .rest => hn (by rw [hr]; rfl), hd, rfl⟩

/-- No frame start changes the reading of the air. -/
theorem frame_reading (b : Bellows) (d : Desc) (op : OpState) :
    (b.frame d op).magnitude = b.magnitude ∧ (b.frame d op).motion = b.motion := by
  unfold Bellows.frame
  dsimp only []
  split
  · exact ⟨rfl, rfl⟩
  split
  · obtain ⟨hmag, hmot, -, -⟩ := testDir_kept d op { b with hold := b.hold - 1 }
    exact ⟨hmag, hmot⟩
  · exact ⟨rfl, rfl⟩

end Hold

/-! ### The scan monitor (R52, R53) -/

section Silence

variable {d : Desc} {op : OpState} {sc : Scan}

theorem counts_iff : sc.counts d op = true ↔
    op = .performing ∧ d.silenceLimit.toNat ≠ 0 ∧ sc.silence < d.silenceLimit.toNat := by
  simp [Scan.counts]

theorem trips_iff : sc.trips d op = true ↔
    op = .performing ∧ d.silenceLimit.toNat ≠ 0 ∧ sc.silence + 1 = d.silenceLimit.toNat := by
  simp only [Scan.trips, Bool.and_eq_true, counts_iff, decide_eq_true_eq]
  exact ⟨fun ⟨⟨ho, hl, _⟩, he⟩ => ⟨ho, hl, he⟩, fun ⟨ho, hl, he⟩ => ⟨⟨ho, hl, by omega⟩, he⟩⟩

theorem tick_counted (h : sc.counts d op = true) : sc.tick d op = { sc with silence := sc.silence + 1 } := if_pos h

theorem tick_still (h : sc.counts d op = false) : sc.tick d op = sc := by simp [Scan.tick, h]

end Silence

section FrameScan

variable {s : State}

theorem frameScan_tripped (h : s.scan.trips s.ctrl.copy s.ctrl.op = true) :
    frameScan s = raiseFlag flagScanSilent
      ((report s (s.setScan (s.scan.tick s.ctrl.copy s.ctrl.op).trip)).setEng { s.eng with releaseAll := true }) := by
  simp [frameScan, h]

theorem frameScan_untripped (h : s.scan.trips s.ctrl.copy s.ctrl.op = false) :
    frameScan s = s.setScan (s.scan.tick s.ctrl.copy s.ctrl.op) := by
  simp [frameScan, h]

theorem frameScan_eng (s : State) : (frameScan s).eng =
    { s.eng with releaseAll := s.scan.trips s.ctrl.copy s.ctrl.op || s.eng.releaseAll } := by
  cases h : s.scan.trips s.ctrl.copy s.ctrl.op with
  | true => rw [frameScan_tripped h, raiseFlag_eng, State.setEng_eng]; rfl
  | false => rw [frameScan_untripped h]; rfl

theorem frameScan_stat_flags (s : State) : (frameScan s).stat.flags =
    if s.scan.trips s.ctrl.copy s.ctrl.op then s.stat.flags ||| 8 else s.stat.flags := by
  cases h : s.scan.trips s.ctrl.copy s.ctrl.op with
  | true => simp [frameScan_tripped h, flagScanSilent]
  | false => simp [frameScan_untripped h]

/-- A trip reports and raises its flag, and gives no command a result. -/
theorem frameScan_stat (s : State) : (frameScan s).stat.result = s.stat.result ∧
    (frameScan s).stat.awaited = s.stat.awaited ∧ (frameScan s).stat.faultLog = s.stat.faultLog ∧
    (frameScan s).stat.counters = s.stat.counters := by
  cases h : s.scan.trips s.ctrl.copy s.ctrl.op with
  | true => simp [frameScan_tripped h]
  | false => simp [frameScan_untripped h]

end FrameScan

end Sys2Proof.Machine
end

section
/-! PROOFS. The control unit at a frame start: a pending swap is tested, and SETTLING counts, ends or is cut (R129, R153,
R173, R174). -/

namespace Sys2Proof.Machine

/-! ### What the control unit leaves to the other blocks -/

/-- What the control unit's part of a frame start leaves as it is. -/
structure FrameKept (s t : State) : Prop where
  frame : t.tone.frame = s.tone.frame
  service : t.tone.service = s.tone.service
  pendingFrames : t.eng.pendingFrames = s.eng.pendingFrames
  bellows : t.bellows = { s.bellows with levelNotice := t.bellows.levelNotice }
  cache : t.map.cache = s.map.cache
  sects : t.map.sects = s.map.sects
  queue : t.voice.queue = s.voice.queue
  player : t.player = s.player
  desc : t.ctrl.desc = s.ctrl.desc
  guard : t.ctrl.guard = s.ctrl.guard
  silent : t.stat.flags.getLsbD 3 = s.stat.flags.getLsbD 3

theorem FrameKept.refl (s : State) : FrameKept s s := by constructor <;> rfl

theorem FrameKept.trans {s t u : State} (h : FrameKept s t) (k : FrameKept t u) : FrameKept s u where
  frame := k.frame.trans h.frame
  service := k.service.trans h.service
  pendingFrames := k.pendingFrames.trans h.pendingFrames
  bellows := by rw [k.bellows, h.bellows]
  cache := k.cache.trans h.cache
  sects := k.sects.trans h.sects
  queue := k.queue.trans h.queue
  player := k.player.trans h.player
  desc := k.desc.trans h.desc
  guard := k.guard.trans h.guard
  silent := k.silent.trans h.silent

theorem frameKept_completeSwap (s : State) : FrameKept s (completeSwap s) := by constructor <;> simp

theorem frameKept_takeSwap (w : Swap) (s : State) : FrameKept s (takeSwap w s) := by
  have h : FrameKept s (report s (s.setCtrl { s.ctrl with bank := w.incoming })) := by constructor <;> simp
  unfold takeSwap
  dsimp only []
  split
  · exact h.trans (by constructor <;> simp)
  · exact h.trans (frameKept_completeSwap _)

theorem frameKept_testSwap (s : State) : FrameKept s (testSwap s) := by
  unfold testSwap
  split
  · split
    · exact frameKept_takeSwap _ s
    · exact .refl s
  · exact .refl s

/-! ### What SETTLING leaves of a swap that is not taken -/

/-- What SETTLING leaves as it is besides: the swap, the restrike walk, and a result that is not its own. -/
structure SettleKept (s t : State) : Prop where
  kept : FrameKept s t
  bank : t.ctrl.bank = s.ctrl.bank
  swap : t.ctrl.swap = s.ctrl.swap
  walk : t.eng.restrikeWalk = s.eng.restrikeWalk
  swapDone : t.stat.flags.getLsbD 1 = s.stat.flags.getLsbD 1
  awaited : s.stat.awaited ≠ .settle → t.stat.awaited = s.stat.awaited
  result : s.stat.awaited ≠ .settle → t.stat.result = s.stat.result

theorem SettleKept.refl (s : State) : SettleKept s s where
  kept := .refl s
  bank := rfl
  swap := rfl
  walk := rfl
  swapDone := rfl
  awaited _ := rfl
  result _ := rfl

theorem SettleKept.trans {s t u : State} (h : SettleKept s t) (k : SettleKept t u) : SettleKept s u where
  kept := h.kept.trans k.kept
  bank := k.bank.trans h.bank
  swap := k.swap.trans h.swap
  walk := k.walk.trans h.walk
  swapDone := k.swapDone.trans h.swapDone
  awaited hn := (k.awaited (by rwa [h.awaited hn])).trans (h.awaited hn)
  result hn := (k.result (by rwa [h.awaited hn])).trans (h.result hn)

/-- No pending swap can be taken: it has been, or a write into its bank is queued (R153). -/
def SwapWaits (s : State) : Prop := ∀ x, s.ctrl.swap = some x → x.taken = true ∨ holdsBank s x.incoming = true

theorem testSwap_waits {s : State} (h : SwapWaits s) : testSwap s = s := by
  unfold testSwap
  split
  · next x hx => rcases h x hx with hw | hw <;> simp [hw]
  · rfl

theorem SwapWaits.of_kept {s t : State} (h : SwapWaits s) (k : SettleKept s t) : SwapWaits t := by
  intro x hx
  rw [holdsBank_congr k.kept.player k.kept.desc]
  exact h x (k.swap ▸ hx)

theorem settleKept_endItem (s : State) : SettleKept s (endItem s) := by
  constructor
  case kept =>
    constructor
    case pendingFrames => rw [endItem_eng]
    all_goals simp
  case walk => rw [endItem_eng]
  all_goals simp

theorem settleKept_setEng {s : State} {e : Engine} (hf : e.pendingFrames = s.eng.pendingFrames)
    (hw : e.restrikeWalk = s.eng.restrikeWalk) : SettleKept s (s.setEng e) := by
  constructor
  case kept => constructor <;> simp [hf]
  all_goals simp [hw]

theorem settleKept_report (a s : State) : SettleKept s (report a s) := by
  constructor
  case kept => constructor <;> simp
  all_goals simp

/-- Changes of SETTLING's own values in the control unit. -/
theorem settleKept_setCtrl {s : State} {c : Control} (h : c = { s.ctrl with
    op := c.op, settleFrames := c.settleFrames, settleTimer := c.settleTimer, settleCut := c.settleCut
    sustain := c.sustain, hushEffective := c.hushEffective }) : SettleKept s (s.setCtrl c) := by
  constructor
  case kept =>
    constructor
    case desc => rw [State.setCtrl_ctrl, h]
    case guard => rw [State.setCtrl_ctrl, h]
    all_goals simp
  case bank => rw [State.setCtrl_ctrl, h]
  case swap => rw [State.setCtrl_ctrl, h]
  all_goals simp

theorem settleKept_dropLevelNotice (s : State) : SettleKept s (s.setBellows { s.bellows with levelNotice := none }) := by
  constructor
  case kept => constructor <;> simp
  all_goals simp

theorem settleKept_raiseSettled (s : State) : SettleKept s (raiseFlag flagSettled s) := by
  constructor
  case kept => constructor <;> simp [flagSettled]
  all_goals simp [flagSettled]

/-- DONE for the STANDBY is no other command's result (R166). -/
theorem settleKept_finish (s : State) : SettleKept s (finish .settle .done s) := by
  constructor
  case kept => constructor <;> simp
  case awaited => intro hn; rw [finish_stat_awaited, if_neg hn]
  case result => intro hn; rw [finish_stat_result, if_neg hn]
  all_goals simp

theorem settleKept_enterTransparent {s : State} (h : SwapWaits s) : SettleKept s (enterTransparent s) := by
  unfold enterTransparent
  have hop : SettleKept s (setOp .transparent s) := (settleKept_setCtrl rfl).trans (settleKept_report _ _)
  have hout : SettleKept s (workOut (setOp .transparent s)) :=
    hop.trans ((settleKept_setCtrl rfl).trans (settleKept_report _ _))
  have hkept := hout.trans (settleKept_dropLevelNotice _)
  dsimp only []
  rw [testSwap_waits (h.of_kept hkept)]
  exact hkept

/-- The item that ends with SETTLING has ended (R173). -/
def settledItem (s : State) : State :=
  match s.eng.item with
  | some it => if it.kind.endsWithSettling then endItem s else s
  | none => s

/-- The engine at the end of SETTLING: no release-all, no record, no reversal walk (R173). -/
def settledEngine (s : State) : State :=
  report s (s.setEng { s.eng with releaseAll := false, held := [], revWalk := none })

theorem endSettling_eq (s : State) : endSettling s = finish .settle .done (raiseFlag flagSettled (enterTransparent
    (settledEngine (settledItem (s.setCtrl { s.ctrl with settleTimer := none, settleCut := false }))))) := rfl

theorem settleKept_settledItem (s : State) : SettleKept s (settledItem s) := by
  unfold settledItem
  split
  · split
    · exact settleKept_endItem s
    · exact .refl s
  · exact .refl s

theorem settleKept_settledEngine (s : State) : SettleKept s (settledEngine s) :=
  (settleKept_setEng (by rfl) (by rfl)).trans (settleKept_report _ _)

theorem settleKept_endSettling {s : State} (h : SwapWaits s) : SettleKept s (endSettling s) := by
  rw [endSettling_eq]
  have hctrl : SettleKept s (s.setCtrl { s.ctrl with settleTimer := none, settleCut := false }) :=
    settleKept_setCtrl rfl
  have heng := (hctrl.trans (settleKept_settledItem _)).trans (settleKept_settledEngine _)
  exact ((heng.trans (settleKept_enterTransparent (h.of_kept heng))).trans (settleKept_raiseSettled _)).trans
    (settleKept_finish _)

theorem settleKept_beginSettleCut (s : State) : SettleKept s (beginSettleCut s) := by
  unfold beginSettleCut
  have hctrl : SettleKept s (s.setCtrl { s.ctrl with settleCut := true, settleTimer := none }) :=
    settleKept_setCtrl rfl
  dsimp only []
  split
  · exact hctrl
  · split
    · exact hctrl.trans ((settleKept_setEng (by rfl) (by rfl)).trans (settleKept_endItem _))
    · exact hctrl
    · exact hctrl

theorem settleKept_frameSettle {s : State} (h : SwapWaits s) : SettleKept s (frameSettle s) := by
  unfold frameSettle
  have hctrl : SettleKept s (s.setCtrl { s.ctrl with settleFrames := nextSettleFrame s.ctrl.settleFrames }) :=
    settleKept_setCtrl rfl
  dsimp only []
  split
  · exact hctrl
  split
  · exact hctrl.trans (settleKept_endSettling (h.of_kept hctrl))
  split
  · exact hctrl.trans (settleKept_beginSettleCut _)
  · exact hctrl

/-! ### The test of a pending swap (R153, R154) -/

section Swap

variable {s : State} {x : Swap} (hx : s.ctrl.swap = some x) (ht : x.taken = false)
include hx

theorem swapWaits_of_held (hh : holdsBank s x.incoming = true) : SwapWaits s := by
  intro y hy
  obtain rfl := Option.some.inj (hx.symm.trans hy)
  exact .inr hh

include ht

theorem testSwap_takes (hh : holdsBank s x.incoming = false) : testSwap s = takeSwap x s := by
  simp [testSwap, hx, ht, hh]

/-- A swap that is taken completes, but a RESTRIKE in PERFORMING. -/
theorem testSwap_completes (hh : holdsBank s x.incoming = false) (hm : ¬(x.mode = .restrike ∧ s.ctrl.op = .performing)) :
    testSwap s = completeSwap (report s (s.setCtrl { s.ctrl with bank := x.incoming })) := by
  rw [testSwap_takes hx ht hh]
  exact if_neg hm

/-- A RESTRIKE that is taken in PERFORMING starts its walk, and completes when that has ended. -/
theorem testSwap_restrikes (hh : holdsBank s x.incoming = false) (hm : x.mode = .restrike)
    (ho : s.ctrl.op = .performing) : testSwap s =
      ((report s (s.setCtrl { s.ctrl with bank := x.incoming })).setCtrl { s.ctrl with
        bank := x.incoming, swap := some { x with taken := true } }).setEng { s.eng with restrikeWalk := true } := by
  rw [testSwap_takes hx ht hh, takeSwap, if_pos ⟨hm, ho⟩]
  simp

end Swap

/-- After its test no pending swap can be taken. -/
theorem swapWaits_testSwap (s : State) : SwapWaits (testSwap s) := by
  by_cases h : SwapWaits s
  · rwa [testSwap_waits h]
  simp only [SwapWaits, not_forall, not_or, Bool.not_eq_true] at h
  obtain ⟨x, hx, ht, hh⟩ := h
  intro y hy
  by_cases hm : x.mode = .restrike ∧ s.ctrl.op = .performing
  · rw [testSwap_restrikes hx ht hh hm.1 hm.2] at hy
    obtain rfl := Option.some.inj hy
    exact .inl rfl
  · rw [testSwap_completes hx ht hh hm, completeSwap_ctrl] at hy
    cases hy

theorem testSwap_eng (s : State) :
    (testSwap s).eng = { s.eng with restrikeWalk := (testSwap s).eng.restrikeWalk } := by
  have htake (w : Swap) : (takeSwap w s).eng = { s.eng with restrikeWalk := (takeSwap w s).eng.restrikeWalk } := by
    unfold takeSwap
    dsimp only []
    split <;> simp
  unfold testSwap
  split
  · split
    · exact htake _
    · rfl
  · rfl

/-! ### The control unit in each state (R129) -/

theorem frameControl_performing {s : State} (h : s.ctrl.op = .performing) : frameControl s = testSwap s := by
  simp [frameControl, h]

theorem frameControl_settling {s : State} (h : s.ctrl.op = .settling) : frameControl s = frameSettle (testSwap s) := by
  simp [frameControl, h]

theorem frameControl_transparent {s : State} (h : s.ctrl.op = .transparent) : frameControl s = s := by
  simp [frameControl, h]

theorem frameKept_frameControl (s : State) : FrameKept s (frameControl s) := by
  unfold frameControl
  split
  · exact frameKept_testSwap s
  · exact (frameKept_testSwap s).trans (settleKept_frameSettle (swapWaits_testSwap s)).kept
  all_goals exact .refl s

/-- A swap tested in SETTLING or PERFORMING stays as the test has left it. -/
theorem settleKept_frameControl {s : State} (h : s.ctrl.op = .performing ∨ s.ctrl.op = .settling) :
    SettleKept (testSwap s) (frameControl s) := by
  rcases h with h | h
  · rw [frameControl_performing h]
    exact .refl _
  · rw [frameControl_settling h]
    exact settleKept_frameSettle (swapWaits_testSwap s)

end Sys2Proof.Machine
end

section
/-! PROOFS. Frame starts: what each block has done when the answer has been given (R52, R53, R60, R94, R129, R140,
R153, R154). -/

namespace Sys2Proof.Machine

theorem frameScan_scan (s : State) : (frameScan s).scan =
    if s.scan.trips s.ctrl.copy s.ctrl.op then (s.scan.tick s.ctrl.copy s.ctrl.op).trip
    else s.scan.tick s.ctrl.copy s.ctrl.op := by
  cases h : s.scan.trips s.ctrl.copy s.ctrl.op with
  | true => simp [frameScan_tripped h]
  | false => simp [frameScan_untripped h]

/-- The state that a frame start ends in, once the blocks before the scan monitor have taken it. -/
def frameEnded (v : State) : State := frameControl (frameScan v)

section Ended

variable {s v : State} (h : FrameBegun s v)
include h

theorem begun_trips : v.scan.trips v.ctrl.copy v.ctrl.op = s.scan.trips s.ctrl.copy s.ctrl.op := by
  rw [h.scan, h.ctrl]

/-! ### The T-port and the engine -/

theorem ended_frame : (frameEnded v).tone.frame = s.tone.frame + 1 := by
  rw [frameEnded, (frameKept_frameControl _).frame, frameScan_tone, h.frame]

theorem ended_service : (frameEnded v).tone.service = none := by
  rw [frameEnded, (frameKept_frameControl _).service, frameScan_tone, h.service]

theorem ended_ports : ∃ ws, (frameEnded v).ports = { s.ports with tAnswer := some (.accept ws) } := by
  simpa [frameEnded] using h.ports

theorem ended_pendingFrames : (frameEnded v).eng.pendingFrames =
    if s.eng.pendingFrames < 255 then s.eng.pendingFrames + 1 else s.eng.pendingFrames := by
  rw [frameEnded, (frameKept_frameControl _).pendingFrames, frameScan_eng, h.eng]

/-- What stands behind a frame start whatever it brings about. -/
theorem ended_kept : (frameEnded v).map.cache = s.map.cache ∧ (frameEnded v).map.sects = s.map.sects ∧
    (frameEnded v).player = s.player ∧ (frameEnded v).ctrl.guard = s.ctrl.guard ∧
    (frameEnded v).voice.queue = s.voice.queue := by
  have hk := frameKept_frameControl (frameScan v)
  refine ⟨?_, ?_, ?_, ?_, ?_⟩
  · rw [frameEnded, hk.cache, frameScan_map, h.map]
  · rw [frameEnded, hk.sects, frameScan_map, h.map]
  · rw [frameEnded, hk.player, frameScan_player, h.player]
  · rw [frameEnded, hk.guard, frameScan_ctrl, h.ctrl]
  · rw [frameEnded, hk.queue, frameScan_voice, h.voice]

/-! ### The scan monitor (R52, R53) -/

theorem ended_scan : (frameEnded v).scan =
    if s.scan.trips s.ctrl.copy s.ctrl.op then (s.scan.tick s.ctrl.copy s.ctrl.op).trip
    else s.scan.tick s.ctrl.copy s.ctrl.op := by
  rw [frameEnded, frameControl_scan, frameScan_scan, begun_trips h, h.scan, h.ctrl]

theorem ended_silent (ht : s.scan.trips s.ctrl.copy s.ctrl.op = false) :
    (frameEnded v).stat.flags.getLsbD 3 = s.stat.flags.getLsbD 3 := by
  obtain ⟨-, -, -, hflags, -⟩ := h.status
  rw [frameEnded, (frameKept_frameControl _).silent, frameScan_stat_flags, begun_trips h, ht, hflags]
  rfl

/-- In PERFORMING the silence counter rises below its limit, and what it trips is told by the limit (R52). -/
theorem ended_counted (ho : s.ctrl.op = .performing) (hl : s.ctrl.copy.silenceLimit.toNat ≠ 0)
    (hs : s.scan.silence < s.ctrl.copy.silenceLimit.toNat) : (frameEnded v).scan.silence = s.scan.silence + 1 ∧
    (s.scan.silence + 1 ≠ s.ctrl.copy.silenceLimit.toNat →
      (frameEnded v).scan = { s.scan with silence := s.scan.silence + 1 } ∧
      (frameEnded v).eng.releaseAll = s.eng.releaseAll ∧
      (frameEnded v).stat.flags.getLsbD 3 = s.stat.flags.getLsbD 3) := by
  have htick := tick_counted (counts_iff.mpr ⟨ho, hl, hs⟩)
  refine ⟨?_, fun hne => ?_⟩
  · rw [ended_scan h, htick]
    split <;> rfl
  · have htrips : s.scan.trips s.ctrl.copy s.ctrl.op = false := by
      rw [← Bool.not_eq_true, trips_iff]
      exact fun ⟨_, _, he⟩ => hne he
    refine ⟨?_, ?_, ended_silent h htrips⟩
    · rw [ended_scan h, htick, htrips]
      rfl
    · rw [frameEnded, frameControl_performing (by rw [frameScan_ctrl, h.ctrl, ho]), testSwap_eng, frameScan_eng,
        begun_trips h, htrips, h.eng]
      rfl

theorem ended_uncounted (hs : s.ctrl.op ≠ .performing ∨ s.ctrl.copy.silenceLimit.toNat = 0 ∨
    s.ctrl.copy.silenceLimit.toNat ≤ s.scan.silence) :
    (frameEnded v).scan = s.scan ∧ (frameEnded v).stat.flags.getLsbD 3 = s.stat.flags.getLsbD 3 := by
  have hcounts : s.scan.counts s.ctrl.copy s.ctrl.op = false := by
    rw [← Bool.not_eq_true, counts_iff]
    rintro ⟨ho, hl, hlt⟩
    rcases hs with hs | hs | hs
    · exact hs ho
    · exact hl hs
    · omega
  have htrips : s.scan.trips s.ctrl.copy s.ctrl.op = false := by rw [Scan.trips, hcounts, Bool.false_and]
  refine ⟨?_, ended_silent h htrips⟩
  rw [ended_scan h, htrips, tick_still hcounts]
  rfl

/-! ### The tracker (R59, R60) -/

/-- Only the level notice of the tracker can go after its own part, at the end of SETTLING (R65). -/
theorem ended_bellows : (frameEnded v).bellows =
    { s.bellows.frame s.ctrl.copy s.ctrl.op with levelNotice := (frameEnded v).bellows.levelNotice } := by
  have hk := (frameKept_frameControl (frameScan v)).bellows
  rwa [frameScan_bellows, h.bellows] at hk

theorem ended_reading : (frameEnded v).bellows.magnitude = s.bellows.magnitude ∧
    (frameEnded v).bellows.motion = s.bellows.motion := by
  rw [ended_bellows h]
  exact frame_reading _ _ _

theorem ended_hold_zero (hh : s.bellows.hold = 0) :
    (frameEnded v).bellows.hold = 0 ∧ (frameEnded v).bellows.dir = s.bellows.dir := by
  rw [ended_bellows h, frame_hold_zero hh]
  exact ⟨hh, rfl⟩

theorem ended_hold_running (hh : 1 < s.bellows.hold) :
    (frameEnded v).bellows.hold = s.bellows.hold - 1 ∧ (frameEnded v).bellows.dir = s.bellows.dir := by
  rw [ended_bellows h, frame_hold_running hh]
  exact ⟨rfl, rfl⟩

theorem ended_hold_turns (hh : s.bellows.hold = 1) (hn : s.bellows.motion.dir? ≠ none)
    (hd : s.bellows.motion.dir? ≠ some s.bellows.dir) :
    s.bellows.motion.dir? = some (frameEnded v).bellows.dir ∧
    (frameEnded v).bellows.hold = s.ctrl.copy.reverseHold.toNat ∧
    (frameEnded v).bellows.reversals = s.bellows.reversals + 1 ∧
    (s.ctrl.op = .performing → (frameEnded v).bellows.revNotice = some (frameEnded v).bellows.dir) := by
  obtain ⟨m, hm, hturn⟩ := frame_hold_ends_turned (d := s.ctrl.copy) (op := s.ctrl.op) hh hn hd
  rw [ended_bellows h, hturn]
  exact ⟨hm, rfl, rfl, fun ho => if_pos ho⟩

theorem ended_hold_stays (hh : s.bellows.hold = 1)
    (hm : s.bellows.motion.dir? = none ∨ s.bellows.motion.dir? = some s.bellows.dir) : (frameEnded v).bellows =
      { s.bellows with hold := 0, levelNotice := (frameEnded v).bellows.levelNotice } := by
  have hb := ended_bellows h
  rwa [frame_hold_ends_kept hh hm] at hb

/-! ### TRANSPARENT -/

theorem ended_transparent (ho : s.ctrl.op = .transparent) :
    (frameEnded v).eng = { s.eng with pendingFrames := (frameEnded v).eng.pendingFrames } ∧
    (frameEnded v).ctrl = s.ctrl ∧ StatusKept s (frameEnded v) := by
  have htrips : v.scan.trips v.ctrl.copy v.ctrl.op = false := by
    rw [begun_trips h, ← Bool.not_eq_true, trips_iff, ho]
    exact fun ⟨hp, _⟩ => by cases hp
  rw [frameEnded, frameControl_transparent (by rw [frameScan_ctrl, h.ctrl, ho]), frameScan_untripped htrips]
  exact ⟨by simp [h.eng], h.ctrl, h.status.trans (.of_stat rfl)⟩

/-! ### The trip (R53) -/

/-- With no swap pending the control unit does nothing in PERFORMING. -/
theorem ended_swapless (ho : s.ctrl.op = .performing) (hw : s.ctrl.swap = none) : frameEnded v = frameScan v := by
  have hc : (frameScan v).ctrl = s.ctrl := (frameScan_ctrl v).trans h.ctrl
  rw [frameEnded, frameControl_performing (by rw [hc, ho]), testSwap_none (by rw [hc, hw])]

theorem tripped_scan (ht : s.scan.trips s.ctrl.copy s.ctrl.op = true) :
    (∀ p, (frameScan v).scan.down.get p = .up) ∧ (frameScan v).scan.events = [] ∧
    (frameScan v).scan.silence = s.scan.silence + 1 := by
  have hscan : (frameScan v).scan = ({ s.scan with silence := s.scan.silence + 1 } : Scan).trip := by
    rw [frameScan_scan, begun_trips h, if_pos ht, h.scan, h.ctrl, tick_counted ((Bool.and_eq_true _ _).mp ht).1]
  rw [hscan]
  exact ⟨fun p => Tbl.get_fill _ p, rfl, rfl⟩

/-! ### The swap (R153, R154) -/

/-- A trip leaves what the test of the swap reads, and what it writes. -/
theorem scanned_kept : (frameScan v).ctrl = s.ctrl ∧ (∀ b, holdsBank (frameScan v) b = holdsBank s b) ∧
    (frameScan v).eng.restrikeWalk = s.eng.restrikeWalk ∧
    (frameScan v).stat.flags.getLsbD 1 = s.stat.flags.getLsbD 1 ∧ (frameScan v).stat.result = s.stat.result ∧
    (frameScan v).stat.awaited = s.stat.awaited := by
  obtain ⟨hresult, hawaited, -, -⟩ := frameScan_stat v
  obtain ⟨-, -, -, hflags, -⟩ := h.status
  have hc : (frameScan v).ctrl = s.ctrl := (frameScan_ctrl v).trans h.ctrl
  refine ⟨hc, holdsBank_congr ((frameScan_player v).trans h.player) (by rw [hc]), ?_, ?_, hresult.trans h.result,
    hawaited.trans h.awaited⟩
  · rw [frameScan_eng, h.eng]
  · rw [frameScan_stat_flags, hflags]
    split <;> simp

section Pending

variable {x : Swap} (ho : s.ctrl.op = .performing ∨ s.ctrl.op = .settling) (hx : s.ctrl.swap = some x)
include ho hx

theorem ended_swap_waits (hh : holdsBank s x.incoming = true) : (frameEnded v).ctrl.bank = s.ctrl.bank ∧
    (frameEnded v).ctrl.swap = some x ∧ (frameEnded v).eng.restrikeWalk = s.eng.restrikeWalk ∧
    (frameEnded v).stat.flags.getLsbD 1 = s.stat.flags.getLsbD 1 := by
  obtain ⟨hctrl, hbank, hwalk, hflag, -, -⟩ := scanned_kept h
  have hk := settleKept_frameControl (s := frameScan v) (by rwa [hctrl])
  rw [testSwap_waits (swapWaits_of_held (by rw [hctrl, hx]) (by rw [hbank, hh]))] at hk
  exact ⟨hk.bank.trans (by rw [hctrl]), hk.swap.trans (by rw [hctrl, hx]), hk.walk.trans hwalk,
    hk.swapDone.trans hflag⟩

variable (ht : x.taken = false) (hh : holdsBank s x.incoming = false)
include ht hh

theorem ended_swap_bank : (frameEnded v).ctrl.bank = x.incoming := by
  obtain ⟨hctrl, hbank, -⟩ := scanned_kept h
  have hk := settleKept_frameControl (s := frameScan v) (by rwa [hctrl])
  rw [frameEnded, hk.bank, testSwap_takes (by rw [hctrl, hx]) ht (by rw [hbank, hh]), takeSwap_ctrl_bank]

theorem ended_swap_completes (hm : x.mode = .latch ∨ s.ctrl.op = .settling) :
    (frameEnded v).ctrl.swap = none ∧
    (frameEnded v).eng.restrikeWalk = s.eng.restrikeWalk ∧ (frameEnded v).stat.flags.getLsbD 1 = true ∧
    (s.stat.awaited = .swap → (frameEnded v).stat.result = .done) ∧
    (s.stat.awaited ≠ .swap → s.ctrl.op = .performing ∨ s.stat.awaited ≠ .settle →
      (frameEnded v).stat.result = s.stat.result) := by
  obtain ⟨hctrl, hbank, hwalk, -, hresult, hawaited⟩ := scanned_kept h
  have hno : ¬(x.mode = .restrike ∧ (frameScan v).ctrl.op = .performing) := by
    rw [hctrl]
    rintro ⟨h₁, h₂⟩
    rcases hm with h₃ | h₃
    · rw [h₁] at h₃; cases h₃
    · rw [h₂] at h₃; cases h₃
  have hk := settleKept_frameControl (s := frameScan v) (by rwa [hctrl])
  have htest := testSwap_completes (by rw [hctrl, hx]) ht (by rw [hbank, hh]) hno
  have hperf (hp : s.ctrl.op = .performing) : frameEnded v = testSwap (frameScan v) :=
    frameControl_performing (by rw [hctrl, hp])
  generalize testSwap (frameScan v) = u at *
  have hres : u.stat.result = if s.stat.awaited = .swap then .done else s.stat.result := by
    rw [htest, completeSwap_stat_result, report_stat_awaited, report_stat_result, State.setCtrl_stat, hresult, hawaited]
  have hawa : u.stat.awaited = if s.stat.awaited = .swap then .none else s.stat.awaited := by
    rw [htest]
    simp [completeSwap, finish_stat_awaited, hawaited]
  refine ⟨hk.swap.trans (by simp [htest]), hk.walk.trans (by simp [htest, hwalk]), hk.swapDone.trans (by simp [htest]),
    fun hs => ?_, fun hs hn => ?_⟩
  · rw [if_pos hs] at hres hawa
    exact (hk.result (by rw [hawa]; decide)).trans hres
  · rw [if_neg hs] at hres hawa
    rcases hn with hp | hn
    · rw [hperf hp, hres]
    · exact (hk.result (by rwa [hawa])).trans hres

omit ho in
theorem ended_swap_restrikes (hm : x.mode = .restrike) (hp : s.ctrl.op = .performing) :
    (frameEnded v).ctrl.swap = some { x with taken := true } ∧
    (frameEnded v).eng.restrikeWalk = true ∧ (frameEnded v).stat.flags.getLsbD 1 = s.stat.flags.getLsbD 1 ∧
    (frameEnded v).stat.result = s.stat.result := by
  obtain ⟨hctrl, hbank, -, hflag, hresult, -⟩ := scanned_kept h
  have htest := testSwap_restrikes (by rw [hctrl, hx]) ht (by rw [hbank, hh]) hm (by rw [hctrl, hp])
  rw [frameEnded, frameControl_performing (by rw [hctrl, hp]), htest]
  exact ⟨rfl, rfl, by simpa using hflag, by simpa using hresult⟩

end Pending

end Ended

/-- Settles O44: the answer is given, and then the blocks take the frame start one after another. -/
theorem frameStartsCountAndTripTheWatchdog : Obligations.FrameStartsCountAndTripTheWatchdog := by
  refine ⟨fun s f hf => ?_, fun s f hf ho hw hl he => ?_, fun s f x hf ho hx ht => ?_⟩
  · obtain ⟨v, h, heq⟩ := frameAnswer_begun hf
    refine ⟨frameEnded v, (exec_frameAnswer f s).trans (congrArg _ heq), ended_frame h, ended_service h, ended_ports h,
      ended_pendingFrames h, fun ho => (ended_transparent h ho).1, ended_counted h, ended_uncounted h,
      ended_hold_zero h, ended_hold_running h, fun hh => ⟨?_, ended_hold_turns h hh, ended_hold_stays h hh⟩,
      (ended_reading h).1, (ended_reading h).2, fun ho => (ended_transparent h ho).2⟩
    have hend : (wouldFrame s f && wouldEndHold s) = true := by simp [hf, wouldEndHold, hh]
    exact (if_pos hend).trans (congrArg _ heq)
  · obtain ⟨v, h, heq⟩ := frameAnswer_begun hf
    have htrips : s.scan.trips s.ctrl.copy s.ctrl.op = true := trips_iff.mpr ⟨ho, hl, he⟩
    have hcond : (wouldFrame s f && wouldTrip s) = true := by simp [hf, wouldTrip, htrips]
    have hend : frameAnswer f s = frameScan v := heq.trans (ended_swapless h ho hw)
    obtain ⟨hdown, hevents, hsilence⟩ := tripped_scan h htrips
    obtain ⟨-, -, hlog, hcounters⟩ := frameScan_stat v
    obtain ⟨-, hlog', -, hflags, hcounters'⟩ := h.status
    refine ⟨frameScan v, (if_pos hcond).trans (congrArg _ hend), hdown, hevents, hsilence, ?_, ?_, ?_, ?_, ?_, ?_, ?_,
      hlog.trans hlog', hcounters.trans hcounters'⟩
    · rw [frameScan_eng, begun_trips h, htrips, h.eng]
      rfl
    · rw [frameScan_stat_flags, begun_trips h, if_pos htrips, hflags]
    · rw [frameScan_tone, h.frame]
    · rw [frameScan_ctrl, h.ctrl]
    · rw [frameScan_voice, h.voice]
    · rw [frameScan_map, h.map]
    · rw [frameScan_player, h.player]
  · obtain ⟨v, h, heq⟩ := frameAnswer_begun hf
    obtain ⟨hcache, hsects, hplayer, hguard, hqueue⟩ := ended_kept h
    refine ⟨frameEnded v, (exec_frameAnswer f s).trans (congrArg _ heq), ended_frame h, hcache, hsects, hplayer, hguard,
      hqueue, ended_swap_waits h ho hx, fun hh => ⟨ended_swap_bank h ho hx ht hh, ended_swap_completes h ho hx ht hh,
        ended_swap_restrikes h hx ht hh⟩⟩

end Sys2Proof.Machine
end

section
/-! PROOFS. The tracker's two notices: what the voicing engine does when it takes one (R63, R135, R145). -/

namespace Sys2Proof.Machine

theorem exec_takeReversalNotice {s : State} {d : Dir} (h : Takes s .takeReversal) (hd : s.bellows.revNotice = some d) :
    exec .takeReversalNotice s = .next (takeReversalNotice d s) := by
  show execTakeReversalNotice s = _
  rw [execTakeReversalNotice, if_pos (show nextItem s = some .takeReversal from h), hd]

theorem exec_takeLevelNotice {s : State} {m : Nat} (h : Takes s .takeLevel) (hm : s.bellows.levelNotice = some m) :
    exec .takeLevelNotice s = .next (takeLevelNotice m s) := by
  show execTakeLevelNotice s = _
  rw [execTakeLevelNotice, if_pos (show nextItem s = some .takeLevel from h), hm]

/-- Only the tracker's notice and the engine's applied direction and walk place are written (R63, R135). -/
theorem takeReversalNotice_eq (d : Dir) (s : State) : takeReversalNotice d s = { s with
    bellows := { s.bellows with revNotice := none }
    eng := { s.eng with appliedDir := d, revWalk := s.eng.held.head?.map (·.pos) } } := rfl

/-- Only the tracker's notice and the engine's applied magnitude and sweep place are written (R63, R145). -/
theorem takeLevelNotice_eq (m : Nat) (s : State) : takeLevelNotice m s = { s with
    bellows := { s.bellows with levelNotice := none }
    eng := { s.eng with appliedMag := m, sweep := s.eng.order.head? } } := rfl

/-- Settles O49: the item that work selection takes runs as the taking of its notice, and that taking writes the
notice, the applied value and the place of the walk or the sweep. -/
theorem noticesStartTheirWalks : Obligations.NoticesStartTheirWalks := by
  refine fun s => ⟨fun d htakes hnotice => ?_, fun m htakes hnotice => ?_⟩
  · rw [exec_takeReversalNotice htakes hnotice, takeReversalNotice_eq]
  · rw [exec_takeLevelNotice htakes hnotice, takeLevelNotice_eq]

end Sys2Proof.Machine
end

section
/-! PROOFS. The allocation of a slot, FLUSH, and the landing of a section reload (R80, R84, R87, R88, R103). -/

namespace Sys2Proof.Machine

/-! ### Allocation (R88, R103) -/

section Allocation

variable {s : State} {k : SectNo} {i : Slot}

/-- Case 1: below its budget a section takes the head of the free list. -/
theorem allocate_free {l : List Slot} (h : s.eng.counts.get k < (s.map.sects.get k).budget)
    (hf : s.eng.free = i :: l) : allocate s k = .take i false := by
  have h0 : (s.map.sects.get k).budget ≠ 0 := by omega
  simp [allocate, h0, h, hf]

/-- Case 1 without a free slot: the oldest RELEASING slot of any section is stolen. -/
theorem allocate_any_releasing (h : s.eng.counts.get k < (s.map.sects.get k).budget) (hf : s.eng.free = [])
    (hi : oldestReleasingAny s.eng = some i) : allocate s k = .take i true := by
  have h0 : (s.map.sects.get k).budget ≠ 0 := by omega
  simp [allocate, h0, h, hf, hi]

/-- Below its budget, with neither, a section has its layer dropped. -/
theorem allocate_exhausted (h : s.eng.counts.get k < (s.map.sects.get k).budget) (hf : s.eng.free = [])
    (hn : oldestReleasingAny s.eng = none) : allocate s k = .drop .exhausted := by
  have h0 : (s.map.sects.get k).budget ≠ 0 := by omega
  simp [allocate, h0, h, hf, hn]

/-- Case 2: at its budget a section steals its own oldest RELEASING slot. -/
theorem allocate_own_releasing (h0 : (s.map.sects.get k).budget ≠ 0)
    (h : (s.map.sects.get k).budget ≤ s.eng.counts.get k) (hi : oldestReleasing s.eng k = some i) :
    allocate s k = .take i true := by
  simp [allocate, h0, Nat.not_lt.mpr h, hi]

/-- Case 2 without a RELEASING slot: under TAKE_OLDEST a section steals its oldest SOUNDING slot that the current group
has not started. -/
theorem allocate_own_sounding (h0 : (s.map.sects.get k).budget ≠ 0)
    (h : (s.map.sects.get k).budget ≤ s.eng.counts.get k) (hn : oldestReleasing s.eng k = none)
    (hp : (s.map.sects.get k).policy = .takeOldest)
    (hi : oldestSounding s.eng (startedByGroup s.voice) k = some i) : allocate s k = .take i true := by
  simp [allocate, h0, Nat.not_lt.mpr h, hn, hp, hi]

/-- At its budget, with neither, a section has its layer dropped. -/
theorem allocate_nothing (h : (s.map.sects.get k).budget ≤ s.eng.counts.get k) (hn : oldestReleasing s.eng k = none)
    (hp : (s.map.sects.get k).policy = .keep ∨ oldestSounding s.eng (startedByGroup s.voice) k = none) :
    allocate s k = .drop .budget := by
  by_cases h0 : (s.map.sects.get k).budget = 0
  · exact allocate_of_budget_zero h0
  · rcases hp with hp | hp <;> simp [allocate, h0, Nat.not_lt.mpr h, hn, hp]

end Allocation

/-- Settles O46, case by case of R103. -/
theorem allocationTakesTheFirstCaseThatHolds : Obligations.AllocationTakesTheFirstCaseThatHolds := by
  intro s k e r
  have hown (hn : ∀ j ∈ e.order, ¬((e.mirror.get j).state = .releasing ∧ (e.mirror.get j).sect = k)) :
      oldestReleasing s.eng k = none :=
    List.find?_eq_none.mpr fun j hj => by simpa using hn j hj
  refine ⟨allocate_of_budget_zero, fun i l hc hf => allocate_free hc hf,
    fun i hc hf hi => allocate_any_releasing hc hf hi, fun hc hf hn => allocate_exhausted hc hf ?_,
    fun i h0 hc hi => allocate_own_releasing h0 hc hi,
    fun i h0 hc hp hn hi => allocate_own_sounding h0 hc (hown hn) hp hi, fun hc hn hp => ?_⟩
  · exact List.find?_eq_none.mpr fun j hj => by simpa using hn j hj
  · refine allocate_nothing hc (hown hn) (hp.imp_right fun hall => List.find?_eq_none.mpr fun j hj => ?_)
    have hj := hall j hj
    simp only [Bool.and_eq_true, decide_eq_true_eq, Bool.not_eq_true', not_and]
    rintro ⟨hs, hk⟩
    simpa using hj hs hk

/-! ### FLUSH (R80) -/

theorem flushCache_cache (s : State) : (flushCache s).map.cache = [] := by simp [flushCache]

theorem flushCache_sects (s : State) : (flushCache s).map.sects = s.map.sects := by simp [flushCache]

/-- The fetch in flight after FLUSH: an entry fetch that holds the M-port is overtaken. -/
theorem flushCache_fetch (s : State) :
    (flushCache s).map.fetch = s.map.fetch.map (overtakenBy (fetchGranted s) fun _ _ => true) :=
  overtake_fetch _ _

/-- Settles O22: the command is taken and the map unit is flushed at once. -/
theorem flushEmptiesTheMapCache : Obligations.FlushEmptiesTheMapCache := by
  rintro s c ⟨h, hfree⟩
  have hexec := exec_plain_command (i := .flush c) h rfl (show opcodeOf 10 = some .flush by decide) (.inl hfree)
    (.inr rfl) rfl
  have hact : actPlain .flush (posted 10 c s) = answer .done (flushCache (posted 10 c s)) := rfl
  have hgranted : fetchGranted (posted 10 c s) = fetchGranted s := by simp [fetchGranted]
  have hfetch : (answer .done (flushCache (posted 10 c s))).map.fetch =
      s.map.fetch.map (overtakenBy (fetchGranted s) fun _ _ => true) := by
    rw [answer_map, flushCache_fetch, hgranted, posted_map]
  have hbusy {f : Fetch} (hf : s.map.fetch = some f) :
      (chooseFetch (answer .done (flushCache (posted 10 c s)))).map.fetch =
        some (overtakenBy (fetchGranted s) (fun _ _ => true) f) := by
    rw [chooseFetch_busy (by rw [hfetch, hf]; rfl), hfetch, hf]
    rfl
  rw [hact] at hexec
  refine ⟨_, hexec, ?_, ?_, ?_, fun f b p hf hk => ?_, fun f hf hk => ?_, controlKept_chooseFetch (by simp), ?_, ?_,
    ?_, ?_, ?_⟩
  · refine commandTaken_of_posted (by simp) (by simp) ?_ (answer_stat_result (by simp)) ?_
    · simp [CommandCountKept, answer]
    · exact finish_stale (by simp)
  · simp [flushCache_cache]
  · simp [flushCache_sects]
  · rw [hbusy hf, overtakenBy, hk]
    rfl
  · rw [hbusy hf]
    obtain ⟨kind, o, first⟩ := f
    cases kind with
    | entry b p => exact absurd rfl (hk b p)
    | program | reload | argument | descriptor | sections => simp [overtakenBy]
  · simp
  · simp
  · simp
  · simp [PortsKept]
  · simp [StatusKept, answer]

/-! ### SECTION_RELOAD_LANDS (R84, R87) -/

/-- The reload mark after a reload has landed (R87). -/
theorem ReloadMark.landed_eq (m : ReloadMark) : m.landed = if m = .setAgain then .set else .clear := by
  cases m <;> rfl

/-- The record that a reload leaves (R84, R87). -/
def reloadedRec (x : RamAnswer) (r : SectRecord) : SectRecord :=
  match x with
  | .done t => { sectOf (t.get 0) (t.get 1) (t.get 2) (t.get 3) with mark := r.mark.landed }
  | .error => { r with mark := .clear }

/-- The state after the answer to a reload, before the fetcher chooses again. -/
def reloaded (x : RamAnswer) (i : SectNo) (s : State) : State :=
  s.setMap { s.map with fetch := none, sects := s.map.sects.set i (reloadedRec x (s.map.sects.get i)) }

theorem reloadLanded_eq (x : RamAnswer) (i : SectNo) (s : State) : reloadLanded x i s = chooseFetch (reloaded x i s) := by
  cases x <;> rfl

theorem exec_sectionReloadLands {s : State} {i : SectNo} {a : Access} (x : RamAnswer)
    (h : Carries s (.fetch (.reload i)) a) :
    exec (.sectionReloadLands x) s = .next (chooseFetch (reloaded x i (landed s a x.failed))) := by
  rw [← reloadLanded_eq]
  refine congrArg Host.Outcome.next ((landing_of_carries h rfl _ _).trans ?_)
  rw [h.2.1]
  rfl

/-- Settles O42: the record by the answer, and everything else as the landing left it. -/
theorem sectionReloadsInstallTheRecord : Obligations.SectionReloadsInstallTheRecord := by
  intro s x a i h
  have hget (k : SectNo) : (chooseFetch (reloaded x i (landed s a x.failed))).map.sects.get k =
      if i = k then reloadedRec x (s.map.sects.get i) else s.map.sects.get k := by
    rw [chooseFetch_sects, reloaded, State.setMap_map, Tbl.get_set, landed_map]
  refine ⟨_, exec_sectionReloadLands x h, fun k hk => ?_, fun w hx => ?_, fun hx => ⟨?_, ?_⟩, fun hx => ?_, ?_, ?_,
    controlKept_chooseFetch (by simp [reloaded]), ?_, ?_, ?_, ?_, ?_, ?_, ?_⟩
  · rw [hget, if_neg (Ne.symm hk)]
  · rw [hget, if_pos rfl, hx, reloadedRec, ReloadMark.landed_eq]
  · rw [hget, if_pos rfl, hx, reloadedRec]
  · subst hx
    exact (landed_logged s h.2.1).trans_kept (.of_stat (by simp [reloaded, RamAnswer.failed]))
  · cases x with
    | error => exact absurd rfl hx
    | done w => simp [reloaded, landed, freePort, RamAnswer.failed]
  all_goals simp [reloaded, landed, freePort]

end Sys2Proof.Machine
end

section
/-! PROOFS. What an item of the voicing engine leaves alone, whatever the fetcher is at (R74, R82, R96). -/

namespace Sys2Proof.Machine

/-! ### The blocks beside the voicing engine -/

theorem OutsideKept.refl (s : State) : OutsideKept s s := ⟨rfl, rfl, rfl, rfl, rfl, rfl, rfl⟩

theorem OutsideKept.trans {s t u : State} (h : OutsideKept s t) (k : OutsideKept t u) : OutsideKept s u := by
  obtain ⟨h₁, h₂, h₃, h₄, h₅, h₆, h₇⟩ := h
  obtain ⟨k₁, k₂, k₃, k₄, k₅, k₆, k₇⟩ := k
  exact ⟨k₁.trans h₁, k₂.trans h₂, k₃.trans h₃, k₄.trans h₄, k₅.trans h₅, k₆.trans h₆, k₇.trans h₇⟩

theorem outsideKept_chooseFetch (s : State) : OutsideKept s (chooseFetch s) := by simp [OutsideKept]

theorem outsideKept_waitFor (k : ItemKind) (w : Wait) (js : List Job) (s : State) :
    OutsideKept s (waitFor k w js s) := by
  simp [OutsideKept]

theorem endSettling_tone (s : State) : (endSettling s).tone.frame = s.tone.frame ∧
    (endSettling s).tone.service = s.tone.service := by
  unfold endSettling
  dsimp only []
  rw [finish_tone, raiseFlag_tone, enterTransparent_tone, report_tone, State.setEng_tone]
  split
  · split <;> simp
  · exact ⟨rfl, rfl⟩

theorem outsideKept_afterItem (k : ItemKind) (s : State) : OutsideKept s (afterItem k s) := by
  refine ⟨by simp, by simp, by simp, by simp, by simp, ?_⟩
  cases k with
  | hush =>
    simp only [afterItem]
    split
    · exact endSettling_tone s
    · exact ⟨rfl, rfl⟩
  | reversalStep p =>
    simp only [afterItem]
    split <;> exact ⟨rfl, rfl⟩
  | releaseAll | expiry | press | release | sustainStep | restrikeStep | sweepStep | rebuild => exact ⟨rfl, rfl⟩

theorem outsideKept_itemEnd (k : ItemKind) (s : State) : OutsideKept s (itemEnd k s) :=
  .trans (by simp [OutsideKept]) (outsideKept_afterItem k _)

theorem touchHeld_frame (d : Desc) (i : Slot) (t : Tone) :
    (touchHeld d i t).frame = t.frame ∧ (touchHeld d i t).service = t.service := by
  unfold touchHeld
  split
  · split <;> exact ⟨rfl, rfl⟩
  · split <;> exact ⟨rfl, rfl⟩
  · exact ⟨rfl, rfl⟩
  · exact ⟨rfl, rfl⟩

theorem doPush_tone (p : Push) (s : State) : (doPush p s).tone = pushTone s p s.tone := by
  unfold doPush
  dsimp only []
  split <;> simp

theorem outsideKept_doPush (p : Push) (s : State) : OutsideKept s (doPush p s) := by
  refine ⟨by simp, by simp, by simp, by simp, by simp, ?_⟩
  rw [doPush_tone, pushTone]
  split
  · exact touchHeld_frame _ _ _
  · exact ⟨rfl, rfl⟩

theorem outsideKept_voiceRecord (k : ItemKind) (p : Pos) (s : State) : OutsideKept s (voiceRecord k p s) := by
  unfold voiceRecord
  split
  · exact outsideKept_itemEnd k s
  split
  · exact outsideKept_itemEnd k s
  split
  · exact outsideKept_itemEnd k s
  split
  · exact outsideKept_waitFor _ _ _ s
  · exact .trans (by simp [OutsideKept]) (outsideKept_waitFor _ _ _ _)

theorem outsideKept_pressEntered (b : Bank) (p : Pos) (e : EntrySnap) (s : State) :
    OutsideKept s (pressEntered b p e s) := by
  unfold pressEntered
  dsimp only []
  split
  · exact .trans (by simp [OutsideKept]) (outsideKept_voiceRecord _ p _)
  · exact outsideKept_itemEnd _ s

theorem outsideKept_hitEntry (c : CacheEntry) (s : State) : OutsideKept s (hitEntry c s).2 := by simp [OutsideKept]

theorem outsideKept_missEntry (k : ItemKind) (b : Bank) (p : Pos) (s : State) :
    OutsideKept s (missEntry k b p s) := by
  simp [OutsideKept]

theorem outsideKept_pressRequest (p : Pos) (s : State) : OutsideKept s (pressRequest p s) := by
  unfold pressRequest
  dsimp only []
  split
  · exact .trans (by simp [OutsideKept]) (outsideKept_itemEnd _ _)
  split
  · exact (outsideKept_hitEntry _ s).trans (outsideKept_pressEntered _ p _ _)
  · exact outsideKept_missEntry _ _ p s

/-- An item's run leaves the other blocks alone, whatever it has to do. -/
theorem outsideKept_runJobs (k : ItemKind) (js : List Job) (s : State) : OutsideKept s (runJobs k js s) := by
  refine runJobs_keeps (P := OutsideKept s) (fun t h => h.trans (outsideKept_itemEnd k t))
    (fun w l t h => h.trans (outsideKept_waitFor k w l t)) (fun pu t _ h => h.trans (outsideKept_doPush pu t))
    (fun p t h => ?_) (fun t h => ?_) (fun t h => ?_) (fun p t h => h.trans (outsideKept_pressRequest p t))
    (fun p t h => h.trans (outsideKept_voiceRecord k p t)) (fun r t h => ?_) js s (.refl s)
  all_goals exact h.trans (by simp [OutsideKept])

theorem outsideKept_restrikeEntered (b : Bank) (p : Pos) (e : EntrySnap) (s : State) :
    OutsideKept s (restrikeEntered b p e s) := by
  unfold restrikeEntered
  dsimp only []
  split
  · exact .trans (by simp [OutsideKept]) (outsideKept_itemEnd _ _)
  · exact .trans (by simp [OutsideKept]) (outsideKept_runJobs _ _ _)

/-! ### The fetch in flight makes no difference to the run of an item -/

/-- The state with no fetch in flight. -/
def idled (s : State) : State := s.setMap { s.map with fetch := none }

/-- Where no fetch is in flight the state is that state. -/
theorem idled_of_none {s : State} (h : s.map.fetch = none) : idled s = s := by
  rw [idled, ← h]
  rfl

section Idled

variable (s : State)

@[simp] theorem idled_eng : (idled s).eng = s.eng := rfl
@[simp] theorem idled_voice : (idled s).voice = s.voice := rfl
@[simp] theorem idled_ctrl : (idled s).ctrl = s.ctrl := rfl
@[simp] theorem idled_tone : (idled s).tone = s.tone := rfl
@[simp] theorem idled_stat : (idled s).stat = s.stat := rfl
@[simp] theorem idled_cache : (idled s).map.cache = s.map.cache := rfl
@[simp] theorem setEng_idled (x : Engine) : (idled s).setEng x = idled (s.setEng x) := rfl
@[simp] theorem setVoice_idled (x : VoiceWriter) : (idled s).setVoice x = idled (s.setVoice x) := rfl
@[simp] theorem setTone_idled (x : Tone) : (idled s).setTone x = idled (s.setTone x) := rfl
@[simp] theorem setStat_idled (x : Status) : (idled s).setStat x = idled (s.setStat x) := rfl

@[simp] theorem report_idled (a b : State) : report (idled a) (idled b) = idled (report a b) := by
  have h : statusView (idled a) = statusView a ∧ statusView (idled b) = statusView b := ⟨rfl, rfl⟩
  by_cases hv : statusView a = statusView b <;> simp [report, h, hv]

@[simp] theorem raiseFlag_idled (f : BitVec 7) : raiseFlag f (idled s) = idled (raiseFlag f s) := by simp [raiseFlag]

@[simp] theorem logFault_idled (k : FaultKind) (p : PortId) (a : Addr) :
    logFault k p a (idled s) = idled (logFault k p a s) := by
  simp [logFault]

@[simp] theorem setCounters_idled (f : Counters → Counters) : setCounters f (idled s) = idled (setCounters f s) := by
  simp [setCounters]

@[simp] theorem doPush_idled (p : Push) : doPush p (idled s) = idled (doPush p s) := by
  have he : pushEngine (idled s) p (idled s).eng = pushEngine s p s.eng := by cases p <;> rfl
  have hw : pushWriter (idled s) p (idled s).voice = pushWriter s p s.voice := by cases p <;> rfl
  have ht : pushTone (idled s) p (idled s).tone = pushTone s p s.tone := rfl
  unfold doPush
  dsimp only []
  rw [he, hw, ht]
  cases p.steals <;> simp

@[simp] theorem tryFill_idled : tryFill (idled s) = idled (tryFill s) := by
  have h (r : ReadReq) : touchesOpen (idled s) r = touchesOpen s r := rfl
  cases hs : s.tone.slot with
  | waiting r => by_cases hc : s.tone.fill = .none ∧ touchesOpen s r = false <;> simp [tryFill, hs, h, hc]
  | vacant | filling | ready => simp [tryFill, hs]

@[simp] theorem endFilling_idled : endFilling (idled s) = idled (endFilling s) := by
  simp [endFilling, closeGroups]

@[simp] theorem waitFor_idled (k : ItemKind) (w : Wait) (js : List Job) :
    waitFor k w js (idled s) = idled (waitFor k w js s) := rfl

variable {k : ItemKind} (hk : k ≠ .hush)
include hk

theorem itemEnd_idled : itemEnd k (idled s) = idled (itemEnd k s) := by
  simp only [itemEnd, idled_eng, setEng_idled, endFilling_idled]
  cases k with
  | hush => exact absurd rfl hk
  | reversalStep p => by_cases h : s.eng.revWalk = some p <;> simp [afterItem, h]
  | releaseAll | expiry | press | release | sustainStep | restrikeStep | sweepStep | rebuild => rfl

theorem voiceRecord_idled (p : Pos) : voiceRecord k p (idled s) = idled (voiceRecord k p s) := by
  unfold voiceRecord
  rw [idled_eng]
  split
  · exact itemEnd_idled s hk
  split
  · exact itemEnd_idled s hk
  rw [idled_ctrl]
  split
  · exact itemEnd_idled s hk
  split <;> rfl

theorem runJobs_releases_idled (p q : Pos) (l : List Slot) :
    runJobs k (l.map (Job.releaseSlot p) ++ [.voice q]) (idled s) =
      idled (runJobs k (l.map (Job.releaseSlot p) ++ [.voice q]) s) := by
  induction l generalizing s with
  | nil => exact voiceRecord_idled s hk q
  | cons i l ih =>
    have hp : releasePush (idled s) p i = releasePush s p i := rfl
    have hc : canPush (idled s) (releasePush s p i) = canPush s (releasePush s p i) := rfl
    simp only [List.map_cons, List.cons_append, runJobs, hp, hc]
    split
    · rw [doPush_idled, ih]
    · rfl

end Idled

theorem pressEntered_idled (b : Bank) (p : Pos) (e : EntrySnap) (s : State) :
    pressEntered b p e (idled s) = idled (pressEntered b p e s) := by
  unfold pressEntered
  dsimp only []
  rw [idled_eng]
  split
  · rw [setEng_idled, report_idled, voiceRecord_idled _ (by simp)]
  · exact itemEnd_idled s (by simp)

theorem restrikeEntered_idled (b : Bank) (p : Pos) (e : EntrySnap) (s : State) :
    restrikeEntered b p e (idled s) = idled (restrikeEntered b p e s) := by
  unfold restrikeEntered
  dsimp only []
  rw [idled_eng, setEng_idled, idled_eng]
  split
  · exact itemEnd_idled _ (by simp)
  · exact runJobs_releases_idled _ (by simp) _ p _

theorem hitEntry_idled (c : CacheEntry) (s : State) : (hitEntry c (idled s)).2 = idled (hitEntry c s).2 := by
  have h : (idled s).setMap { (idled s).map with cache := promote c (idled s).map.cache } =
      idled (s.setMap { s.map with cache := promote c s.map.cache }) := rfl
  unfold hitEntry
  rw [h, handEntry, handEntry]
  split
  · rfl
  · rfl
  · exact logFault_idled _ _ _ _

/-- The state with no fetch in flight stands as the state does. -/
theorem standing_idled (s : State) : Standing s (idled s) := by
  constructor <;> rfl

end Sys2Proof.Machine
end

section
/-! PROOFS. RESTRIKE_WALK_STEP (R140, R141, R154). -/

namespace Sys2Proof.Machine

/-! ### An entry that is not in the map cache (R74, R97) -/

section Miss

variable (k : ItemKind) (p : Pos) (s : State)

/-- The item waits for the entry in the active bank. -/
theorem missEntry_eng : (missEntry k s.ctrl.bank p s).eng =
    { s.eng with item := some { kind := k, wait := entryWait s p, jobs := [] } } := by
  cases h : s.eng.awaitDiscard <;> simp [missEntry, entryWait, h, waitFor]

theorem missEntry_caches (b : Bank) : (missEntry k b p s).map.cache = s.map.cache ∧
    (missEntry k b p s).map.sects = s.map.sects ∧ (missEntry k b p s).map.fetch = s.map.fetch := by
  cases h : s.eng.awaitDiscard <;> simp [missEntry, h]

/-- The entry is the fetcher's choice where nothing else is requested. -/
theorem missEntry_chosen (hd : s.eng.awaitDiscard = false) (hf : s.map.fetch = none) (b : Bank) :
    Chosen s (chooseFetch (missEntry k b p s)) (.entry b p) := by
  obtain ⟨-, hsects, hfetch⟩ := missEntry_caches k p s b
  refine chosen_of_engReq (r := .entry b p) (by simp) hsects (by simp) (hfetch.trans hf) ?_
  rw [missEntry_free hd]
  rfl

end Miss

/-! ### An entry in the map cache (R70, R76, R141) -/

/-- What a restrike step has done shows in the voicing engine and the voice writer. -/
theorem RestrikeEntered.congr {s t u : State} {w : Wait} {b : Bank} {p : Pos} {r : HeldRec} {e : EntrySnap}
    (h : RestrikeEntered s t w b p r e) (he : u.eng = t.eng) (hv : u.voice = t.voice) :
    RestrikeEntered s u w b p r e := by
  unfold RestrikeEntered Released Releasing ReleasedAs at *
  rwa [he, hv]

section Hit

variable {s : State} {p : Pos} {c : CacheEntry} {e : EntrySnap}

/-- What a run after a hit logs: a bad entry, and nothing else (R70). -/
theorem entryLogged_of_run {t : State} (hc : lookupEntry s.ctrl.bank p s.map.cache = some c)
    (ht : RunKept (hitEntry c s).2 t) : EntryLogged p c.word s (chooseFetch t) := by
  obtain ⟨hb, hp⟩ := lookupEntry_tag hc
  refine entryLogged_hit (standing_idled s) (.of_stat rfl) hb hp ?_
  rw [hitEntry_idled]
  exact StatusKept.trans (ht.status.trans (statusKept_chooseFetch t)) (.refl _)

/-- The restrike step of a record whose entry is in the cache, whatever the fetcher is at. -/
theorem restrikeHit_entered {r : HeldRec} (hr : findRec s.eng p = some r) (ho : Ordered s r.voices)
    (hroom : RoomFor s r.voices.length) :
    RestrikeEntered s (chooseFetch (restrikeEntered s.ctrl.bank p e (hitEntry c s).2)) (programWait s p) s.ctrl.bank p
      r e ∧
    (∀ n, e.program r.dir = some n → s.ctrl.op = .performing → s.eng.awaitDiscard = false → s.map.fetch = none →
      Chosen s (chooseFetch (restrikeEntered s.ctrl.bank p e (hitEntry c s).2)) (.program n)) := by
  obtain ⟨hentered, hchosen⟩ := restrikeEntered_entered (standing_hitEntry (standing_idled s) c) (b := s.ctrl.bank)
    (e := e) hr ho hroom
  have hwait : programWait (hitEntry c (idled s)).2 p = programWait s p := by simp [programWait]
  have hrun : restrikeEntered s.ctrl.bank p e (hitEntry c (idled s)).2 =
      idled (restrikeEntered s.ctrl.bank p e (hitEntry c s).2) := by
    rw [hitEntry_idled, restrikeEntered_idled]
  refine ⟨(hwait ▸ hentered).congr (by rw [hrun]; simp) (by rw [hrun]; simp), fun n hn hop hd hf => ?_⟩
  rw [idled_of_none hf] at hchosen
  exact hchosen n hn hop (by simpa using hd)

end Hit

/-! ### The step -/

theorem exec_restrikeWalkStep {s : State} (h : Takes s .restrikeStep) :
    exec .restrikeWalkStep s = .next (restrikeStep s) :=
  if_pos h

theorem restrikeStep_over {s : State} (h : ∀ r ∈ s.eng.held, r.sustained = true ∨ r.bank = s.ctrl.bank) :
    restrikeStep s = endRestrike s := by
  have hn : oldestOffBank s = none := List.find?_eq_none.mpr fun r hr => by
    rcases h r hr with h | h <;> simp [h]
  rw [restrikeStep, hn]

theorem restrikeStep_requests {s : State} {r : HeldRec} (h : oldestOffBank s = some r) :
    restrikeStep s = chooseFetch (requestEntry (.restrikeStep r.pos) s.ctrl.bank r.pos s) := by
  rw [restrikeStep, h]

/-- The end of a restrike walk is the completion of its swap (R140, R154). -/
theorem endRestrike_running {s : State} (h : s.eng.restrikeWalk = true) :
    endRestrike s = completeSwap (s.setEng { s.eng with restrikeWalk := false }) := by
  simp [endRestrike, h]

/-- Settles O54: the walk's end, and the request of the oldest record off the active bank, by its look-up. -/
theorem theRestrikeWalkReentersRecords : Obligations.TheRestrikeWalkReentersRecords := by
  intro s htakes hwalk
  refine ⟨fun hall => ⟨_, exec_restrikeWalkStep htakes, ?_⟩, fun r hold => ⟨fun hmiss => ⟨_, exec_restrikeWalkStep htakes,
    ?_⟩, fun c e hc hj hr ho hroom => ⟨_, exec_restrikeWalkStep htakes, ?_⟩⟩⟩
  · rw [restrikeStep_over hall, endRestrike_running hwalk]
    exact ⟨by simp, by simp, by simp, completeSwap_stat_result _, by simp, by simp⟩
  · rw [restrikeStep_requests hold, requestEntry_miss hmiss]
    obtain ⟨hcache, -, -⟩ := missEntry_caches (.restrikeStep r.pos) r.pos s s.ctrl.bank
    refine ⟨?_, fun hd hf => missEntry_chosen _ _ s hd hf _, by simp, ?_, .of_stat (by simp)⟩
    · rw [chooseFetch_eng, missEntry_eng]
    · rw [chooseFetch_cache, hcache]
  · have hrun : restrikeStep s = chooseFetch (restrikeEntered s.ctrl.bank r.pos e (hitEntry c s).2) := by
      rw [restrikeStep_requests hold, requestEntry_hit hc, snapOf_of_judged hj]
      rfl
    obtain ⟨hentered, hchosen⟩ := restrikeHit_entered (c := c) (e := e) hr ho hroom
    rw [hrun]
    refine ⟨hentered, hchosen, ?_, entryLogged_of_run hc (runKept_restrikeEntered _ _ _ _)⟩
    exact ((outsideKept_hitEntry c s).trans (outsideKept_restrikeEntered _ _ _ _)).trans (outsideKept_chooseFetch _)

end Sys2Proof.Machine
end

section
/-! PROOFS. PRESS (R70, R76, R97, R101, R105, R107, R132). -/

namespace Sys2Proof.Machine

/-! ### The record that a press makes (R101) -/

/-- The state in which a press has made its record. -/
def recordMade (b : Bank) (p : Pos) (e : EntrySnap) (s : State) : State :=
  report s (s.setEng { s.eng with held := s.eng.held ++ [
    { pos := p, bank := b, snap := e, dir := s.eng.appliedDir, voices := [], sustained := false }] })

section Made

variable {b : Bank} {p : Pos} {e : EntrySnap} {s : State}

theorem recordMade_eng : (recordMade b p e s).eng = { s.eng with held := s.eng.held ++ [
    { pos := p, bank := b, snap := e, dir := s.eng.appliedDir, voices := [], sustained := false }] } := by
  simp [recordMade]

theorem findRec_recordMade (hf : findRec s.eng p = none) : findRec (recordMade b p e s).eng p =
    some { pos := p, bank := b, snap := e, dir := s.eng.appliedDir, voices := [], sustained := false } :=
  findRec_append (e' := (recordMade b p e s).eng) hf rfl (by rw [recordMade_eng])

theorem canHold_of_room (hf : findRec s.eng p = none) (hl : s.eng.held.length < 32) : canHold p s.eng = true := by
  simp [canHold, hf, Config.heldMax, hl]

variable (hf : findRec s.eng p = none) (hl : s.eng.held.length < 32)
include hf hl

theorem pressEntered_eq : pressEntered b p e s = voiceRecord (.press p) p (recordMade b p e s) :=
  pressEntered_of_canHold (canHold_of_room hf hl)

/-- The press changes the table and the item, and nothing else of the engine. -/
theorem pressEntered_eng : (pressEntered b p e s).eng = { s.eng with
    held := (pressEntered b p e s).eng.held, item := (pressEntered b p e s).eng.item } := by
  have h := voiceRecord_eng (p := p) (.inl rfl : ItemKind.press p = .press p ∨ _) (recordMade b p e s)
  rw [← pressEntered_eq hf hl, recordMade_eng] at h
  rw [h]

/-- Without a program the press ends, and its group with it (R102, R117). -/
theorem pressEntered_groups_of_none (hn : e.program s.eng.appliedDir = none) :
    (pressEntered b p e s).voice.groups =
      (s.voice.groups.map fun g => { g with filling := false }).filter fun g => !g.closable := by
  rw [pressEntered_eq hf hl, voiceRecord_ends (findRec_recordMade hf) (.inl hn), itemEnd_groups (by simp)]
  simp [recordMade]

/-- With one it waits for that program, and its group goes on (R102, R117). -/
theorem pressEntered_voice_of_some {n : ProgNo} (hn : e.program s.eng.appliedDir = some n)
    (ho : s.ctrl.op = .performing) : (pressEntered b p e s).voice = s.voice := by
  rw [pressEntered_eq hf hl, voiceRecord_waits (findRec_recordMade hf) hn (by simpa [recordMade] using ho)]
  simp [recordMade]

end Made

/-! ### Steps 2 and 3 of a press (R101) -/

theorem pressRequest_full {p : Pos} {s : State} (h : 32 ≤ s.eng.held.length) :
    pressRequest p s = itemEnd (.press p) (dropFor .heldFull s) := if_pos h

section Request

variable {p : Pos} {s : State} (hl : s.eng.held.length < 32)
include hl

theorem pressRequest_miss (hc : lookupEntry s.ctrl.bank p s.map.cache = none) :
    pressRequest p s = missEntry (.press p) s.ctrl.bank p s := by
  have : ¬32 ≤ s.eng.held.length := Nat.not_le.mpr hl
  simp [pressRequest, Config.heldMax, this, hc]

theorem pressRequest_hit {c : CacheEntry} (hc : lookupEntry s.ctrl.bank p s.map.cache = some c) :
    pressRequest p s = pressEntered s.ctrl.bank p (snapOf c.word) (hitEntry c s).2 := by
  have : ¬32 ≤ s.eng.held.length := Nat.not_le.mpr hl
  simp [pressRequest, Config.heldMax, this, hc, hitEntry, handEntry_fst]

end Request

/-- What a press has done shows in the voicing engine and the voice write queue. -/
theorem PressEntered.congr {s t u : State} {w : Wait} {b : Bank} {p : Pos} {e : EntrySnap}
    (h : PressEntered s t w b p e) (he : u.eng = t.eng) (hv : u.voice = t.voice) : PressEntered s u w b p e := by
  unfold PressEntered at *
  rwa [he, hv]

/-- What a press does in PERFORMING that finds its entry in the map cache. -/
structure PressHit (p : Pos) (c : CacheEntry) (e : EntrySnap) (s t : State) : Prop where
  scan : t.scan = s.scan
  held : t.eng.held = s.eng.held ++ [newRecord s p e]
  eng : t.eng = { s.eng with held := t.eng.held, item := t.eng.item }
  cache : t.map.cache = c :: s.map.cache.filter (fun x => !decide (x.bank = c.bank ∧ x.pos = c.pos))
  queue : t.voice.queue = s.voice.queue
  ended : e.program s.eng.appliedDir = none → t.eng.item = none ∧ t.voice.groups =
    (s.voice.groups.map fun g => { g with filling := false }).filter fun g => !g.closable
  waits : ∀ n, e.program s.eng.appliedDir = some n → t.voice = s.voice ∧
    t.eng.item = some { kind := .press p, wait := programWait s p, jobs := [] } ∧
    (s.eng.awaitDiscard = false → s.map.fetch = none → Chosen s t (.program n))
  logged : EntryLogged p c.word s t

/-- The press of a position with no record and with room in the table, whose entry is in the cache. -/
theorem pressHit_of_hit {s : State} {p : Pos} {c : CacheEntry} {e : EntrySnap} (hop : s.ctrl.op = .performing)
    (hf : findRec s.eng p = none) (hl : s.eng.held.length < 32)
    (hc : lookupEntry s.ctrl.bank p s.map.cache = some c) (hj : Judged c.word e) :
    PressHit p c e s (chooseFetch (pressRequest p s)) := by
  obtain ⟨hentered, hchosen⟩ := pressEntered_entered (standing_hitEntry (standing_idled s) c) (b := s.ctrl.bank)
    (e := e) hf hl
  have hwait : programWait (hitEntry c (idled s)).2 p = programWait s p := by simp [programWait]
  have hrun : pressEntered s.ctrl.bank p e (hitEntry c (idled s)).2 =
      idled (pressEntered s.ctrl.bank p e (hitEntry c s).2) := by
    rw [hitEntry_idled, pressEntered_idled]
  have hkept := runKept_pressEntered s.ctrl.bank p e (hitEntry c s).2
  rw [pressRequest_hit hl hc, snapOf_of_judged hj]
  obtain ⟨hheld, hends, hwaits, -, -, -, hqueue⟩ : PressEntered s
      (chooseFetch (pressEntered s.ctrl.bank p e (hitEntry c s).2)) (programWait s p) s.ctrl.bank p e :=
    (hwait ▸ hentered).congr (by rw [hrun]; simp) (by rw [hrun]; simp)
  have hf' : findRec (hitEntry c s).2.eng p = none := by simpa using hf
  have hl' : (hitEntry c s).2.eng.held.length < 32 := by simpa using hl
  refine ⟨?_, hheld, ?_, ?_, hqueue, fun hn => ⟨hends (.inl hn), ?_⟩, fun n hn => ⟨?_, hwaits (by simp [hn]) hop,
    fun hd hfetch => ?_⟩, entryLogged_of_run hc hkept⟩
  · rw [chooseFetch_scan, hkept.scan, hitEntry_scan]
  · rw [chooseFetch_eng, pressEntered_eng hf' hl', hitEntry_eng]
  · rw [chooseFetch_cache, hkept.cache, hitEntry_cache]
    rfl
  · rw [chooseFetch_voice, pressEntered_groups_of_none hf' hl' (by simpa using hn), hitEntry_voice]
  · rw [chooseFetch_voice, pressEntered_voice_of_some hf' hl' (by simpa using hn) (by simpa using hop),
      hitEntry_voice]
  · rw [idled_of_none hfetch] at hchosen
    exact hchosen n hn hop (by simpa using hd)

/-- What a press does that does not find its entry in the map cache: it waits. -/
structure PressMiss (p : Pos) (s t : State) : Prop where
  scan : t.scan = s.scan
  eng : t.eng = { s.eng with item := some { kind := .press p, wait := entryWait s p, jobs := [] } }
  chosen : s.eng.awaitDiscard = false → s.map.fetch = none → Chosen s t (.entry s.ctrl.bank p)
  cache : t.map.cache = s.map.cache
  voice : t.voice = s.voice
  status : StatusKept s t

theorem pressMiss_of_miss {s : State} {p : Pos} (hl : s.eng.held.length < 32)
    (hc : lookupEntry s.ctrl.bank p s.map.cache = none) : PressMiss p s (chooseFetch (pressRequest p s)) := by
  obtain ⟨hcache, -, -⟩ := missEntry_caches (.press p) p s s.ctrl.bank
  rw [pressRequest_miss hl hc]
  refine ⟨by simp, ?_, fun hd hf => missEntry_chosen _ p s hd hf _, ?_, by simp, .of_stat (by simp)⟩
  · rw [chooseFetch_eng, missEntry_eng]
  · rw [chooseFetch_cache, hcache]

/-! ### The states from which the press makes its request -/

/-- The request is made in a state that differs from `s` in the scan queue, the engine and the voice writer only. -/
structure RequestFrom (evs : List ButtonEvent) (s v : State) : Prop where
  scan : v.scan = { s.scan with events := evs }
  ctrl : v.ctrl = s.ctrl
  map : v.map = s.map
  dir : v.eng.appliedDir = s.eng.appliedDir
  discard : v.eng.awaitDiscard = s.eng.awaitDiscard
  player : v.player = s.player
  status : StatusKept s v

section RequestFrom

variable {evs : List ButtonEvent} {s v t : State} (h : RequestFrom evs s v)
include h

theorem RequestFrom.newRecord (p : Pos) (e : EntrySnap) : newRecord v p e = newRecord s p e := by
  simp [Machine.newRecord, h.ctrl, h.dir]

theorem RequestFrom.programWait (p : Pos) : programWait v p = programWait s p := by
  simp [Machine.programWait, h.discard]

theorem RequestFrom.entryWait (p : Pos) : entryWait v p = entryWait s p := by
  simp [Machine.entryWait, h.ctrl, h.discard]

theorem RequestFrom.chosen {k : FetchKind} (hk : Chosen v t k) : Chosen s t k := by
  intro hr hw
  exact hk (by rw [← hr, requested, requested, h.ctrl, h.map]) (by rw [h.player, hw])

theorem RequestFrom.logged {p : Pos} {w : Word} (hk : EntryLogged p w v t) : EntryLogged p w s t := by
  obtain ⟨hbad, hgood⟩ := hk
  rw [h.ctrl] at hbad
  obtain ⟨-, -, -, -, hcounters⟩ := h.status
  exact ⟨fun hj => ⟨(hbad hj).1.of_kept h.status, (hbad hj).2.trans hcounters⟩, fun hj => h.status.trans (hgood hj)⟩

end RequestFrom

theorem exec_press {s : State} {p : Pos} {evs : List ButtonEvent} (h : Takes s .press)
    (he : s.scan.events = { isPress := true, pos := p } :: evs) :
    exec .press s = .next (chooseFetch (pressItem p s)) := by
  show execPress s = _
  rw [execPress, if_pos (show nextItem s = some .press from h), he]

theorem requestFrom_takeEvent {s : State} {ev : ButtonEvent} {evs : List ButtonEvent}
    (he : s.scan.events = ev :: evs) : RequestFrom evs s (takeEvent s) := by
  constructor
  case status => simp [StatusKept, takeEvent]
  all_goals simp [takeEvent, he]

theorem takeEvent_eng (s : State) : (takeEvent s).eng = s.eng := by simp [takeEvent]

theorem takeEvent_voice (s : State) : (takeEvent s).voice = s.voice := by simp [takeEvent]

theorem pressItem_new {s : State} {p : Pos} (h : findRec s.eng p = none) :
    pressItem p s = pressRequest p (takeEvent s) := by
  unfold pressItem
  dsimp only []
  rw [takeEvent_eng, h]

theorem outsideKept_pressItem (p : Pos) (s : State) : OutsideKept s (pressItem p s) := by
  have htake : OutsideKept s (takeEvent s) := by simp [OutsideKept, takeEvent]
  unfold pressItem
  dsimp only []
  split
  · exact htake.trans (outsideKept_runJobs _ _ _)
  · exact htake.trans (outsideKept_pressRequest _ _)

/-! ### A position that has a record: its voices go first (R101, R107) -/

/-- The record of `p` has left the table. -/
def recordRemoved (p : Pos) (s : State) : State := report s (s.setEng (removeRec p s.eng))

theorem recordRemoved_eng (p : Pos) (s : State) : (recordRemoved p s).eng = removeRec p s.eng := by
  simp [recordRemoved]

theorem recordRemoved_voice (p : Pos) (s : State) : (recordRemoved p s).voice = s.voice := by simp [recordRemoved]

theorem findRec_recordRemoved (p : Pos) (s : State) : findRec (recordRemoved p s).eng p = none := by
  rw [recordRemoved_eng]
  refine List.find?_eq_none.mpr fun r hr => ?_
  simpa using List.of_mem_filter hr

/-- The press of a position with a record releases its voices, takes it out of the table and makes its request. -/
theorem pressItem_again {s : State} {p : Pos} {r : HeldRec} (hr : findRec s.eng p = some r)
    (ho : Ordered s r.voices) (hroom : RoomFor s r.voices.length) :
    ∃ t, pressItem p s = pressRequest p (recordRemoved p t) ∧ ReleaseRun p r.voices (takeEvent s) t := by
  obtain ⟨t, hrun, hrel⟩ := runJobs_releases (.press p) p [.removeRecord p, .pressEntry p] (s := takeEvent s)
    (l := r.voices) (by rwa [Ordered, takeEvent_eng]) (by rwa [RoomFor, takeEvent_voice])
  refine ⟨t, ?_, hrel⟩
  unfold pressItem
  dsimp only []
  rw [takeEvent_eng, hr]
  dsimp only [releaseJobs]
  rw [findRec_pos hr, hrun]
  rfl

section Again

variable {s t : State} {p : Pos} {l : List Slot} {ev : ButtonEvent} {evs : List ButtonEvent}
  (hrel : ReleaseRun p l (takeEvent s) t)
include hrel

theorem requestFrom_released (he : s.scan.events = ev :: evs) : RequestFrom evs s (recordRemoved p t) := by
  obtain ⟨hscan, hctrl, hmap, hdir, hdiscard, hplayer, hstatus⟩ := requestFrom_takeEvent he
  have hdir' : t.eng.appliedDir = (takeEvent s).eng.appliedDir := by rw [hrel.eng]
  have hdiscard' : t.eng.awaitDiscard = (takeEvent s).eng.awaitDiscard := by rw [hrel.eng]
  constructor
  case status => exact (hstatus.trans hrel.status).trans (by simp [StatusKept, recordRemoved])
  case scan => simpa [recordRemoved] using hrel.scan.trans hscan
  case ctrl => simpa [recordRemoved] using hrel.ctrl.trans hctrl
  case map => simpa [recordRemoved] using hrel.map.trans hmap
  case dir => simpa [recordRemoved, removeRec] using hdir'.trans hdir
  case discard => simpa [recordRemoved, removeRec] using hdiscard'.trans hdiscard
  case player => simpa [recordRemoved] using hrel.player.trans hplayer

theorem recordRemoved_held : (recordRemoved p t).eng.held =
    (withoutSlots l s.eng.held).filter fun x => decide (x.pos ≠ p) := by
  rw [recordRemoved_eng, removeRec, hrel.held, takeEvent_eng]

/-- The table has room for the new record where the old one has left it. -/
theorem recordRemoved_room {r : HeldRec} (hr : findRec s.eng p = some r) (hl : s.eng.held.length ≤ 32) :
    (recordRemoved p t).eng.held.length < 32 := by
  have hmem : r ∈ s.eng.held := List.mem_of_find?_eq_some hr
  have hlen : (withoutSlots l s.eng.held).length = s.eng.held.length := by simp [withoutSlots]
  rw [recordRemoved_held hrel]
  refine Nat.lt_of_lt_of_le ?_ (hlen.trans_le hl)
  refine List.length_filter_lt_length_iff_exists.mpr ⟨_, List.mem_map_of_mem hmem, ?_⟩
  simp [findRec_pos hr]

/-- A reversal walk that stands at the record goes on to the next (R132). -/
theorem recordRemoved_revWalk : (recordRemoved p t).eng.revWalk = placeLeaving p s.eng := by
  have hw : t.eng.revWalk = s.eng.revWalk := by
    rw [hrel.eng, takeEvent_eng]
  have hp : t.eng.held.map (·.pos) = s.eng.held.map (·.pos) := by
    rw [hrel.held, map_pos_withoutSlots, takeEvent_eng]
  rw [recordRemoved_eng]
  exact placeAfter_of_pos (.reversalStep p) hw hp

/-- The releases, as the end of the step shows them. -/
theorem releasedAs_of_press {u : State} {filling : Bool} (hqueue : u.voice.queue = t.voice.queue)
    (heng : u.eng = { (recordRemoved p t).eng with held := u.eng.held, item := u.eng.item })
    (hgroup : l ≠ [] → { openedGroup s l with filling := filling } ∈ u.voice.groups) : ReleasedAs filling s u p l := by
  have hsame : SameSlots s (takeEvent s) := by constructor <;> simp [takeEvent]
  obtain ⟨h₁, h₂, h₃, h₄, h₅, h₆⟩ := hsame.releasedAs (u := t.setVoice u.voice) (it := t.eng.item) hrel hqueue rfl hgroup
  rw [recordRemoved_eng] at heng
  unfold ReleasedAs
  rw [heng]
  exact ⟨h₁, h₂, h₃, h₄, h₅, h₆⟩

/-- The group of the releases, where the press goes on with it. -/
theorem openedGroup_mem (hl : l ≠ []) : openedGroup s l ∈ t.voice.groups := by
  have hsame : SameSlots s (takeEvent s) := by constructor <;> simp [takeEvent]
  rw [hrel.groups, if_neg hl, openedGroup_congr hsame]
  exact List.mem_append_right _ (List.mem_singleton.mpr rfl)

/-- The group of the releases, where the press has ended. -/
theorem openedGroup_mem_ended (hl : l ≠ []) : { openedGroup s l with filling := false } ∈
    (t.voice.groups.map fun g => { g with filling := false }).filter fun g => !g.closable := by
  refine List.mem_filter.mpr ⟨List.mem_map_of_mem (openedGroup_mem hrel hl), ?_⟩
  simpa [Group.closable, openedGroup] using hl

end Again

/-- Settles O52: a new position, and one whose record leaves the table first; each by the room in the table and the
look-up in the map cache. -/
theorem aPressMakesARecordOrIsDropped : Obligations.APressMakesARecordOrIsDropped := by
  intro s p evs htakes he hop
  have hexec := exec_press htakes he
  have hbeside := (outsideKept_pressItem p s).trans (outsideKept_chooseFetch _)
  refine ⟨fun hf => ?_, fun r hr hlen ho hroom => ?_⟩
  · rw [pressItem_new hf] at hexec hbeside
    have hfrom := requestFrom_takeEvent he
    have heng := takeEvent_eng s
    have hvoice := takeEvent_voice s
    have hop' : (takeEvent s).ctrl.op = .performing := by rw [hfrom.ctrl, hop]
    refine ⟨fun hl => ⟨_, hexec, ?_⟩, fun c e hl hc hj => ⟨_, hexec, ?_⟩, fun hl hc => ⟨_, hexec, ?_⟩⟩
    · rw [pressRequest_full (by rwa [heng])] at hbeside ⊢
      refine ⟨?_, ?_, ?_, ?_, ?_, hbeside⟩
      · simpa using hfrom.scan
      · rw [chooseFetch_eng, itemEnd_eng (by simp), dropFor_eng, heng]
        rfl
      · simp [itemEnd_stat, dropFor, takeEvent, flagDrop]
      · simp [itemEnd_stat, dropFor, takeEvent, bump_eq]
      · simp [itemEnd_queue, hvoice]
    · have hhit := pressHit_of_hit hop' (by rwa [heng]) (by rwa [heng]) (by rwa [hfrom.ctrl, hfrom.map]) hj
      generalize chooseFetch (pressRequest p (takeEvent s)) = t at *
      have hended := hhit.ended
      have hwaits := hhit.waits
      rw [hfrom.dir] at hended hwaits
      refine ⟨hhit.scan.trans hfrom.scan, ?_, ?_, fun hn => (hended hn).1, fun n hn => ?_, ?_, hbeside,
        hfrom.logged hhit.logged⟩
      · rw [hhit.held, hfrom.newRecord, heng]
      · rw [hhit.cache, hfrom.map]
      · obtain ⟨-, hwait, hchosen⟩ := hwaits n hn
        rw [hfrom.programWait] at hwait
        exact ⟨hwait, fun hd hfetch => hfrom.chosen (hchosen (hfrom.discard ▸ hd) (hfrom.map ▸ hfetch))⟩
      · rw [hhit.queue, hvoice]
    · have hmiss := pressMiss_of_miss (p := p) (s := takeEvent s) (by rwa [heng]) (by rwa [hfrom.ctrl, hfrom.map])
      refine ⟨hmiss.scan.trans hfrom.scan, ?_, fun hd hfetch => ?_, ?_, ?_, hbeside, hfrom.status.trans hmiss.status⟩
      · rw [hmiss.eng, hfrom.entryWait, heng]
      · exact hfrom.ctrl ▸ hfrom.chosen (hmiss.chosen (hfrom.discard ▸ hd) (hfrom.map ▸ hfetch))
      · rw [hmiss.cache, hfrom.map]
      · rw [hmiss.voice, hvoice]
  · obtain ⟨w, hrun, hrel⟩ := pressItem_again hr ho hroom
    rw [hrun] at hexec hbeside
    have hfrom := requestFrom_released hrel he
    have hgone := findRec_recordRemoved p w
    have hspace := recordRemoved_room hrel hr hlen
    have hvoice := recordRemoved_voice p w
    have hop' : (recordRemoved p w).ctrl.op = .performing := by rw [hfrom.ctrl, hop]
    refine ⟨fun c e hc hj => ⟨_, hexec, ?_⟩, fun hc => ⟨_, hexec, ?_⟩⟩
    · have hhit := pressHit_of_hit hop' hgone hspace (by rwa [hfrom.ctrl, hfrom.map]) hj
      generalize chooseFetch (pressRequest p (recordRemoved p w)) = t at *
      have hqueue : t.voice.queue = w.voice.queue := by rw [hhit.queue, hvoice]
      have hended := hhit.ended
      have hwaits := hhit.waits
      rw [hfrom.dir] at hended hwaits
      refine ⟨hhit.scan.trans hfrom.scan, ?_, ?_, ?_, fun hn => ?_, fun n hn => ?_, hbeside, hfrom.logged hhit.logged⟩
      · rw [hhit.held, hfrom.newRecord, recordRemoved_held hrel]
      · rw [hhit.eng, recordRemoved_revWalk hrel]
      · rw [hhit.cache, hfrom.map]
      · obtain ⟨hitem, hgroups⟩ := hended hn
        refine ⟨hitem, releasedAs_of_press hrel hqueue hhit.eng fun hl => ?_⟩
        rw [hgroups, hvoice]
        exact openedGroup_mem_ended hrel hl
      · obtain ⟨hsame, hwait, hchosen⟩ := hwaits n hn
        rw [hfrom.programWait] at hwait
        refine ⟨releasedAs_of_press hrel hqueue hhit.eng fun hl => ?_, hwait,
          fun hd hfetch => hfrom.chosen (hchosen (hfrom.discard ▸ hd) (hfrom.map ▸ hfetch))⟩
        rw [hsame, hvoice]
        exact openedGroup_mem hrel hl
    · have hmiss := pressMiss_of_miss hspace (by rwa [hfrom.ctrl, hfrom.map])
      generalize chooseFetch (pressRequest p (recordRemoved p w)) = t at *
      refine ⟨hmiss.scan.trans hfrom.scan, ?_, ?_, ?_, ?_, fun hd hfetch => ?_, ?_, hbeside,
        hfrom.status.trans hmiss.status⟩
      · rw [hmiss.eng, recordRemoved_held hrel]
      · rw [hmiss.eng, recordRemoved_revWalk hrel]
      · rw [hmiss.eng, hfrom.entryWait]
      · refine releasedAs_of_press hrel (by rw [hmiss.voice, hvoice]) (by rw [hmiss.eng]) fun hl => ?_
        rw [hmiss.voice, hvoice]
        exact openedGroup_mem hrel hl
      · exact hfrom.ctrl ▸ hfrom.chosen (hmiss.chosen (hfrom.discard ▸ hd) (hfrom.map ▸ hfetch))
      · rw [hmiss.cache, hfrom.map]

end Sys2Proof.Machine
end

section
/-! PROOFS. One layer of a program: dropped, started in the slot that the allocation gives, or waiting for room (R98, R102,
R103, R104, R105, R117, R119). -/

namespace Sys2Proof.Machine

/-! ### Drops counted (R105, R178) -/

theorem bump_eq_raisedBy (c : Nat) : bump c = raisedBy 1 c := by
  unfold raisedBy
  rw [bump_eq]
  split <;> omega

theorem raisedBy_zero (c : Nat) : raisedBy 0 c = c := by
  unfold raisedBy
  omega

theorem raisedBy_raisedBy (m n c : Nat) : raisedBy m (raisedBy n c) = raisedBy (n + m) c := by
  unfold raisedBy
  omega

theorem Dropped.refl (s : State) : Dropped 0 0 0 s s := by simp [Dropped, raisedBy_zero]

theorem Dropped.trans {b e r b' e' r' : Nat} {s t u : State} (h : Dropped b e r s t) (k : Dropped b' e' r' t u) :
    Dropped (b + b') (e + e') (r + r') s u := by
  obtain ⟨hb, he, hr, hheld, hsteals, hflags, hcount, hlog⟩ := h
  obtain ⟨kb, ke, kr, kheld, ksteals, kflags, kcount, klog⟩ := k
  refine ⟨?_, ?_, ?_, kheld.trans hheld, ksteals.trans hsteals, ?_, kcount.trans hcount, klog.trans hlog⟩
  · rw [kb, hb, raisedBy_raisedBy]
  · rw [ke, he, raisedBy_raisedBy]
  · rw [kr, hr, raisedBy_raisedBy]
  · have hsum : b + b' + (e + e') + (r + r') = 0 ↔ b + e + r = 0 ∧ b' + e' + r' = 0 := by omega
    rw [kflags, hflags, if_congr hsum rfl rfl]
    generalize b + e + r = m, b' + e' + r' = m'
    by_cases h₁ : m = 0 <;> by_cases h₂ : m' = 0 <;> simp [h₁, h₂, BitVec.or_assoc]

/-- Counters, flags and faults alone tell what has been dropped. -/
theorem Dropped.congr {b e r : Nat} {s t t' : State} (h : Dropped b e r s t)
    (hc : t'.stat.counters = t.stat.counters) (hf : t'.stat.flags = t.stat.flags)
    (hn : t'.stat.faultCount = t.stat.faultCount) (hl : t'.stat.faultLog = t.stat.faultLog) : Dropped b e r s t' := by
  unfold Dropped at *
  rwa [hc, hf, hn, hl]

theorem dropped_range (s : State) : Dropped 0 0 1 s (dropFor .range s) := by
  simp [Dropped, dropFor, raisedBy_zero, bump_eq_raisedBy, flagDrop]

theorem dropped_budget (s : State) : Dropped 1 0 0 s (dropFor .budget s) := by
  simp [Dropped, dropFor, raisedBy_zero, bump_eq_raisedBy, flagDrop]

theorem dropped_exhausted (s : State) : Dropped 0 1 0 s (dropFor .exhausted s) := by
  simp [Dropped, dropFor, raisedBy_zero, bump_eq_raisedBy, flagDrop]

/-! ### The record that a program is played for -/

/-- The record of `p` has the snapshot and the direction of `r`: its voices may have changed. -/
def PlaysAs (e : Engine) (p : Pos) (r : HeldRec) : Prop :=
  ∃ y, findRec e p = some y ∧ y.snap = r.snap ∧ y.dir = r.dir

theorem playsAs_of_findRec {e : Engine} {p : Pos} {r : HeldRec} (h : findRec e p = some r) : PlaysAs e p r :=
  ⟨r, h, rfl, rfl⟩

theorem pitchOk_eq_inRange {r y : HeldRec} (h : y.snap = r.snap) (x : Fin 8 × Layer) :
    pitchOk (pitchOf x.2.note y.snap.transpose) = inRange r x := by
  rw [h]
  rfl

/-! ### A voice started (R90, R91, R92, R98, R104, R117) -/

/-- A change of the counts by one slot that starts, and by the one whose voice it steals (R91). -/
theorem startVoice_counts {p : Pos} {i : Slot} {steal : Bool} {rec : SlotRec} {e : Engine}
    (hi : i ∈ (if steal then e.order else e.free)) (k : SectNo) : (startVoice p i steal rec e).counts.get k =
      e.counts.get k - (if steal = true ∧ k = (e.mirror.get i).sect then 1 else 0) + (if k = rec.sect then 1 else 0) := by
  have add (sect : SectNo) (f : Nat → Nat) (c : Tbl 8 Nat) :
      (addCount sect f c).get k = if k = sect then f (c.get k) else c.get k := by
    rw [addCount, Tbl.get_set]
    by_cases h : k = sect
    · rw [if_pos h.symm, if_pos h, h]
    · rw [if_neg (Ne.symm h), if_neg h]
  cases steal with
  | true =>
    have hi : i ∈ e.order := hi
    simp only [startVoice, hi, if_true, add, true_and]
    split <;> split <;> rfl
  | false =>
    have hi : i ∈ e.free := hi
    simp only [startVoice, hi, if_true, Bool.false_eq_true, if_false, add, false_and]
    split <;> rfl

/-- The group of a FULL write (R103, R117). -/
theorem groupJoined_push {s u : State} {p : Push} (hg : p.grouped = true) (hs : p.starts = true)
    (hu : u.voice = pushWriter s p s.voice) : GroupJoined p.slot s u := by
  unfold pushWriter at hu
  simp only [hg, hs, if_true, joinGroup] at hu
  refine ⟨fun hn => ?_, fun hn => ?_⟩
  · rw [hn] at hu
    rw [hu]
    exact ⟨rfl, rfl⟩
  · obtain ⟨g, hn⟩ := Option.ne_none_iff_exists'.mp hn
    rw [hn] at hu
    rw [hu]
    simp [addSlot]

/-- The group that a start has joined is filling, with the tag that the item's writes carry. -/
theorem GroupJoined.filling {i : Slot} {s u : State} (h : GroupJoined i s u) :
    pushTag u.voice = pushTag s.voice ∧ (fillingGroup u.voice).isSome = true := by
  obtain ⟨hopened, hjoined⟩ := h
  cases hf : fillingGroup s.voice with
  | none =>
    obtain ⟨hgroups, -⟩ := hopened hf
    have hnone : s.voice.groups.find? (·.filling) = none := hf
    obtain ⟨g, hg, htag⟩ : ∃ g, fillingGroup u.voice = some g ∧ g.tag = s.voice.nextTag :=
      ⟨_, by rw [fillingGroup, hgroups, List.find?_append, hnone]; rfl, rfl⟩
    rw [pushTag, pushTag, hf, hg]
    exact ⟨htag, rfl⟩
  | some g =>
    obtain ⟨hgroups, -⟩ := hjoined (by simp [hf])
    have hg : s.voice.groups.find? (·.filling) = some g := hf
    have hfill : g.filling = true := List.find?_some hg
    have hsame (F : Group → Group) (hF : ∀ x, (F x).filling = x.filling) :
        (fun x : Group => x.filling) ∘ F = fun x => x.filling := funext hF
    have hsome : fillingGroup u.voice = some { g with
        slots := if i ∈ g.slots then g.slots else g.slots ++ [i]
        started := if i ∈ g.started then g.started else g.started ++ [i]
        notLanded := g.notLanded + 1 } := by
      rw [fillingGroup, hgroups, List.find?_map, hsame _ fun x => by split <;> rfl, hg, Option.map_some, if_pos hfill]
    rw [pushTag, pushTag, hf, hsome]
    exact ⟨rfl, rfl⟩

/-- The FULL write of a layer. -/
def layerPush (p : Pos) (r : HeldRec) (x : Fin 8 × Layer) (i : Slot) (steal : Bool) : Push :=
  .full p i steal x.2 x.1 r.dir

theorem canPush_layer {s : State} (p : Pos) (r : HeldRec) (x : Fin 8 × Layer) (i : Slot) (steal : Bool) :
    canPush s (layerPush p r x i steal) = true ↔ GroupRoom s := by
  refine ⟨fun h => ?_, canPush_of_room _⟩
  simp only [canPush, layerPush, Push.grouped, Bool.and_eq_true, Bool.or_eq_true, decide_eq_true_eq] at h
  obtain ⟨hq, hg⟩ := h
  exact ⟨hq, hg.symm.imp id fun h => h.resolve_left (by simp)⟩

section Started

variable {s : State} {p : Pos} {r : HeldRec} {x : Fin 8 × Layer} {i : Slot} {steal : Bool}
  (ha : allocate s x.2.sect = .take i steal)
include ha

theorem mem_of_allocate : i ∈ (if steal then s.eng.order else s.eng.free) := by
  have h := allocate_takes ha
  cases steal with
  | true => exact h
  | false => exact List.mem_of_head? h

/-- The layer has started its voice. -/
theorem voiceStarted_push (hr : PlaysAs s.eng p r) :
    VoiceStarted s (doPush (layerPush p r x i steal) s) p r x i steal := by
  obtain ⟨y, hy, hsnap, -⟩ := hr
  have hi := mem_of_allocate ha
  have heng : (doPush (layerPush p r x i steal) s).eng =
      startVoice p i steal (startedRec (s.eng.mirror.get i) p steal x.2 x.1 (levelFor s x.2.sect x.2.trim)) s.eng :=
    doPush_eng _ s
  refine ⟨?_, fun k => ?_, ?_, groupJoined_push rfl rfl (doPush_voice _ s), ?_, ?_, ?_, ?_⟩
  · rw [heng]
    exact startVoice_eq hi
  · rw [heng, startVoice_counts hi]
    rfl
  · rw [doPush_voice, pushWriter_queue, layerPush, pushedWrite_full hy, hsnap]
  · rw [doPush_counters, ← steals_counted]
    rfl
  all_goals unfold doPush; dsimp only []; split <;> simp

/-- The record is still the one that the program is played for. -/
theorem playsAs_push (hr : PlaysAs s.eng p r) : PlaysAs (doPush (layerPush p r x i steal) s).eng p r := by
  obtain ⟨heng, -⟩ := voiceStarted_push (p := p) ha hr
  obtain ⟨y, hy, hsnap, hdir⟩ := hr
  have hheld := congrArg Engine.held heng
  have hone : findRec { s.eng with held := withoutSlots [i] s.eng.held } p =
      some { y with voices := y.voices.filter fun j => !([i].contains j) } := by
    rw [findRec_map (e := s.eng) (g := fun z => { z with voices := z.voices.filter fun j => !([i].contains j) })
      (fun _ => rfl) rfl, hy]
    rfl
  refine ⟨_, (findRec_map (g := fun z => if z.pos = p then { z with voices := z.voices ++ [i] } else z)
    (fun z => by split <;> rfl) hheld).trans (by rw [hone]; rfl), ?_⟩
  dsimp only []
  split <;> exact ⟨hsnap, hdir⟩

end Started

/-! ### What a layer leaves as it is -/

/-- What taking a layer leaves alone. -/
structure LayerKept (s u : State) : Prop where
  ctrl : u.ctrl = s.ctrl
  sects : u.map.sects = s.map.sects
  frame : u.tone.frame = s.tone.frame
  timebase : u.timebase = s.timebase
  revWalk : u.eng.revWalk = s.eng.revWalk
  places : u.eng.held.map (·.pos) = s.eng.held.map (·.pos)
  faultCount : u.stat.faultCount = s.stat.faultCount
  faultLog : u.stat.faultLog = s.stat.faultLog

theorem LayerKept.refl (s : State) : LayerKept s s := ⟨rfl, rfl, rfl, rfl, rfl, rfl, rfl, rfl⟩

theorem LayerKept.trans {s t u : State} (h : LayerKept s t) (k : LayerKept t u) : LayerKept s u where
  ctrl := k.ctrl.trans h.ctrl
  sects := k.sects.trans h.sects
  frame := k.frame.trans h.frame
  timebase := k.timebase.trans h.timebase
  revWalk := k.revWalk.trans h.revWalk
  places := k.places.trans h.places
  faultCount := k.faultCount.trans h.faultCount
  faultLog := k.faultLog.trans h.faultLog

theorem layerKept_dropFor (reason : DropReason) (s : State) : LayerKept s (dropFor reason s) := by
  constructor <;> simp [dropFor]

theorem layerKept_push {s : State} {p : Pos} {r : HeldRec} {x : Fin 8 × Layer} {i : Slot} {steal : Bool}
    (ha : allocate s x.2.sect = .take i steal) (hr : PlaysAs s.eng p r) :
    LayerKept s (doPush (layerPush p r x i steal) s) := by
  obtain ⟨heng, -, -, -, -, -, hcount, hlog⟩ := voiceStarted_push (p := p) ha hr
  obtain ⟨-, -, -, -, -, hframe, -⟩ := outsideKept_doPush (layerPush p r x i steal) s
  refine ⟨by simp, by simp, hframe, by simp, ?_, ?_, hcount, hlog⟩
  · rw [heng]
  · rw [heng]
    exact (map_pos_enlist p i _).trans (map_pos_withoutSlots _ _)

/-! ### One layer of the run -/

/-- An allocation that gives no slot drops for the budget or for want of a slot (R103). -/
theorem allocate_drops {s : State} {k : SectNo} {reason : DropReason} (h : allocate s k = .drop reason) :
    reason = .budget ∨ reason = .exhausted := by
  unfold allocate at h
  dsimp only [] at h
  repeat' split at h
  all_goals simp_all

section Layer

variable {k : ItemKind} {s : State} {p : Pos} {r : HeldRec} {x : Fin 8 × Layer} (js : List Job)
  (hr : PlaysAs s.eng p r)
include hr

theorem runJobs_layer_range (ho : inRange r x = false) :
    runJobs k (.layer p x.1 x.2 :: js) s = runJobs k js (dropFor .range s) := by
  obtain ⟨y, hy, hsnap, -⟩ := hr
  exact runJobs_layer_out_of_range hy ((pitchOk_eq_inRange hsnap x).trans ho)

theorem runJobs_layer_dropped {reason : DropReason} (ho : inRange r x = true)
    (ha : allocate s x.2.sect = .drop reason) :
    runJobs k (.layer p x.1 x.2 :: js) s = runJobs k js (dropFor reason s) := by
  obtain ⟨y, hy, hsnap, -⟩ := hr
  exact runJobs_layer_without_slot hy ((pitchOk_eq_inRange hsnap x).trans ho) ha

theorem runJobs_layer_ended {i : Slot} {steal : Bool} (ho : inRange r x = true)
    (ha : allocate s x.2.sect = .take i steal) (hop : s.ctrl.op ≠ .performing) :
    runJobs k (.layer p x.1 x.2 :: js) s = itemEnd k s := by
  obtain ⟨y, hy, hsnap, -⟩ := hr
  exact runJobs_layer_outside_performing hy ((pitchOk_eq_inRange hsnap x).trans ho) ha hop

theorem runJobs_layer_started {i : Slot} {steal : Bool} (ho : inRange r x = true)
    (ha : allocate s x.2.sect = .take i steal) (hop : s.ctrl.op = .performing) (hroom : GroupRoom s) :
    runJobs k (.layer p x.1 x.2 :: js) s = runJobs k js (doPush (layerPush p r x i steal) s) := by
  obtain ⟨y, hy, hsnap, hdir⟩ := hr
  rw [runJobs_layer_pushed hy ((pitchOk_eq_inRange hsnap x).trans ho) ha hop (canPush_of_room _ hroom), hdir]
  rfl

theorem runJobs_layer_waits {i : Slot} {steal : Bool} (ho : inRange r x = true)
    (ha : allocate s x.2.sect = .take i steal) (hop : s.ctrl.op = .performing) (hroom : ¬GroupRoom s) :
    runJobs k (.layer p x.1 x.2 :: js) s = waitFor k (.push (layerPush p r x i steal)) js s := by
  obtain ⟨y, hy, hsnap, hdir⟩ := hr
  have hc : canPush s (.full p i steal x.2 x.1 r.dir) = false :=
    Bool.eq_false_iff.mpr (mt (canPush_layer p r x i steal).mp hroom)
  simp [runJobs, hy, pitchOk_eq_inRange hsnap, ho, ha, hop, hc, layerPush, hdir]

end Layer

end Sys2Proof.Machine
end

section
/-! PROOFS. The run of a program's layers, one after another (R102, R103, R104, R105, R119). -/

namespace Sys2Proof.Machine

/-- The jobs that play the layers for the record of `p`. -/
def layerJobs (p : Pos) (ls : List (Fin 8 × Layer)) : List Job := ls.map fun x => .layer p x.1 x.2

/-! ### Layers that are all dropped (R105) -/

/-- The layer is dropped in this state, for its pitch or by the allocation. -/
def DroppedHere (s : State) (r : HeldRec) (x : Fin 8 × Layer) : Prop :=
  inRange r x = false ∨ allocate s x.2.sect = .drop .budget ∨ allocate s x.2.sect = .drop .exhausted

/-- The reasons of one dropped layer. -/
theorem droppedFor_cons (s : State) (r : HeldRec) (x : Fin 8 × Layer) (xs : List (Fin 8 × Layer))
    (reason : DropReason) : droppedFor s r (x :: xs) reason =
      (if inRange r x = true ∧ allocate s x.2.sect = .drop reason then 1 else 0) + droppedFor s r xs reason := by
  unfold droppedFor
  by_cases h : inRange r x = true ∧ allocate s x.2.sect = .drop reason
  · rw [List.filter_cons_of_pos (by simpa using h), if_pos h, List.length_cons, Nat.add_comm]
  · rw [List.filter_cons_of_neg (by simpa using h), if_neg h, Nat.zero_add]

/-- The drop of one layer. -/
theorem dropped_one {s : State} {r : HeldRec} {x : Fin 8 × Layer} (h : DroppedHere s r x) :
    ∃ reason, Dropped (if inRange r x = true ∧ allocate s x.2.sect = .drop .budget then 1 else 0)
        (if inRange r x = true ∧ allocate s x.2.sect = .drop .exhausted then 1 else 0)
        (if inRange r x = true then 0 else 1) s (dropFor reason s) ∧
      ∀ (k : ItemKind) (p : Pos) (js : List Job), PlaysAs s.eng p r →
        runJobs k (.layer p x.1 x.2 :: js) s = runJobs k js (dropFor reason s) := by
  cases ho : inRange r x with
  | false => exact ⟨.range, by simpa using dropped_range s, fun k p js hr => runJobs_layer_range js hr ho⟩
  | true =>
    rcases h.resolve_left (by simp [ho]) with ha | ha
    · exact ⟨.budget, by simpa [ha] using dropped_budget s, fun k p js hr => runJobs_layer_dropped js hr ho ha⟩
    · exact ⟨.exhausted, by simpa [ha] using dropped_exhausted s, fun k p js hr => runJobs_layer_dropped js hr ho ha⟩

/-- Dropped layers change the status unit alone, so each is judged as the first one is. -/
theorem runJobs_drops (k : ItemKind) (p : Pos) {r : HeldRec} (js : List Job) (out : List (Fin 8 × Layer)) {s : State}
    (hr : PlaysAs s.eng p r) (hout : ∀ x ∈ out, DroppedHere s r x) :
    ∃ u, runJobs k (layerJobs p out ++ js) s = runJobs k js u ∧ u.eng = s.eng ∧ u.voice = s.voice ∧
      u.map = s.map ∧ u.ctrl = s.ctrl ∧
      Dropped (droppedFor s r out .budget) (droppedFor s r out .exhausted) (out.filter fun x => !inRange r x).length
        s u := by
  induction out generalizing s with
  | nil => exact ⟨s, rfl, rfl, rfl, rfl, rfl, .refl s⟩
  | cons x out ih =>
    obtain ⟨reason, hdrop, hrun⟩ := dropped_one (hout x List.mem_cons_self)
    have hsame (k : SectNo) : allocate (dropFor reason s) k = allocate s k := by simp [allocate]
    have hfor (why : DropReason) : droppedFor (dropFor reason s) r out why = droppedFor s r out why := by
      simp [droppedFor, hsame]
    obtain ⟨u, hrest, heng, hvoice, hmap, hctrl, hdropped⟩ := ih (s := dropFor reason s) (by simpa using hr)
      fun y hy => by simpa [DroppedHere, hsame] using hout y (List.mem_cons_of_mem x hy)
    refine ⟨u, (hrun k p _ hr).trans hrest, by simpa using heng, by simpa using hvoice, by simpa using hmap,
      by simpa using hctrl, ?_⟩
    have hlen : ((x :: out).filter fun x => !inRange r x).length =
        (if inRange r x = true then 0 else 1) + (out.filter fun x => !inRange r x).length := by
      cases h : inRange r x <;> simp [h, Nat.add_comm]
    rw [droppedFor_cons, droppedFor_cons, hlen]
    rw [hfor, hfor] at hdropped
    exact hdrop.trans hdropped

/-! ### Layers that all fit (R102, R103 case 1) -/

/-- The mirror record of a voice that a layer has started in a free slot (R98). -/
def startedHere (s : State) (p : Pos) (z : (Fin 8 × Layer) × Slot) : SlotRec :=
  { state := .sounding, sect := z.1.2.sect, owner := some p, layer := z.1.1, trim := z.1.2.trim, stolen := false,
    level := levelOf s.eng.appliedMag (s.map.sects.get z.1.2.sect).curve z.1.2.trim, countdown := none,
    gen := (s.eng.mirror.get z.2).gen + 1 }

/-- The FULL write of that voice (R98). -/
def startWrite (s : State) (p : Pos) (r : HeldRec) (z : (Fin 8 × Layer) × Slot) : VoiceWrite :=
  { slot := z.2
    tag := some (pushTag s.voice)
    body := .full (voiceWord0 .sounding false z.1.2.sect z.1.1 ((s.eng.mirror.get z.2).gen + 1) p.val)
      (voiceWord1 z.1.2.patch ((z.1.2.note : Int) + r.snap.transpose).toNat z.1.2.pan)
      (voiceWord2 (levelOf s.eng.appliedMag (s.map.sects.get z.1.2.sect).curve z.1.2.trim))
      (voiceWord3 s.tone.frame r.dir) }

/-- A slot joins the voices of the record of `p`, and later the slots that follow it do. -/
theorem withoutSlots_cons_voices {i : Slot} {l : List Slot} (hi : i ∉ l) (p : Pos) (held : List HeldRec) :
    ((withoutSlots l ((withoutSlots [i] held).map fun y =>
      if y.pos = p then { y with voices := y.voices ++ [i] } else y)).map fun y =>
      if y.pos = p then { y with voices := y.voices ++ l } else y) =
    (withoutSlots (i :: l) held).map fun y => if y.pos = p then { y with voices := y.voices ++ i :: l } else y := by
  simp only [withoutSlots, List.map_map]
  refine List.map_congr_left fun y _ => ?_
  by_cases hp : y.pos = p
  · simp [hp, hi, List.filter_append, List.filter_filter, Bool.and_comm]
  · simp [hp, List.filter_filter, Bool.and_comm]

section Cons

variable {s v u : State} {p : Pos} {r : HeldRec} {x : Fin 8 × Layer} {xs : List (Fin 8 × Layer)} {i : Slot}
  {l : List Slot} (hv : VoiceStarted s v p r x i false) (hk : LayerKept s v)
include hv

/-- The head of the free list has left it. -/
theorem VoiceStarted.free (hf : s.eng.free = i :: l) (hn : (i :: l).Nodup) : v.eng.free = l := by
  obtain ⟨heng, -⟩ := hv
  obtain ⟨hi, -⟩ := List.nodup_cons.mp hn
  have hfree : v.eng.free = s.eng.free.filter fun j => decide (j ≠ i) := congrArg Engine.free heng
  rw [hfree, hf, List.filter_cons_of_neg (by simp)]
  exact List.filter_eq_self.mpr fun j hj => by simpa using ne_of_mem_of_not_mem hj hi

theorem VoiceStarted.mirror_other {j : Slot} (hj : j ≠ i) : v.eng.mirror.get j = s.eng.mirror.get j := by
  obtain ⟨heng, -⟩ := hv
  rw [heng]
  exact Tbl.get_set_other _ _ hj.symm

theorem VoiceStarted.magnitude : v.eng.appliedMag = s.eng.appliedMag := by
  obtain ⟨heng, -⟩ := hv
  rw [heng]

theorem VoiceStarted.tag : pushTag v.voice = pushTag s.voice := by
  obtain ⟨-, -, -, hjoined, -⟩ := hv
  exact hjoined.filling.1

theorem VoiceStarted.mirror_self : v.eng.mirror.get i = startedHere s p (x, i) := by
  obtain ⟨heng, -⟩ := hv
  rw [heng]
  exact Tbl.get_set_same _ _ _

include hk

theorem VoiceStarted.startedHere_later {z : (Fin 8 × Layer) × Slot} (hz : z.2 ≠ i) :
    startedHere v p z = startedHere s p z := by
  simp only [startedHere, hv.mirror_other hz, hk.sects, hv.magnitude]

theorem VoiceStarted.startWrite_later {z : (Fin 8 × Layer) × Slot} (hz : z.2 ≠ i) :
    startWrite v p r z = startWrite s p r z := by
  simp only [startWrite, hv.mirror_other hz, hk.sects, hk.frame, hv.magnitude, hv.tag]

/-- One more layer started before the others. -/
theorem layersStarted_cons (hf : s.eng.free = i :: l) (hn : (i :: l).Nodup) (h : LayersStarted v u p r xs) :
    LayersStarted s u p r (x :: xs) := by
  have hfree : v.eng.free = l := hv.free hf hn
  obtain ⟨hi, -⟩ := List.nodup_cons.mp hn
  have ⟨heng, hcounts, hqueue, _⟩ := hv
  obtain ⟨ufree, uorder, usweep, ucounts, uheld, umirror, ustarted, uqueue⟩ := h
  rw [hfree] at ufree uorder uheld umirror ustarted uqueue
  have hslots : s.eng.free.take (x :: xs).length = i :: l.take xs.length := by rw [hf]; rfl
  have hout : i ∉ l.take xs.length := fun h => hi (List.mem_of_mem_take h)
  have hlater {z : (Fin 8 × Layer) × Slot} (hz : z ∈ xs.zip (l.take xs.length)) : z.2 ≠ i :=
    fun e => hout (e ▸ (List.of_mem_zip hz).2)
  have horder : v.eng.order = s.eng.order ++ [i] := congrArg Engine.order heng
  have hsweep : v.eng.sweep = s.eng.sweep := (congrArg Engine.sweep heng).trans rfl
  have hheld : v.eng.held = (withoutSlots [i] s.eng.held).map fun y =>
    if y.pos = p then { y with voices := y.voices ++ [i] } else y := congrArg Engine.held heng
  unfold LayersStarted
  dsimp only []
  rw [hslots]
  refine ⟨?_, ?_, usweep.trans hsweep, fun k => ?_, ?_, fun j hj => ?_, fun z hz => ?_, ?_⟩
  · rw [ufree, hf]
    rfl
  · rw [uorder, horder, List.append_assoc]
    rfl
  · rw [ucounts, hcounts, if_neg (by simp)]
    by_cases hk : k = x.2.sect
    · rw [if_pos hk, List.filter_cons_of_pos (by simpa using hk.symm), List.length_cons]
      omega
    · rw [if_neg hk, List.filter_cons_of_neg (by simpa using Ne.symm hk)]
      omega
  · rw [uheld, hheld]
    exact withoutSlots_cons_voices hout p _
  · obtain ⟨hji, hj⟩ : j ≠ i ∧ j ∉ l.take xs.length := by simpa using hj
    rw [umirror j hj, hv.mirror_other hji]
  · rcases List.mem_cons.mp hz with rfl | hz
    · exact (umirror i hout).trans hv.mirror_self
    · exact (ustarted z hz).trans (hv.startedHere_later hk (hlater hz))
  · have htail : (xs.zip (l.take xs.length)).map (startWrite v p r) = (xs.zip (l.take xs.length)).map (startWrite s p r) :=
      List.map_congr_left fun z hz => hv.startWrite_later hk (hlater hz)
    refine uqueue.trans ?_
    rw [hqueue, List.append_assoc]
    exact congrArg _ (congrArg _ htail)

end Cons

theorem layersStarted_nil (s : State) (p : Pos) (r : HeldRec) : LayersStarted s s p r [] := by
  simp [LayersStarted, withoutSlots]

/-- Drops beforehand make no difference to what has started. -/
theorem LayersStarted.of_same {s v u : State} {p : Pos} {r : HeldRec} {xs : List (Fin 8 × Layer)}
    (h : LayersStarted v u p r xs) (he : v.eng = s.eng) (hv : v.voice = s.voice) (hs : v.map.sects = s.map.sects)
    (hf : v.tone.frame = s.tone.frame) : LayersStarted s u p r xs := by
  unfold LayersStarted at *
  rwa [he, hv, hs, hf] at h

section Fit

variable {s : State} {x : Fin 8 × Layer} {xs : List (Fin 8 × Layer)} (hfit : LayersFit s (x :: xs))
include hfit

/-- A layer that fits is given the head of the free list, with room to push (R103 case 1, R119). -/
theorem LayersFit.head : ∃ i l, s.eng.free = i :: l ∧ allocate s x.2.sect = .take i false ∧ GroupRoom s := by
  obtain ⟨hbudget, hfree, hqueue, hgroup⟩ := hfit
  have hb := hbudget x.2.sect
  rw [List.filter_cons_of_pos (by simp), List.length_cons] at hb
  rw [List.length_cons] at hfree hqueue
  cases hf : s.eng.free with
  | nil => simp [hf] at hfree
  | cons i l => exact ⟨i, l, rfl, allocate_free (by omega) hf, by omega, hgroup⟩

/-- The others still fit when it has started. -/
theorem LayersFit.tail {v : State} {p : Pos} {r : HeldRec} {i : Slot} {l : List Slot}
    (hv : VoiceStarted s v p r x i false) (hk : LayerKept s v) (hf : s.eng.free = i :: l) (hn : (i :: l).Nodup) :
    LayersFit v xs := by
  obtain ⟨hbudget, hfree, hqueue, -⟩ := hfit
  have hvfree := hv.free hf hn
  obtain ⟨-, hcounts, hvqueue, hjoined, -⟩ := hv
  rw [hf, List.length_cons, List.length_cons] at hfree
  rw [List.length_cons] at hqueue
  refine ⟨fun k => ?_, by rw [hvfree]; omega, by rw [hvqueue, List.length_append, List.length_singleton]; omega,
    .inr hjoined.filling.2⟩
  have hb := hbudget k
  rw [hcounts, if_neg (by simp), hk.sects]
  by_cases hx : k = x.2.sect
  · rw [List.filter_cons_of_pos (by simpa using hx.symm), List.length_cons] at hb
    rw [if_pos hx]
    omega
  · rw [List.filter_cons_of_neg (by simpa using Ne.symm hx)] at hb
    rw [if_neg hx]
    omega

end Fit

theorem VoiceStarted.dropped {s u : State} {p : Pos} {r : HeldRec} {x : Fin 8 × Layer} {i : Slot}
    (h : VoiceStarted s u p r x i false) : Dropped 0 0 0 s u := by
  obtain ⟨-, -, -, -, hcounters, hflags, hcount, hlog⟩ := h
  simp [Dropped, raisedBy_zero, hcounters, hflags, hcount, hlog]

/-- In PERFORMING the layers in range start one after another where they fit, and the others are dropped. -/
theorem runJobs_fit (k : ItemKind) (p : Pos) {r : HeldRec} (ls : List (Fin 8 × Layer)) {s : State}
    (hr : PlaysAs s.eng p r) (hop : s.ctrl.op = .performing) (hn : s.eng.free.Nodup)
    (hfit : LayersFit s (ls.filter (inRange r))) :
    ∃ u, runJobs k (layerJobs p ls) s = itemEnd k u ∧ LayersStarted s u p r (ls.filter (inRange r)) ∧
      Dropped 0 0 (ls.filter fun x => !inRange r x).length s u ∧ LayerKept s u := by
  induction ls generalizing s with
  | nil => exact ⟨s, rfl, layersStarted_nil s p r, .refl s, .refl s⟩
  | cons x ls ih =>
    cases ho : inRange r x with
    | false =>
      rw [List.filter_cons_of_neg (by simp [ho])] at hfit ⊢
      rw [List.filter_cons_of_pos (by simp [ho]), List.length_cons, Nat.add_comm]
      obtain ⟨u, hrun, hstarted, hdropped, hkept⟩ := ih (s := dropFor .range s) (by simpa using hr) (by simpa using hop)
        (by simpa using hn) (by simpa [LayersFit] using hfit)
      exact ⟨u, (runJobs_layer_range _ hr ho).trans hrun, hstarted.of_same (by simp) (by simp) (by simp) (by simp),
        (dropped_range s).trans hdropped, (layerKept_dropFor .range s).trans hkept⟩
    | true =>
      rw [List.filter_cons_of_pos ho] at hfit ⊢
      rw [List.filter_cons_of_neg (by simp [ho])]
      obtain ⟨i, l, hf, ha, hroom⟩ := hfit.head
      rw [hf] at hn
      have hv := voiceStarted_push ha hr
      have hk := layerKept_push ha hr
      obtain ⟨-, hnl⟩ := List.nodup_cons.mp hn
      obtain ⟨u, hrun, hstarted, hdropped, hkept⟩ := ih (playsAs_push ha hr) (by rw [hk.ctrl, hop])
        (by rwa [hv.free hf hn]) (hfit.tail hv hk hf hn)
      exact ⟨u, (runJobs_layer_started _ hr ho ha hop hroom).trans hrun, layersStarted_cons hv hk hf hn hstarted,
        by simpa using hv.dropped.trans hdropped, hk.trans hkept⟩

/-! ### Layers taken one after another (R102, R103, R119) -/

section Taken

variable {s : State} {p : Pos} {r : HeldRec} {x : Fin 8 × Layer}

theorem layerTaken_range (ho : inRange r x = false) : LayerTaken p r x s (dropFor .range s) := by
  refine ⟨by simp, by simp, by simp, fun _ => ⟨by simp, by simp, dropped_range s⟩, fun h => ?_⟩
  rw [ho] at h
  cases h

theorem layerTaken_dropped {reason : DropReason} (ho : inRange r x = true)
    (ha : allocate s x.2.sect = .drop reason) : LayerTaken p r x s (dropFor reason s) := by
  refine ⟨by simp, by simp, by simp, fun h => ?_, fun _ => ⟨fun hb => ?_, fun he => ?_, fun i steal ht => ?_⟩⟩
  · rw [ho] at h
    cases h
  · cases ha.symm.trans hb
    exact ⟨by simp, by simp, dropped_budget s⟩
  · cases ha.symm.trans he
    exact ⟨by simp, by simp, dropped_exhausted s⟩
  · cases ha.symm.trans ht

theorem layerTaken_started (hr : PlaysAs s.eng p r) {i : Slot} {steal : Bool} (ho : inRange r x = true)
    (ha : allocate s x.2.sect = .take i steal) (hroom : GroupRoom s) :
    LayerTaken p r x s (doPush (layerPush p r x i steal) s) := by
  have hk := layerKept_push ha hr
  refine ⟨hk.sects, hk.frame, hk.timebase, fun h => ?_, fun _ => ⟨fun hb => ?_, fun he => ?_, fun j st ht => ?_⟩⟩
  · rw [ho] at h
    cases h
  · cases ha.symm.trans hb
  · cases ha.symm.trans he
  · cases ha.symm.trans ht
    exact ⟨hroom, voiceStarted_push ha hr⟩

end Taken

/-- How the run stands when the layers of `left` have not been taken: it has ended, or the first of them would start and
finds no room, and the item waits to push it (R119). -/
def Stopped (k : ItemKind) (p : Pos) (r : HeldRec) (left : List (Fin 8 × Layer)) (u t : State) : Prop :=
  (left = [] ∧ t = itemEnd k u) ∨
  ∃ x after slot steal, left = x :: after ∧ inRange r x = true ∧ allocate u x.2.sect = .take slot steal ∧
    ¬GroupRoom u ∧ t = waitFor k (.push (layerPush p r x slot steal)) (layerJobs p after) u

/-- In PERFORMING the layers are taken one after another until all are, or one finds no room. -/
theorem runJobs_taken (k : ItemKind) (p : Pos) {r : HeldRec} (ls : List (Fin 8 × Layer)) {s : State}
    (hr : PlaysAs s.eng p r) (hop : s.ctrl.op = .performing) :
    ∃ u taken left, ls = taken ++ left ∧ LayersTaken p r taken s u ∧ LayerKept s u ∧
      Stopped k p r left u (runJobs k (layerJobs p ls) s) := by
  induction ls generalizing s with
  | nil => exact ⟨s, [], [], rfl, rfl, .refl s, .inl ⟨rfl, rfl⟩⟩
  | cons x ls ih =>
    have go {v : State} (hrun : runJobs k (layerJobs p (x :: ls)) s = runJobs k (layerJobs p ls) v)
        (ht : LayerTaken p r x s v) (hk : LayerKept s v) (hrv : PlaysAs v.eng p r) :
        ∃ u taken left, x :: ls = taken ++ left ∧ LayersTaken p r taken s u ∧ LayerKept s u ∧
          Stopped k p r left u (runJobs k (layerJobs p (x :: ls)) s) := by
      obtain ⟨u, taken, left, hls, htaken, hkept, hstop⟩ := ih hrv (by rw [hk.ctrl, hop])
      exact ⟨u, x :: taken, left, by rw [hls]; rfl, ⟨v, ht, htaken⟩, hk.trans hkept, hrun ▸ hstop⟩
    cases ho : inRange r x with
    | false => exact go (runJobs_layer_range _ hr ho) (layerTaken_range ho) (layerKept_dropFor _ s) (by simpa using hr)
    | true =>
      cases ha : allocate s x.2.sect with
      | drop reason =>
        exact go (runJobs_layer_dropped _ hr ho ha) (layerTaken_dropped ho ha) (layerKept_dropFor _ s)
          (by simpa using hr)
      | take i steal =>
        by_cases hroom : GroupRoom s
        · exact go (runJobs_layer_started _ hr ho ha hop hroom) (layerTaken_started hr ho ha hroom)
            (layerKept_push ha hr) (playsAs_push ha hr)
        · exact ⟨s, [], x :: ls, rfl, rfl, .refl s, .inr ⟨x, ls, i, steal, rfl, ho, ha, hroom,
            runJobs_layer_waits _ hr ho ha hop hroom⟩⟩

end Sys2Proof.Machine
end

section
/-! PROOFS. PROGRAM_FETCH_LANDS (R72, R73, R84, R97, R98, R102, R103, R104, R105, R138, R141). -/

namespace Sys2Proof.Machine

/-! ### The state in which a program is handed over -/

/-- The blocks that a layer looks at and changes are as they were. -/
structure SameVoicing (s v : State) : Prop where
  eng : v.eng = s.eng
  voice : v.voice = s.voice
  sects : v.map.sects = s.map.sects
  tone : v.tone = s.tone
  timebase : v.timebase = s.timebase
  ctrl : v.ctrl = s.ctrl
  stat : v.stat = s.stat

theorem SameVoicing.refl (s : State) : SameVoicing s s := ⟨rfl, rfl, rfl, rfl, rfl, rfl, rfl⟩

section SameVoicing

variable {s v u : State} (h : SameVoicing s v) {p : Pos} {r : HeldRec}
include h

theorem SameVoicing.allocate (k : SectNo) : allocate v k = allocate s k := by
  simp only [Machine.allocate, h.eng, h.voice, h.sects]

theorem SameVoicing.layerTaken {x : Fin 8 × Layer} (ht : LayerTaken p r x v u) : LayerTaken p r x s u := by
  unfold LayerTaken at *
  rw [h.allocate] at ht
  unfold VoiceStarted GroupJoined GroupRoom Dropped at *
  rwa [h.eng, h.voice, h.sects, h.tone, h.timebase, h.stat] at ht

/-- The layers taken from the one state are those taken from the other. -/
theorem SameVoicing.layersTaken {ls : List (Fin 8 × Layer)} (ht : LayersTaken p r ls v u) :
    ∃ w, LayersTaken p r ls s w ∧ SameVoicing w u := by
  cases ls with
  | nil => exact ⟨s, rfl, (show u = v from ht) ▸ h⟩
  | cons x xs =>
    obtain ⟨w, hw, hrest⟩ := ht
    exact ⟨u, ⟨w, h.layerTaken hw, hrest⟩, .refl u⟩

theorem SameVoicing.droppedFor (ls : List (Fin 8 × Layer)) (reason : DropReason) :
    droppedFor v r ls reason = droppedFor s r ls reason := by
  simp only [Machine.droppedFor, h.allocate]

theorem SameVoicing.dropped {b e n : Nat} (hd : Dropped b e n v u) : Dropped b e n s u := by
  unfold Dropped at *
  rwa [h.stat] at hd

theorem SameVoicing.groupRoom : GroupRoom v ↔ GroupRoom s := by
  unfold GroupRoom
  rw [h.voice]

end SameVoicing

/-! ### What the layers of a program come to -/

section Played

variable {i : Instr} {s v : State} {k : ItemKind} {p : Pos} {r : HeldRec} {ls : List (Fin 8 × Layer)}

/-- The end of an item that voices a record (R136). -/
theorem itemEnd_voices (hk : Voices k p) (s : State) :
    (itemEnd k s).eng = { s.eng with item := none, revWalk := placeAfter k s.eng } := by
  obtain ⟨hh, hsweep⟩ := voices_ne_hush hk
  rw [itemEnd_eng hh, hsweep]

/-- No group is filling once an item has ended (R117). -/
theorem itemEnd_not_filling (hk : Voices k p) (s : State) : ∀ g ∈ (itemEnd k s).voice.groups, g.filling = false := by
  rw [itemEnd_groups (voices_ne_hush hk).1]
  intro g hg
  obtain ⟨y, -, rfl⟩ := List.mem_map.mp (List.mem_of_mem_filter hg)
  rfl

theorem itemEnd_nextTag (hk : Voices k p) (s : State) : (itemEnd k s).voice.nextTag = s.voice.nextTag := by
  rw [itemEnd, (afterItem_rest (voices_ne_hush hk).1 _).1]
  simp [endFilling, closeGroups]

theorem LayerKept.placeAfter {u : State} (h : LayerKept s u) (k : ItemKind) : placeAfter k u.eng = placeAfter k s.eng :=
  placeAfter_of_pos k h.revWalk h.places

variable (hexec : exec i s = .next (chooseFetch (runJobs k (layerJobs p ls) v))) (hs : SameVoicing s v)
  (hk : Voices k p) (hr : findRec s.eng p = some r)
include hexec hs hk hr

/-- The layers that fit start, and the others are dropped (R98, R102, R103). -/
theorem played_fit (hslot : SlotLaw s) (hop : s.ctrl.op = .performing) (hfit : LayersFit s (ls.filter (inRange r))) :
    ∃ t, exec i s = .next t ∧ t.eng.item = none ∧ t.eng.revWalk = placeAfter k s.eng ∧
      LayersStarted s t p r (ls.filter (inRange r)) ∧ Dropped 0 0 (ls.filter fun x => !inRange r x).length s t := by
  obtain ⟨⟨hperm, -, -⟩, -⟩ := hslot
  have hn : s.eng.free.Nodup := (List.nodup_append.mp (hperm.nodup_iff.mpr (List.nodup_finRange 64))).1
  obtain ⟨u, hrun, hstarted, hdropped, hkept⟩ := runJobs_fit k p ls (s := v)
    (by rw [hs.eng]; exact playsAs_of_findRec hr) (by rw [hs.ctrl, hop]) (by rwa [hs.eng])
    (by unfold LayersFit; rw [hs.eng, hs.voice, hs.sects]; exact hfit)
  have hstat := itemEnd_stat (voices_ne_hush hk).1 u
  rw [hrun] at hexec
  refine ⟨_, hexec, ?_, ?_, ?_, ?_⟩
  · rw [chooseFetch_eng, itemEnd_voices hk]
  · rw [chooseFetch_eng, itemEnd_voices hk, ← hs.eng, ← hkept.placeAfter]
  · have hstarted := hstarted.of_same hs.eng hs.voice hs.sects (by rw [hs.tone])
    unfold LayersStarted at *
    rwa [chooseFetch_eng, chooseFetch_voice, itemEnd_queue, itemEnd_voices hk]
  · exact (hs.dropped hdropped).congr (by simp [hstat]) (by simp [hstat]) (by simp [hstat]) (by simp [hstat])

/-- The layers are taken one after another (R102, R103, R104, R119). -/
theorem played_taken (hop : s.ctrl.op = .performing) :
    ∃ t u taken left, exec i s = .next t ∧ ls = taken ++ left ∧ LayersTaken p r taken s u ∧
      t.voice.queue = u.voice.queue ∧ t.stat.counters = u.stat.counters ∧ t.stat.flags = u.stat.flags ∧
      t.stat.faultCount = s.stat.faultCount ∧ t.stat.faultLog = s.stat.faultLog ∧ t.map.sects = s.map.sects ∧
      ((left = [] ∧ t.eng = { u.eng with item := none, revWalk := placeAfter k s.eng } ∧
          t.voice.nextTag = u.voice.nextTag ∧ ∀ g ∈ t.voice.groups, g.filling = false) ∨
        ∃ x after slot steal, left = x :: after ∧ inRange r x = true ∧ allocate u x.2.sect = .take slot steal ∧
          ¬GroupRoom u ∧ t.voice = u.voice ∧ t.eng = { u.eng with item := some {
            kind := k, wait := .push (.full p slot steal x.2 x.1 r.dir)
            jobs := after.map fun y => .layer p y.1 y.2 } }) := by
  obtain ⟨u, taken, left, hls, htaken, hkept, hstop⟩ := runJobs_taken k p ls (s := v)
    (by rw [hs.eng]; exact playsAs_of_findRec hr) (by rw [hs.ctrl, hop])
  obtain ⟨w, hw, hwu⟩ := hs.layersTaken htaken
  have hcount : u.stat.faultCount = s.stat.faultCount := by rw [hkept.faultCount, hs.stat]
  have hlog : u.stat.faultLog = s.stat.faultLog := by rw [hkept.faultLog, hs.stat]
  have hsects : u.map.sects = s.map.sects := hkept.sects.trans hs.sects
  refine ⟨_, w, taken, left, hexec, hls, hw, ?_⟩
  rcases hstop with ⟨hleft, hrun⟩ | ⟨x, after, slot, steal, hleft, ho, ha, hroom, hrun⟩
  · have hstat := itemEnd_stat (voices_ne_hush hk).1 u
    have hplace : placeAfter k u.eng = placeAfter k s.eng := by rw [hkept.placeAfter, hs.eng]
    have hmap := (runKept_itemEnd (voices_ne_hush hk).1 u).sects
    rw [hrun]
    simp only [chooseFetch_voice, chooseFetch_stat, chooseFetch_eng, chooseFetch_sects, itemEnd_queue, hstat, hmap]
    refine ⟨by rw [hwu.voice], by rw [hwu.stat], by rw [hwu.stat], hcount, hlog, hsects, .inl ⟨hleft, ?_, ?_,
      itemEnd_not_filling hk u⟩⟩
    · rw [itemEnd_voices hk, hplace, hwu.eng]
    · rw [itemEnd_nextTag hk, hwu.voice]
  · rw [hrun]
    simp only [chooseFetch_voice, chooseFetch_stat, chooseFetch_eng, chooseFetch_sects, waitFor_voice, waitFor_stat,
      waitFor_map]
    refine ⟨by rw [hwu.voice], by rw [hwu.stat], by rw [hwu.stat], hcount, hlog, hsects, .inr ⟨x, after, slot, steal,
      hleft, ho, hwu.allocate _ ▸ ha, mt hwu.groupRoom.mpr hroom, hwu.voice, ?_⟩⟩
    rw [← hwu.eng]
    rfl

/-- Layers that are all dropped end the item with no write, and so does one that would start outside PERFORMING after
them (R102, R105). -/
theorem played_dropped {out rest : List (Fin 8 × Layer)} (hls : ls = out ++ rest)
    (hout : ∀ x ∈ out, DroppedHere s r x)
    (hrest : ∀ u, u.eng = v.eng → u.voice = v.voice → u.map = v.map → u.ctrl = v.ctrl →
      runJobs k (layerJobs p rest) u = itemEnd k u) :
    ∃ t, exec i s = .next t ∧ t.eng = { s.eng with item := none, revWalk := placeAfter k s.eng } ∧
      t.voice.queue = s.voice.queue ∧
      Dropped (droppedFor s r out .budget) (droppedFor s r out .exhausted) (out.filter fun x => !inRange r x).length s t := by
  obtain ⟨u, hrun, heng, hvoice, hmap, hctrl, hdropped⟩ := runJobs_drops k p (layerJobs p rest) out (s := v) (r := r)
    (by rw [hs.eng]; exact playsAs_of_findRec hr) fun x hx => by
      unfold DroppedHere
      rw [hs.allocate]
      exact hout x hx
  have hjobs : layerJobs p ls = layerJobs p out ++ layerJobs p rest := by rw [hls, layerJobs, List.map_append]; rfl
  have hstat := itemEnd_stat (voices_ne_hush hk).1 u
  rw [hjobs, hrun, hrest u heng hvoice hmap hctrl] at hexec
  rw [hs.droppedFor, hs.droppedFor] at hdropped
  refine ⟨_, hexec, ?_, ?_, ?_⟩
  · rw [chooseFetch_eng, itemEnd_voices hk, heng, hs.eng]
  · rw [chooseFetch_voice, itemEnd_queue, hvoice, hs.voice]
  · exact (hs.dropped hdropped).congr (by simp [hstat]) (by simp [hstat]) (by simp [hstat]) (by simp [hstat])

/-- The layers of a program are played. -/
theorem layersPlayed_of_run : LayersPlayed i s k p r ls := by
  refine ⟨played_fit hexec hs hk hr, played_taken hexec hs hk hr, fun hout => ?_,
    fun out x rest slot steal hop hls hout ho ha => ?_⟩
  · exact played_dropped hexec hs hk hr (out := ls) (rest := []) (by simp) hout fun u _ _ _ _ => rfl
  · refine played_dropped hexec hs hk hr (rest := x :: rest) hls hout fun u heng hvoice hmap hctrl => ?_
    have hu : allocate u x.2.sect = .take slot steal := by
      rw [← ha, ← hs.allocate]
      simp only [allocate, heng, hvoice, hmap]
    refine runJobs_layer_ended (r := r) _ ?_ ho hu (by rwa [hctrl, hs.ctrl])
    rw [heng, hs.eng]
    exact playsAs_of_findRec hr

end Played

end Sys2Proof.Machine
end

section
/-! PROOFS. PROGRAM_FETCH_LANDS, by the layer count and by who waits for the program (R72, R73, R84, R97). -/

namespace Sys2Proof.Machine

/-! ### The answers of RAM, by the layer count (R72, R73, R84) -/

/-- The state once a program fetch has ended. -/
def programEnded (s : State) (a : Access) (isError : Bool) : State := endFetch (landed s a isError)

theorem sameVoicing_programEnded (s : State) (a : Access) : SameVoicing s (programEnded s a false) := by
  constructor <;> rfl

theorem standing_programEnded (s : State) (a : Access) (isError : Bool) : Standing s (programEnded s a isError) := by
  constructor <;> cases isError <;> simp [programEnded, endFetch, landed, freePort]

/-- The word address of a program (12.7). -/
def programAddr (s : State) (n : ProgNo) : Addr := s.ctrl.copy.programs + BitVec.ofNat 24 (64 * n.val)

/-- The state once a program with too many layers has been logged. -/
def programBad (s : State) (a : Access) (n : ProgNo) : State :=
  logFault .badProgram .bridge (programAddr s n) (programEnded s a false)

section Landing

variable {s : State} {a : Access} {f : Fetch} {n : ProgNo} (h : Carries s (.fetch (.program n)) a)
  (hf : s.map.fetch = some f)
include h

theorem exec_programFetchLands (x : RamAnswer) :
    exec (.programFetchLands x) s = .next (programLanded x n (landed s a x.failed)) := by
  refine congrArg Host.Outcome.next ((landing_of_carries h rfl _ _).trans ?_)
  rw [h.2.1]
  rfl

include hf

/-- A failed read of either access acts as an absent program. -/
theorem exec_program_failed : exec (.programFetchLands .error) s =
    .next (chooseFetch (deliverProgram [] (programEnded s a true))) := by
  rw [exec_programFetchLands h, programLanded, landed_map, hf]
  rfl

/-- The second access hands on the words of both. -/
theorem exec_program_second {first : Tbl 8 Word} (h1 : f.first = some first) (w : Tbl 8 Word) :
    exec (.programFetchLands (.done w)) s = .next (chooseFetch (deliverProgram
      (layersOf (first.cells ++ [w.get 0]) (layerCount ((first.cells ++ [w.get 0]).getD 0 0)))
      (programEnded s a false))) := by
  rw [exec_programFetchLands h, programLanded, landed_map, hf]
  dsimp only []
  rw [h1]
  rfl

/-- Up to seven layers are handed on from the words of the first access. -/
theorem exec_program_few (h1 : f.first = none) {w : Tbl 8 Word} (hc : layerCount (w.get 0) ≤ 7) :
    exec (.programFetchLands (.done w)) s = .next (chooseFetch (deliverProgram
      (layersOf w.cells (layerCount (w.cells.getD 0 0))) (programEnded s a false))) := by
  rw [exec_programFetchLands h, programLanded, landed_map, hf]
  dsimp only []
  rw [h1]
  dsimp only []
  rw [if_pos hc]
  rfl

/-- Eight layers ask for word 8. -/
theorem exec_program_more (h1 : f.first = none) {w : Tbl 8 Word} (hc : layerCount (w.get 0) = 8) :
    exec (.programFetchLands (.done w)) s = .next { s with
      arb := { s.arb with access := none }, map := { s.map with fetch := some { f with first := some w } } } := by
  rw [exec_programFetchLands h, programLanded, landed_map, hf]
  dsimp only []
  rw [h1]
  dsimp only []
  rw [if_neg (by omega), if_pos hc]
  rfl

/-- More are a bad program, which acts as an absent one. -/
theorem exec_program_bad (h1 : f.first = none) {w : Tbl 8 Word} (hc : 9 ≤ layerCount (w.get 0)) :
    exec (.programFetchLands (.done w)) s = .next (chooseFetch (deliverProgram [] (programBad s a n))) := by
  rw [exec_programFetchLands h, programLanded, landed_map, hf]
  dsimp only []
  rw [h1]
  dsimp only []
  rw [if_neg (by omega), if_neg (by omega)]
  rfl

end Landing

/-! ### The layers of the words read (R72) -/

theorem getD_cells_zero (t : Tbl 8 Word) : t.cells.getD 0 0 = t.get 0 := by
  rw [List.getD_eq_getElem _ _ (by rw [t.size]; omega)]
  rfl

theorem layersOf_first (w : Tbl 8 Word) (n : Nat) : layersOf w.cells n =
    ((List.finRange 8).take n).map fun i => (i, layerOf (w.get 0) ((w.cells.drop 1).getD i.val 0) i) := by
  unfold layersOf
  rw [getD_cells_zero]
  refine List.map_congr_left fun i _ => ?_
  simp [List.getD_eq_getElem?_getD]

theorem layersOf_second (first : Tbl 8 Word) (w : Word) : layersOf (first.cells ++ [w]) 8 =
    (List.finRange 8).map fun i => (i, layerOf (first.get 0) ((first.cells.drop 1 ++ [w]).getD i.val 0) i) := by
  have hzero : (first.cells ++ [w]).getD 0 0 = first.get 0 := by
    rw [List.getD_append _ _ _ _ (by rw [first.size]; omega), getD_cells_zero]
  have hdrop : first.cells.drop 1 ++ [w] = (first.cells ++ [w]).drop 1 :=
    (List.drop_append_of_le_length (by rw [first.size]; omega)).symm
  unfold layersOf
  rw [hzero, hdrop, List.take_of_length_le (by simp)]
  refine List.map_congr_left fun i _ => ?_
  simp [List.getD_eq_getElem?_getD]

/-! ### The item that waits for the program (R73, R102) -/

section Waiting

variable {s u : State} {k : ItemKind} {p : Pos} {js : List Job}

theorem deliverProgram_waited (ls : List (Fin 8 × Layer))
    (h : u.eng.item = some { kind := k, wait := .program p, jobs := js }) :
    deliverProgram ls u = runJobs k (layerJobs p ls) u := by
  rw [deliverProgram, h]
  rfl

/-- An absent program ends the item (R73). -/
theorem program_absent (hk : Voices k p) (hi : s.eng.item = some { kind := k, wait := .program p, jobs := js })
    (heng : u.eng = s.eng) (hvoice : u.voice = s.voice) :
    (chooseFetch (deliverProgram [] u)).eng = { s.eng with item := none, revWalk := placeAfter k s.eng } ∧
    (chooseFetch (deliverProgram [] u)).voice.queue = s.voice.queue ∧
    (chooseFetch (deliverProgram [] u)).stat = u.stat := by
  have hrun : deliverProgram [] u = itemEnd k u := deliverProgram_waited [] (heng ▸ hi)
  rw [hrun, chooseFetch_eng, chooseFetch_voice, chooseFetch_stat, itemEnd_voices hk, itemEnd_queue, heng, hvoice,
    itemEnd_stat (voices_ne_hush hk).1]
  exact ⟨rfl, rfl, rfl⟩

end Waiting

/-! ### An answer awaited for discard (R97) -/

/-- A program whose answer is awaited for discard reaches the engine as an entry would that is. -/
theorem deliverProgram_discarded (ls : List (Fin 8 × Layer)) {u : State}
    (h : ∀ k js p, u.eng.item ≠ some { kind := k, wait := .program p, jobs := js })
    (h' : ∀ k js b p, u.eng.item ≠ some { kind := k, wait := .entry b p, jobs := js }) (b : Bank) (p : Pos)
    (e : EntrySnap) : deliverProgram ls u = deliverEntry b p e u := by
  unfold deliverProgram deliverEntry
  cases hi : u.eng.item with
  | none => rfl
  | some it =>
    obtain ⟨k, w, js⟩ := it
    cases w with
    | program q => exact absurd hi (h k js q)
    | entry c q => exact absurd hi (h' k js c q)
    | push | turnEntry | turnProgram => rfl

theorem discarded_program {s u : State} (h : Standing s u) (hc : u.map.cache = s.map.cache)
    (ls : List (Fin 8 × Layer)) : Discarded s (chooseFetch (deliverProgram ls u)) s.map.cache := by
  have hitem := item_of_standing h
  have key (hp : ∀ k js p, s.eng.item ≠ some { kind := k, wait := .program p, jobs := js })
      (he : ∀ k js b p, s.eng.item ≠ some { kind := k, wait := .entry b p, jobs := js }) :
      Discarded s (chooseFetch (deliverProgram ls u)) s.map.cache := by
    rw [deliverProgram_discarded ls (by rwa [hitem]) (by rwa [hitem]) .bankA 0 EntrySnap.none, ← hc]
    exact discarded_delivered h
  cases hi : s.eng.item with
  | none => exact key (by simp [hi]) (by simp [hi])
  | some it =>
    obtain ⟨k, w, js⟩ := it
    cases w with
    | push | turnEntry | turnProgram => exact key (by simp [hi]) (by simp [hi])
    | program | entry =>
      refine ⟨fun h => ?_, fun _ _ _ h => ?_, fun _ _ _ _ h => ?_⟩
      all_goals simp [hi] at h

theorem deliverProgram_kept (ls : List (Fin 8 × Layer)) {u : State}
    (h : u.eng.item = none ∨ ∃ it pu, u.eng.item = some it ∧ it.wait = .push pu) :
    deliverProgram ls u = discardOver u := by
  rw [← deliverEntry_kept (b := .bankA) (p := 0) (e := EntrySnap.none) h]
  refine deliverProgram_discarded ls (fun k js p hi => ?_) (fun k js b p hi => ?_) _ _ _
  all_goals
    rcases h with h | ⟨it, pu, h, hw⟩
    · simp [hi] at h
    · cases hi.symm.trans h
      cases hw

/-- What the landing of a program fetch logs (R40, R73, R84). -/
def ProgramLogged (s u : State) (x : RamAnswer) (f : Fetch) (a : Access) (n : ProgNo) : Prop :=
  (x = .error → FaultLogged .memoryError .bridge a.req.start s u) ∧
  (∀ w, x = .done w → f.first = none → 9 ≤ layerCount (w.get 0) →
    FaultLogged .badProgram .bridge (programAddr s n) s u) ∧
  (∀ w, x = .done w → f.first ≠ none ∨ layerCount (w.get 0) ≤ 7 → StatusKept s u)

theorem ProgramLogged.trans_kept {s t u : State} {x : RamAnswer} {f : Fetch} {a : Access} {n : ProgNo}
    (h : ProgramLogged s t x f a n) (hk : StatusKept t u) : ProgramLogged s u x f a n := by
  obtain ⟨herr, hbad, hgood⟩ := h
  exact ⟨fun hx => (herr hx).trans_kept hk, fun w hx hf hc => (hbad w hx hf hc).trans_kept hk,
    fun w hx hc => (hgood w hx hc).trans hk⟩

theorem programLogged_failed {s : State} {a : Access} {n : ProgNo} (h : Carries s (.fetch (.program n)) a) (f : Fetch) :
    ProgramLogged s (programEnded s a true) .error f a n := by
  have hlog := (landed_logged s h.2.1).trans_kept (u := programEnded s a true) (.of_stat rfl)
  unfold ProgramLogged
  exact ⟨fun _ => hlog, by simp, by simp⟩

theorem programLogged_played {s : State} {a : Access} {n : ProgNo} {f : Fetch} {w : Tbl 8 Word}
    (h : f.first = none → layerCount (w.get 0) ≤ 7) : ProgramLogged s (programEnded s a false) (.done w) f a n := by
  refine ⟨by simp, fun v hv hn hc => ?_, fun v _ _ => .of_stat rfl⟩
  cases hv
  have := h hn
  omega

theorem programLogged_bad (s : State) (a : Access) (n : ProgNo) {f : Fetch} {w : Tbl 8 Word} (hn : f.first = none)
    (hc : 9 ≤ layerCount (w.get 0)) : ProgramLogged s (programBad s a n) (.done w) f a n := by
  have hlog : FaultLogged .badProgram .bridge (programAddr s n) s (programBad s a n) :=
    (logFault_logged .badProgram .bridge _ _).of_kept (.of_stat rfl)
  refine ⟨by simp, fun v _ _ _ => hlog, fun v hv hno => ?_⟩
  cases hv
  have := hno.resolve_left (by simp [hn])
  omega

theorem standing_programBad (s : State) (a : Access) (n : ProgNo) : Standing s (programBad s a n) := by
  constructor <;> simp [programBad, programEnded, endFetch, landed, freePort]

/-- What an answer that ends a program fetch hands over, whoever waits for it. -/
theorem exec_program_handed {s : State} {a : Access} {f : Fetch} {n : ProgNo} {x : RamAnswer}
    (h : Carries s (.fetch (.program n)) a) (hf : s.map.fetch = some f)
    (hx : x = .error ∨ f.first ≠ none ∨ ∃ w, x = .done w ∧ layerCount (w.get 0) ≠ 8) :
    ∃ ls u, exec (.programFetchLands x) s = .next (chooseFetch (deliverProgram ls u)) ∧ Standing s u ∧
      u.map.cache = s.map.cache ∧ ProgramLogged s u x f a n := by
  cases x with
  | error =>
    exact ⟨_, _, exec_program_failed h hf, standing_programEnded s a true, by simp [programEnded, endFetch],
      programLogged_failed h f⟩
  | done w =>
    cases h1 : f.first with
    | some first =>
      exact ⟨_, _, exec_program_second h hf h1 w, standing_programEnded s a false, rfl,
        programLogged_played (by simp [h1])⟩
    | none =>
      have hc : layerCount (w.get 0) ≠ 8 := by simpa [h1] using hx
      by_cases hfew : layerCount (w.get 0) ≤ 7
      · exact ⟨_, _, exec_program_few h hf h1 hfew, standing_programEnded s a false, rfl,
          programLogged_played fun _ => hfew⟩
      · exact ⟨_, _, exec_program_bad h hf h1 (by omega), standing_programBad s a n,
          by simp [programBad, programEnded, endFetch], programLogged_bad s a n h1 (by omega)⟩

/-! ### One layer (R98, R103, R104) -/

/-- The one layer of a program that has room starts its voice, and its item ends. -/
theorem LayersPlayed.one {i : Instr} {s : State} {k : ItemKind} {p : Pos} {r : HeldRec} {x : Fin 8 × Layer} {j : Slot}
    {steal : Bool} (h : LayersPlayed i s k p r [x]) (hop : s.ctrl.op = .performing) (ho : inRange r x = true)
    (ha : allocate s x.2.sect = .take j steal) (hroom : GroupRoom s) :
    ∃ t u, exec i s = .next t ∧ VoiceStarted s u p r x j steal ∧
      t.eng = { u.eng with item := none, revWalk := placeAfter k s.eng } ∧ t.voice.queue = u.voice.queue ∧
      t.stat.counters = u.stat.counters := by
  obtain ⟨-, htaken, -⟩ := h
  obtain ⟨t, u, taken, left, hexec, hls, htaken, hqueue, hcounters, -, -, -, -, hend⟩ := htaken hop
  cases taken with
  | nil =>
    have hu : u = s := htaken
    rcases hend with ⟨rfl, -⟩ | ⟨y, after, slot, st, -, -, -, hno, -⟩
    · cases hls
    · exact absurd (hu ▸ hroom) hno
  | cons y taken =>
    obtain ⟨rfl, hnil⟩ := List.cons.inj hls
    obtain ⟨rfl, rfl⟩ := List.append_eq_nil_iff.mp hnil.symm
    obtain ⟨v, ⟨-, -, -, -, hstart⟩, rfl⟩ := htaken
    obtain ⟨-, -, hstart⟩ := hstart ho
    obtain ⟨-, hstart⟩ := hstart j steal ha
    rcases hend with ⟨-, heng, -⟩ | ⟨y, after, slot, st, hleft, -⟩
    · exact ⟨t, u, hexec, hstart, heng, hqueue, hcounters⟩
    · cases hleft

/-- The slot that a voice takes leaves whichever list held it for the tail of the sounding order (R90). -/
theorem VoiceStarted.order {s u : State} {p : Pos} {r : HeldRec} {x : Fin 8 × Layer} {i : Slot} {steal : Bool}
    (h : VoiceStarted s u p r x i steal) (hslot : SlotLaw s) (ha : allocate s x.2.sect = .take i steal) :
    u.eng.order = s.eng.order.filter (fun j => decide (j ≠ i)) ++ [i] := by
  obtain ⟨heng, -⟩ := h
  have hi := mem_of_allocate ha
  rw [heng]
  cases steal with
  | true => rfl
  | false => exact congrArg (· ++ [i]) (hslot.filter_other.2 hi).symm

/-- A program of up to seven layers is played from the words of its first access. -/
theorem layersPlayed_few {s : State} {a : Access} {f : Fetch} {n : ProgNo} {w : Tbl 8 Word} {k : ItemKind} {p : Pos}
    {js : List Job} {r : HeldRec} (h : Carries s (.fetch (.program n)) a) (hf : s.map.fetch = some f)
    (h1 : f.first = none) (hc : layerCount (w.get 0) ≤ 7) (hk : Voices k p)
    (hi : s.eng.item = some { kind := k, wait := .program p, jobs := js }) (hr : findRec s.eng p = some r) :
    LayersPlayed (.programFetchLands (.done w)) s k p r (((List.finRange 8).take (layerCount (w.get 0))).map fun i =>
      (i, layerOf (w.get 0) ((w.cells.drop 1).getD i.val 0) i)) := by
  have hexec := exec_program_few h hf h1 hc
  rw [getD_cells_zero, layersOf_first, deliverProgram_waited (u := programEnded s a false) _ hi] at hexec
  exact layersPlayed_of_run hexec (sameVoicing_programEnded s a) hk hr

theorem map_take_one_finRange {α : Type} (g : Fin 8 → α) : ((List.finRange 8).take 1).map g = [g 0] := by
  simp [List.finRange_succ]

theorem getD_drop_one (w : Tbl 8 Word) : (w.cells.drop 1).getD ((0 : Fin 8) : Nat) 0 = w.get 1 := by
  have hsize := w.size
  rw [List.getD_eq_getElem _ _ (by simp [hsize]), List.getElem_drop]
  rfl

/-- Settles O41: what is handed over by the layer count, and what the item that waits makes of it. -/
theorem programsAreHandedOverByTheirCount : Obligations.ProgramsAreHandedOverByTheirCount := by
  intro s a f n h hf
  have hsame := sameVoicing_programEnded s a
  refine ⟨fun w h1 hc => exec_program_more h hf h1 hc, fun k p js w hk hi => ⟨?_, fun r first h1 hc hr => ?_,
    fun h1 => ⟨fun hc => ?_, fun hc => ?_, fun r _ hc hr => ?_, fun hc r i steal => ?_⟩⟩, fun hd x hx => ?_⟩
  · obtain ⟨heng, hqueue, hstat⟩ := program_absent (u := programEnded s a true) hk hi (by simp [programEnded])
      (by simp [programEnded])
    obtain ⟨hlog, -⟩ := programLogged_failed h f
    exact ⟨_, exec_program_failed h hf, (hlog rfl).trans_kept (.of_stat hstat), heng, hqueue⟩
  · have hcount : layerCount ((first.cells ++ [w.get 0]).getD 0 0) = 8 := by
      rw [List.getD_append _ _ _ _ (by rw [first.size]; omega), getD_cells_zero, hc]
    have hexec := exec_program_second h hf h1 w
    rw [hcount, layersOf_second, deliverProgram_waited (u := programEnded s a false) _ hi] at hexec
    exact layersPlayed_of_run hexec hsame hk hr
  · obtain ⟨heng, hqueue, hstat⟩ := program_absent (u := programBad s a n) hk hi (by simp [programBad, programEnded])
      (by simp [programBad, programEnded])
    obtain ⟨-, hlog, -⟩ := programLogged_bad s a n h1 hc
    exact ⟨_, exec_program_bad h hf h1 hc, (hlog w rfl h1 hc).trans_kept (.of_stat hstat), heng, hqueue⟩
  · have hexec := exec_program_few h hf h1 (w := w) (by omega)
    rw [getD_cells_zero, hc] at hexec
    obtain ⟨heng, hqueue, hstat⟩ := program_absent (u := programEnded s a false) hk hi rfl rfl
    exact ⟨_, hexec, heng, hqueue, hstat⟩
  · exact layersPlayed_few h hf h1 hc hk hi hr
  · intro l pitch lvl hslot hop hr hp0 hp127 ha hq hg
    have hplayed := layersPlayed_few h hf h1 (w := w) (by omega) hk hi hr
    rw [hc, map_take_one_finRange, getD_drop_one] at hplayed
    obtain ⟨t, u, hexec, hstart, heng, hqueue, hcounters⟩ := LayersPlayed.one (x := (0, l)) hplayed hop
      (decide_eq_true ⟨hp0, hp127⟩) ha ⟨hq, hg⟩
    have horder := hstart.order hslot ha
    obtain ⟨hu, -, hpushed, -, hsteals, -⟩ := hstart
    refine ⟨t, hexec, by rw [heng], by rw [heng], ?_, fun j hj => ?_, ?_, ?_, ?_, ?_⟩
    · rw [heng, hu]
      exact Tbl.get_set_same _ _ _
    · rw [heng, hu]
      exact Tbl.get_set_other _ _ (Ne.symm hj)
    · rw [heng]
      exact horder
    · rw [heng, hu]
    · exact ⟨_, hqueue.trans hpushed, rfl, rfl, rfl⟩
    · rw [hcounters, hsteals]
  · obtain ⟨ls, u, hexec, hstand, hcache, hlog⟩ := exec_program_handed h hf hx
    refine ⟨_, hexec, discarded_program hstand hcache ls, fun hi => ?_⟩
    rw [deliverProgram_kept ls (item_of_standing hstand ▸ hi)]
    exact hlog.trans_kept (StatusKept.trans (.of_stat rfl) (statusKept_chooseFetch _))

end Sys2Proof.Machine
end

section
/-! PROOFS. Work selection follows the table of R95 (R95, R111). -/

namespace Sys2Proof.Machine

/-! ### Work selection as a search of the table -/

/-- The table of R95, from the first rank to the last. -/
def workOrder : List Sel :=
  [.hush, .releaseAll, .takeReversal, .reversalStep, .expiry, .press, .release, .sustainStep, .restrikeStep, .takeLevel,
    .sweepStep]

theorem mem_workOrder (x : Sel) : x ∈ workOrder := by cases x <;> decide

/-- What stands before an item in the table has a lower rank, but for a press, which shares its rank with a release. -/
theorem before_iff (x y : Sel) : y ∈ workOrder.takeWhile (fun z => decide (z ≠ x)) ↔
    y.rank < x.rank ∨ (y = .press ∧ x = .release) := by
  cases x <;> cases y <;> decide

/-- Whether an item is available (R95). -/
def available (s : State) : Sel → Bool
  | .hush => decide (s.eng.hushPending ≠ .clear)
  | .releaseAll => s.eng.releaseAll
  | .takeReversal => s.bellows.revNotice.isSome
  | .reversalStep => s.eng.revWalk.isSome
  | .expiry => decide (s.eng.pendingFrames ≠ 0)
  | .press => s.scan.events.head?.any fun ev => ev.isPress
  | .release => s.scan.events.head?.any fun ev => !ev.isPress
  | .sustainStep => s.eng.sustainWalk
  | .restrikeStep => s.eng.restrikeWalk
  | .takeLevel => s.bellows.levelNotice.isSome
  | .sweepStep => s.eng.sweep.isSome

theorem head_isPress_iff (b : Bool) (l : List ButtonEvent) :
    (l.head?.any fun ev => ev.isPress == b) = true ↔ ∃ p evs, l = { isPress := b, pos := p } :: evs := by
  constructor
  · intro h
    match l, h with
    | ⟨b', p⟩ :: evs, h =>
      have hb : b' = b := by simpa using h
      exact ⟨p, evs, by rw [hb]⟩
  · rintro ⟨p, evs, rfl⟩
    simp

theorem available_iff (s : State) (x : Sel) : available s x = true ↔ Available s x := by
  cases x with
  | press => simpa [available, Available] using head_isPress_iff true s.scan.events
  | release => simpa [available, Available] using head_isPress_iff false s.scan.events
  | expiry => simp [available, Available, Nat.pos_iff_ne_zero]
  | hush | releaseAll | takeReversal | reversalStep | sustainStep | restrikeStep | takeLevel | sweepStep =>
    simp [available, Available, Option.isSome_iff_ne_none]

/-- The next event is not a press and a release. -/
theorem press_of_release {s : State} (h : available s .release = true) : available s .press = false := by
  obtain ⟨p, evs, he⟩ := (available_iff s .release).mp h
  simp [available, he]

/-- The engine is idle in a state that lets items arise (R95, R111). -/
def Selects (s : State) : Prop := s.eng.item = none ∧ s.ctrl.op.working = true

theorem working_iff (o : OpState) : o.working = true ↔ o = .transparent ∨ o = .performing ∨ o = .settling := by
  cases o <;> simp [OpState.working]

theorem nextItem_of_not_selects {s : State} (h : ¬Selects s) : nextItem s = none := by
  unfold nextItem
  rw [if_pos]
  simp only [Selects, not_and, Bool.not_eq_true] at h
  cases hi : s.eng.item with
  | none => simp [h hi]
  | some it => simp

/-- Work selection takes the first available item of the table. -/
theorem nextItem_of_selects {s : State} (h : Selects s) : nextItem s = workOrder.find? (available s) := by
  unfold nextItem
  rw [if_neg (by simp [h.1, h.2])]
  (repeat' split) <;> simp_all [workOrder, available, List.find?]

/-- What stands before the element that is found has not the property. -/
theorem not_of_mem_takeWhile {α : Type} [DecidableEq α] {p : α → Bool} {g : α} {l : List α} (h : l.find? p = some g) :
    ∀ r ∈ l.takeWhile (fun r => decide (r ≠ g)), p r = false := by
  induction l with
  | nil => simp
  | cons x l ih =>
    intro r hr
    by_cases hx : p x = true
    · obtain rfl : x = g := by simpa [hx] using h
      simp at hr
    · have hg : l.find? p = some g := by simpa [hx] using h
      by_cases hxg : x = g
      · simp [hxg] at hr
      · rw [List.takeWhile_cons_of_pos (by simpa using hxg), List.mem_cons] at hr
        rcases hr with rfl | hr
        · simpa using hx
        · exact ih hg r hr

/-- What the command of an item that is not taken does: nothing. -/
theorem exec_command_of_not_takes {s : State} {x : Sel} (h : ¬Takes s x) : exec x.command s = .next s := by
  cases x <;> exact if_neg h

theorem takes_iff (s : State) (x : Sel) :
    Takes s x ↔ Selects s ∧ Available s x ∧ ∀ y : Sel, y.rank < x.rank → ¬Available s y := by
  constructor
  · intro h
    have hs : Selects s := by
      by_contra hn
      exact absurd (h.symm.trans (nextItem_of_not_selects hn)) (by simp)
    have hfind : workOrder.find? (available s) = some x := (nextItem_of_selects hs).symm.trans h
    refine ⟨hs, (available_iff s x).mp (List.find?_some hfind), fun y hy ha => ?_⟩
    have hrefused := not_of_mem_takeWhile hfind y ((before_iff x y).mpr (Or.inl hy))
    exact absurd ((available_iff s y).mpr ha) (by simp [hrefused])
  · rintro ⟨hs, ha, hfirst⟩
    refine (nextItem_of_selects hs).trans
      (find?_eq_some_of_takeWhile (mem_workOrder x) ((available_iff s x).mpr ha) fun y hy => ?_)
    rcases (before_iff x y).mp hy with hlt | ⟨rfl, rfl⟩
    · exact Bool.eq_false_iff.mpr fun e => hfirst y hlt ((available_iff s y).mp e)
    · exact press_of_release ((available_iff s .release).mpr ha)

/-- Settles O24, by the search of the table that work selection is. -/
theorem theFirstAvailableItemIsTaken : Obligations.TheFirstAvailableItemIsTaken := by
  refine fun s x => ⟨?_, exec_command_of_not_takes⟩
  rw [takes_iff, Selects, working_iff, and_assoc]

end Sys2Proof.Machine
end

section
/-! PROOFS. Why held reads and groups are not kept by every step on their own: a hush in INIT under a settle cut (R96,
R117, R174). -/

namespace Sys2Proof.Machine

/-- INIT's voice table phase with a settle cut and a hush that is about to make its last push. No run reaches it, since
a settle cut belongs to SETTLING (R164); the law of held reads does not say so. -/
def hushInInit : State :=
  { State.reset with
    ctrl := { Control.powerOn with op := .init, phase := some .voiceTable, settleCut := true }
    eng := { Engine.reset with item := some { kind := .hush, wait := .push (.blank 0), jobs := [] } }
    pending := [.pushWaitEnd] }

theorem hushInInit_laws : HeldReadLaw hushInInit ∧ FillLaw hushInInit := by
  simp [HeldReadLaw, FillLaw, hushInInit, State.reset, Tone.reset, VoiceWriter.reset]

/-- The hush ends, the settle cut ends SETTLING with it, and TRANSPARENT is entered in the midst of INIT's phase. -/
theorem step_hushInInit : ∃ t, step hushInInit = .next t ∧ t.ctrl.op = .transparent ∧ t.ctrl.phase = some .voiceTable :=
  ⟨_, rfl, by decide +kernel, by decide +kernel⟩

/-- Refutes O59: a step from `hushInInit` leaves INIT and keeps its phase, against the law of held reads. -/
theorem not_noOpenGroupIsEverRead : ¬ Obligations.NoOpenGroupIsEverRead := by
  rintro ⟨-, hkeeps⟩
  obtain ⟨t, hstep, hop, hphase⟩ := step_hushInInit
  obtain ⟨⟨-, hinit, -⟩, -⟩ := hkeeps hushInInit t hushInInit_laws hstep
  have hin : t.ctrl.op = .init := hinit (by rw [hphase]; rfl)
  rw [hop] at hin
  cases hin

end Sys2Proof.Machine
end

section
/-! PROOFS. What the moves of a voice slot keep: every slot stands in one of the two lists, once, and the section counts
count (R90, R91). -/

namespace Sys2Proof.Machine

/-! ### The law of the slots, taken apart -/

theorem slotsPartitioned_iff (e : Engine) : SlotsPartitioned e ↔
    (e.free.Nodup ∧ e.order.Nodup ∧ (∀ i ∈ e.free, i ∉ e.order) ∧ ∀ i, i ∈ e.free ∨ i ∈ e.order) ∧
    (∀ i ∈ e.free, (e.mirror.get i).state = .free) ∧ ∀ i ∈ e.order, (e.mirror.get i).state ≠ .free := by
  have hall : (List.finRange 64).Nodup := List.nodup_finRange 64
  unfold SlotsPartitioned
  refine and_congr_left fun _ => ⟨fun h => ?_, fun ⟨hf, ho, hd, hmem⟩ => ?_⟩
  · obtain ⟨hf, ho, hd⟩ := List.nodup_append'.mp (h.nodup_iff.mpr hall)
    exact ⟨hf, ho, fun i hi hj => hd hi hj, fun i => List.mem_append.mp (h.mem_iff.mpr (List.mem_finRange i))⟩
  · refine (List.perm_ext_iff_of_nodup (List.nodup_append'.mpr ⟨hf, ho, fun i hi hj => hd i hi hj⟩) hall).mpr fun i => ?_
    simpa using hmem i

/-- A slot that is not in the sounding order is FREE (R90). -/
theorem SlotLaw.free_of_not_mem {s : State} (h : SlotLaw s) {i : Slot} (hi : i ∉ s.eng.order) :
    (s.eng.mirror.get i).state = .free := by
  obtain ⟨⟨-, -, -, hmem⟩, hfree, -⟩ := (slotsPartitioned_iff _).mp h.1
  exact hfree i ((hmem i).resolve_right hi)

/-- A SOUNDING slot stands in the sounding order (R90). -/
theorem SlotLaw.mem_order {s : State} (h : SlotLaw s) {i : Slot} (hi : (s.eng.mirror.get i).state = .sounding) :
    i ∈ s.eng.order := by
  by_contra hn
  rw [h.free_of_not_mem hn] at hi
  cases hi

/-! ### Counting -/

theorem length_filter_other {l : List Slot} (hl : l.Nodup) {i : Slot} (hi : i ∈ l) (p : Slot → Bool) :
    (l.filter p).length = ((l.filter fun j => decide (j ≠ i)).filter p).length + if p i then 1 else 0 := by
  have hperm : l.Perm (i :: l.filter fun j => decide (j ≠ i)) := by
    have he : l.erase i = l.filter fun j => decide (j ≠ i) := by
      rw [hl.erase_eq_filter]
      exact List.filter_congr fun x _ => by simp [bne, Bool.beq_eq_decide_eq]
    exact he ▸ List.perm_cons_erase hi
  rw [(hperm.filter p).length_eq, List.filter_cons]
  split <;> simp

/-- A slot outside the list may change its record. -/
theorem filter_sect_set {m : Tbl 64 SlotRec} {i : Slot} {x : SlotRec} {l : List Slot} (hi : i ∉ l) (k : SectNo) :
    (l.filter fun j => decide (((m.set i x).get j).sect = k)) = l.filter fun j => decide ((m.get j).sect = k) :=
  List.filter_congr fun j hj => by rw [Tbl.get_set_other]; exact fun e => hi (e ▸ hj)

/-! ### The moves -/

section

variable {e : Engine} {i : Slot}

/-- The order without a slot, with the record of that slot changed, and the counts lowered for its section. -/
theorem countsAgree_without (hc : CountsAgree e) (ho : e.order.Nodup) (hi : i ∈ e.order) (x : SlotRec) (k : SectNo) :
    (addCount (e.mirror.get i).sect (· - 1) e.counts).get k =
      ((e.order.filter fun j => decide (j ≠ i)).filter fun j => decide (((e.mirror.set i x).get j).sect = k)).length := by
  have hk := (hc k).trans (length_filter_other ho hi _)
  rw [filter_sect_set (by simp), addCount, Tbl.get_set]
  by_cases h : (e.mirror.get i).sect = k
  · subst h
    simp_all
  · simp_all

/-- A slot joins the tail of an order that it does not stand in. -/
theorem countsAgree_append {l : List Slot} {m : Tbl 64 SlotRec} {c : Tbl 8 Nat} {x : SlotRec}
    (hc : ∀ k, c.get k = (l.filter fun j => decide (((m.set i x).get j).sect = k)).length) (k : SectNo) :
    (addCount x.sect (· + 1) c).get k =
      ((l ++ [i]).filter fun j => decide (((m.set i x).get j).sect = k)).length := by
  rw [List.filter_append, List.length_append, ← hc k, addCount, Tbl.get_set]
  by_cases h : x.sect = k
  · subst h
    simp
  · simp [h]

/-- A slot that becomes FREE keeps the law (R90, R91). -/
theorem slots_freeSlot (h : SlotsPartitioned e ∧ CountsAgree e) :
    SlotsPartitioned (freeSlot i e) ∧ CountsAgree (freeSlot i e) := by
  by_cases hi : i ∈ e.order
  · obtain ⟨hp, hc⟩ := h
    obtain ⟨⟨hfn, hon, hd, hmem⟩, hfree, horder⟩ := (slotsPartitioned_iff e).mp hp
    have hif : i ∉ e.free := fun hf => hd i hf hi
    simp only [freeSlot, if_pos hi]
    refine ⟨(slotsPartitioned_iff _).mpr ⟨⟨?_, hon.filter _, ?_, fun j => ?_⟩, fun j hj => ?_, fun j hj => ?_⟩,
      countsAgree_without hc hon hi _⟩
    · exact List.nodup_append'.mpr ⟨hfn, List.nodup_singleton i, by simpa using hif⟩
    · intro j hj hj'
      obtain ⟨hjo, hne⟩ := by simpa using hj'
      exact hd j (by simpa [hne] using hj) hjo
    · by_cases hji : j = i
      · simp [hji]
      · simpa [hji] using hmem j
    · by_cases hji : j = i
      · subst hji; simp
      · rw [Tbl.get_set_other _ _ (Ne.symm hji)]
        exact hfree j (by simpa [hji] using hj)
    · obtain ⟨hjo, hne⟩ := by simpa using hj
      rw [Tbl.get_set_other _ _ (Ne.symm hne)]
      exact horder j hjo
  · simpa [freeSlot, hi] using h

/-- A slot that keeps its places and stays out of the FREE state keeps the law (R90, R99). -/
theorem slots_releaseSlot (h : SlotsPartitioned e ∧ CountsAgree e) (latch : Nat) :
    SlotsPartitioned (releaseSlot i latch e) ∧ CountsAgree (releaseSlot i latch e) := by
  by_cases hi : i ∈ e.order
  · obtain ⟨hp, hc⟩ := h
    obtain ⟨⟨hfn, hon, hd, hmem⟩, hfree, horder⟩ := (slotsPartitioned_iff e).mp hp
    simp only [releaseSlot, if_pos hi]
    refine ⟨(slotsPartitioned_iff _).mpr ⟨⟨hfn, hon, hd, hmem⟩, fun j hj => ?_, fun j hj => ?_⟩, fun k => ?_⟩
    · rw [Tbl.get_set_other]
      · exact hfree j hj
      · rintro rfl
        exact hd _ hj hi
    · rw [Tbl.get_set]
      split
      · simp
      · exact horder j hj
    · refine (hc k).trans (congrArg List.length (List.filter_congr fun j _ => ?_))
      rw [Tbl.get_set]
      split
      · next hij => subst hij; rfl
      · rfl
  · simpa [releaseSlot, hi] using h

/-- A slot that starts a voice keeps the law (R90, R91, R98, R104). -/
theorem slots_startVoice (h : SlotsPartitioned e ∧ CountsAgree e) (p : Pos) (steal : Bool) {rec : SlotRec}
    (hrec : rec.state = .sounding) :
    SlotsPartitioned (startVoice p i steal rec e) ∧ CountsAgree (startVoice p i steal rec e) := by
  obtain ⟨hp, hc⟩ := h
  obtain ⟨⟨hfn, hon, hd, hmem⟩, hfree, horder⟩ := (slotsPartitioned_iff e).mp hp
  have hstate (j : Slot) (hj : j ∈ e.order ∨ j = i) : ((e.mirror.set i rec).get j).state ≠ .free := by
    rw [Tbl.get_set]
    split
    · simp [hrec]
    · next hne => exact horder j (hj.resolve_right (Ne.symm hne))
  cases steal with
  | true =>
    by_cases hi : i ∈ e.order
    · have hif : ∀ j ∈ e.free, i ≠ j := by
        rintro j hj rfl
        exact hd _ hj hi
      simp only [startVoice, if_true, if_pos hi]
      refine ⟨(slotsPartitioned_iff _).mpr ⟨⟨hfn, ?_, fun j hj => ?_, fun j => ?_⟩, fun j hj => ?_, fun j hj => ?_⟩,
        countsAgree_append (countsAgree_without hc hon hi rec)⟩
      · exact List.nodup_append'.mpr ⟨hon.filter _, List.nodup_singleton i, by simp⟩
      · simpa [Ne.symm (hif j hj)] using hd j hj
      · by_cases hji : j = i
        · simp [hji]
        · simpa [hji] using hmem j
      · rw [Tbl.get_set_other _ _ (hif j hj)]
        exact hfree j hj
      · exact hstate j (by simp only [List.mem_append, List.mem_filter, List.mem_singleton] at hj; exact hj.imp_left And.left)
    · simpa [startVoice, hi] using ⟨hp, hc⟩
  | false =>
    by_cases hi : i ∈ e.free
    · have hio : i ∉ e.order := hd i hi
      simp only [startVoice, Bool.false_eq_true, if_false, if_pos hi]
      refine ⟨(slotsPartitioned_iff _).mpr ⟨⟨hfn.filter _, ?_, fun j hj => ?_, fun j => ?_⟩, fun j hj => ?_,
        fun j hj => ?_⟩, countsAgree_append fun k => ?_⟩
      · exact List.nodup_append'.mpr ⟨hon, List.nodup_singleton i, by simpa using hio⟩
      · obtain ⟨hjf, hne⟩ := by simpa using hj
        simpa [hne] using hd j hjf
      · by_cases hji : j = i
        · simp [hji]
        · simpa [hji] using hmem j
      · obtain ⟨hjf, hne⟩ := by simpa using hj
        rw [Tbl.get_set_other _ _ (Ne.symm hne)]
        exact hfree j hjf
      · exact hstate j (by simpa using hj)
      · rw [filter_sect_set hio]
        exact hc k
    · simpa [startVoice, hi] using ⟨hp, hc⟩

end

end Sys2Proof.Machine
end

section
/-! PROOFS. What the moves of a voice slot and of a held record keep of the held-button table (R92), and of what an item
has still to do with it (R96, R102, R106, R107, R109, R110, R138, R141). -/

namespace Sys2Proof.Machine

/-! ### A slot leaves the voice lists, or joins one -/

theorem mem_unlist {held : List HeldRec} {i : Slot} {r' : HeldRec} (h : r' ∈ unlist i held) :
    ∃ r ∈ held, r'.pos = r.pos ∧ r'.voices.Sublist r.voices ∧ i ∉ r'.voices := by
  obtain ⟨r, hr, rfl⟩ := List.mem_map.mp h
  exact ⟨r, hr, rfl, List.filter_sublist, by simp⟩

theorem mem_enlist {held : List HeldRec} {p : Pos} {i : Slot} {r' : HeldRec} (h : r' ∈ enlist p i held) :
    ∃ r ∈ held, r'.pos = r.pos ∧ r'.voices = if r.pos = p then r.voices ++ [i] else r.voices := by
  obtain ⟨r, hr, rfl⟩ := List.mem_map.mp h
  exact ⟨r, hr, by split <;> rfl, by split <;> rfl⟩

/-! ### What an item that runs has still to do -/

/-- What the jobs of an item that runs have to do with the held-button table: what `ItemLaw` says of an item that
waits. -/
structure RunLaw (k : ItemKind) (js : List Job) (held : List HeldRec) : Prop where
  cleared : ∀ before j after, js = before ++ j :: after → ∀ r ∈ held,
    j = .removeRecord r.pos ∨ j = .voice r.pos ∨ j = .clearTable → ∀ i ∈ r.voices, i ∈ before.filterMap Job.letsGo
  fits : ∀ r ∈ held, r.voices.length + (js.filter fun j => decide (j.startsFor = some r.pos)).length ≤ 8
  starts : (∃ j ∈ js, j.startsFor ≠ none) → ∀ j ∈ js, j.startsFor ≠ none
  hush : k = .hush → (∀ j ∈ js, j = .clearTable ∨ j.letsGo ≠ none) ∧
    ∀ r ∈ held, ∀ i ∈ r.voices, i ∈ js.filterMap Job.letsGo

/-- The law of an item that waits, in the terms of the item's run. -/
theorem itemLaw_iff (s : State) : ItemLaw s ↔ ∀ it, s.eng.item = some it →
    RunLaw it.kind it.todo s.eng.held ∧
    (∀ r ∈ s.eng.held, it.wait = .program r.pos ∨ it.wait = .turnProgram r.pos → r.voices = []) ∧
    (it.kind = .hush → ∃ pu, it.wait = .push pu) := by
  refine forall₂_congr fun it _ => ⟨fun ⟨hc, hf, hs, hp, hh⟩ => ⟨⟨hc, hf, hs, fun hk => (hh hk).2⟩, hp,
    fun hk => (hh hk).1⟩, fun ⟨⟨hc, hf, hs, hh⟩, hp, hw⟩ => ⟨hc, hf, hs, hp, fun hk => ⟨hw hk, hh hk⟩⟩⟩

namespace RunLaw

variable {k : ItemKind} {j : Job} {js : List Job} {held held' : List HeldRec}

/-- A record that the next job takes away, or voices, lists no voice. -/
theorem head_cleared {r : HeldRec} (h : RunLaw k (j :: js) held) (hr : r ∈ held)
    (hj : j = .removeRecord r.pos ∨ j = .voice r.pos ∨ j = .clearTable) : r.voices = [] :=
  List.eq_nil_iff_forall_not_mem.mpr fun i hi => by simpa using h.cleared [] j js rfl r hr hj i hi

/-- A table with fewer records, or with fewer voices in them. -/
theorem mono (h : RunLaw k js held)
    (hm : ∀ r' ∈ held', ∃ r ∈ held, r'.pos = r.pos ∧ r'.voices.Sublist r.voices) : RunLaw k js held' where
  cleared before j after hsplit r' hr' hj i hi := by
    obtain ⟨r, hr, hpos, hsub⟩ := hm r' hr'
    exact h.cleared before j after hsplit r hr (hpos ▸ hj) i (hsub.subset hi)
  fits r' hr' := by
    obtain ⟨r, hr, hpos, hsub⟩ := hm r' hr'
    exact hpos ▸ (Nat.add_le_add_right hsub.length_le _).trans (h.fits r hr)
  starts := h.starts
  hush hk := ⟨(h.hush hk).1, fun r' hr' i hi => by
    obtain ⟨r, hr, -, hsub⟩ := hm r' hr'
    exact (h.hush hk).2 r hr i (hsub.subset hi)⟩

/-- A job is done that lets no voice go. -/
theorem tail (h : RunLaw k (j :: js) held) (hj : j.letsGo = none) : RunLaw k js held where
  cleared before j' after hsplit r hr hj' i hi := by
    simpa [hj] using h.cleared (j :: before) j' after (by rw [hsplit]; rfl) r hr hj' i hi
  fits r hr := (Nat.add_le_add_left (List.Sublist.length_le (((List.sublist_cons_self j js).filter _))) _).trans
    (h.fits r hr)
  starts := fun ⟨j', hj', hs⟩ j'' hj'' =>
    h.starts ⟨j', List.mem_cons_of_mem _ hj', hs⟩ j'' (List.mem_cons_of_mem _ hj'')
  hush hk := ⟨fun j' hj' => (h.hush hk).1 j' (List.mem_cons_of_mem _ hj'), fun r hr i hi => by
    simpa [hj] using (h.hush hk).2 r hr i hi⟩

/-- A job is done that lets a voice go. -/
theorem letGo {i : Slot} (h : RunLaw k (j :: js) held) (hj : j.letsGo = some i) : RunLaw k js (unlist i held) where
  cleared before j' after hsplit r' hr' hj' l hl := by
    obtain ⟨r, hr, hpos, hsub, hi⟩ := mem_unlist hr'
    have hmem := h.cleared (j :: before) j' after (by rw [hsplit]; rfl) r hr (hpos ▸ hj') l (hsub.subset hl)
    have hne : l ≠ i := fun e => hi (e ▸ hl)
    simpa [hj, hne] using hmem
  fits r' hr' := by
    obtain ⟨r, hr, hpos, hsub, -⟩ := mem_unlist hr'
    refine hpos ▸ (Nat.add_le_add hsub.length_le ?_).trans (h.fits r hr)
    exact ((List.sublist_cons_self j js).filter _).length_le
  starts := fun ⟨j', hj', hs⟩ j'' hj'' =>
    h.starts ⟨j', List.mem_cons_of_mem _ hj', hs⟩ j'' (List.mem_cons_of_mem _ hj'')
  hush hk := ⟨fun j' hj' => (h.hush hk).1 j' (List.mem_cons_of_mem _ hj'), fun r' hr' l hl => by
    obtain ⟨r, hr, -, hsub, hi⟩ := mem_unlist hr'
    have hne : l ≠ i := fun e => hi (e ▸ hl)
    simpa [hj, hne] using (h.hush hk).2 r hr l (hsub.subset hl)⟩

/-- A job is done that starts a voice: every job that is left starts one. -/
theorem started {p : Pos} {i : Slot} (h : RunLaw k (j :: js) held) (hj : j.startsFor = some p) (hgo : j.letsGo = none) :
    RunLaw k js (enlist p i (unlist i held)) := by
  have hall : ∀ j' ∈ j :: js, j'.startsFor ≠ none := h.starts ⟨j, List.mem_cons_self, by simp [hj]⟩
  refine ⟨fun before j' after hsplit r' _ hj' => ?_, fun r' hr' => ?_, (h.tail hgo).starts, fun hk => ?_⟩
  · have hstarts := hall j' (by simp [hsplit])
    rcases hj' with rfl | rfl | rfl <;> exact absurd rfl hstarts
  · obtain ⟨r₁, hr₁, hpos₁, hvoices⟩ := mem_enlist hr'
    obtain ⟨r, hr, hpos, hsub, -⟩ := mem_unlist hr₁
    have hle := hsub.length_le
    have hfit := h.fits r hr
    rw [hvoices, hpos₁, hpos]
    by_cases hp : r.pos = p
    · simp [hj, hp] at hfit ⊢
      omega
    · have hp' : p ≠ r.pos := Ne.symm hp
      simp [hj, hp, hp'] at hfit ⊢
      omega
  · have hclear := (h.hush hk).1 j List.mem_cons_self
    rcases hclear with rfl | hl
    · cases hj
    · exact absurd hgo hl

/-- Jobs that start no voice, of an item that is no hush, fit a table in which no list is too long. -/
theorem of_no_start (hk : k ≠ .hush) (hj : ∀ j ∈ js, j.startsFor = none) (hlen : ∀ r ∈ held, r.voices.length ≤ 8)
    (hc : ∀ before j after, js = before ++ j :: after → ∀ r ∈ held,
      j = .removeRecord r.pos ∨ j = .voice r.pos ∨ j = .clearTable → ∀ i ∈ r.voices, i ∈ before.filterMap Job.letsGo) :
    RunLaw k js held where
  cleared := hc
  fits r hr := by
    rw [List.filter_eq_nil_iff.mpr fun j h => by simp [hj j h]]
    exact hlen r hr
  starts := fun ⟨j, h, hs⟩ => absurd (hj j h) hs
  hush h := absurd h hk

/-- An item that is no hush may always end. -/
theorem nil (hk : k ≠ .hush) (hlen : ∀ r ∈ held, r.voices.length ≤ 8) : RunLaw k [] held :=
  of_no_start hk (by simp) hlen fun before j after h => by simp at h

end RunLaw

/-! ### The held-button table -/

section

variable {s t : State} {i : Slot}

/-- A slot that is let go leaves the table's law as it is (R92). -/
theorem HeldLaw.unlisted (h : HeldLaw s) (hheld : t.eng.held = unlist i s.eng.held)
    (hm : ∀ j, j ≠ i → t.eng.mirror.get j = s.eng.mirror.get j) : HeldLaw t := by
  obtain ⟨hlen, hpos, hnd, hown⟩ := h
  have hflat : (unlist i s.eng.held).flatMap (·.voices) =
      (s.eng.held.flatMap (·.voices)).filter fun j => decide (j ≠ i) := by
    rw [List.filter_flatMap, unlist, List.flatMap_map]
  rw [HeldLaw, hheld]
  refine ⟨by simpa [unlist] using hlen, ?_, hflat ▸ hnd.filter _, fun r' hr' l hl => ?_⟩
  · rwa [unlist_eq, map_pos_withoutSlots]
  · obtain ⟨r, hr, hp, hsub, hi⟩ := mem_unlist hr'
    rw [hm l (fun e => hi (e ▸ hl)), hp]
    exact hown r hr l (hsub.subset hl)

theorem ListedLaw.unlisted (h : ListedLaw s) (hheld : t.eng.held = unlist i s.eng.held)
    (hm : ∀ j, j ≠ i → t.eng.mirror.get j = s.eng.mirror.get j) (hi : (t.eng.mirror.get i).state ≠ .sounding) :
    ListedLaw t := by
  obtain ⟨hlist, hlen⟩ := h
  refine ⟨fun j hj => ?_, fun r' hr' => ?_⟩
  · have hne : j ≠ i := fun e => hi (e ▸ hj)
    rw [hm j hne] at hj ⊢
    obtain ⟨r, hr, hown, hmem⟩ := hlist j hj
    have hput : { r with voices := r.voices.filter fun j => decide (j ≠ i) } ∈ t.eng.held :=
      hheld ▸ List.mem_map.mpr ⟨r, hr, rfl⟩
    exact ⟨_, hput, hown, by simpa [hne] using hmem⟩
  · obtain ⟨r, hr, -, hsub, -⟩ := mem_unlist (hheld ▸ hr')
    exact hsub.length_le.trans (hlen r hr)

/-- A slot that is not listed can be let go in vain. -/
theorem unlist_of_not_listed {held : List HeldRec} (h : ∀ r ∈ held, i ∉ r.voices) : unlist i held = held := by
  refine (List.map_congr_left fun r hr => ?_).trans (List.map_id' held)
  rw [List.filter_eq_self.mpr fun j hj => by
    simp only [ne_eq, decide_not, Bool.not_eq_true', decide_eq_false_iff_not]
    rintro rfl
    exact h r hr hj]

/-- A listed slot stands in the sounding order (R90, R92). -/
theorem HeldLaw.mem_order (h : HeldLaw s) (hs : SlotLaw s) {r : HeldRec} (hr : r ∈ s.eng.held) (hi : i ∈ r.voices) :
    i ∈ s.eng.order := by
  obtain ⟨-, -, -, hown⟩ := h
  exact hs.mem_order (hown r hr i hi).1

theorem HeldLaw.unlist_eq_self (h : HeldLaw s) (hs : SlotLaw s) (hi : i ∉ s.eng.order) :
    unlist i s.eng.held = s.eng.held :=
  unlist_of_not_listed fun _ hr hl => hi (h.mem_order hs hr hl)

/-- The positions of the table name its records. -/
theorem HeldLaw.eq_of_pos (h : HeldLaw s) {r r' : HeldRec} (hr : r ∈ s.eng.held) (hr' : r' ∈ s.eng.held)
    (hp : r.pos = r'.pos) : r = r' := by
  obtain ⟨-, hpos, -, -⟩ := h
  exact List.inj_on_of_nodup_map hpos hr hr' hp

/-- A voice that starts joins the list of one record (R92, R98, R102). -/
theorem HeldLaw.enlisted (h : HeldLaw s) {p : Pos} (hheld : t.eng.held = enlist p i (unlist i s.eng.held))
    (hm : ∀ j, j ≠ i → t.eng.mirror.get j = s.eng.mirror.get j)
    (hi : (t.eng.mirror.get i).state = .sounding ∧ (t.eng.mirror.get i).owner = some p) : HeldLaw t := by
  have hu : HeldLaw (s.setEng { s.eng with
      held := unlist i s.eng.held, mirror := s.eng.mirror }) := h.unlisted rfl fun _ _ => rfl
  obtain ⟨hlen, hpos, hnd, hown⟩ := hu
  have hnot : ∀ r ∈ unlist i s.eng.held, i ∉ r.voices := fun r hr => by
    obtain ⟨-, -, -, -, hn⟩ := mem_unlist hr
    exact hn
  rw [HeldLaw, hheld]
  refine ⟨by simpa [enlist] using hlen, by rwa [map_pos_enlist], ?_, fun r' hr' l hl => ?_⟩
  · obtain ⟨heach, hapart⟩ := List.nodup_flatMap.mp hnd
    have hne : (unlist i s.eng.held).Pairwise fun r r' => r.pos ≠ r'.pos := List.pairwise_map.mp hpos
    refine List.nodup_flatMap.mpr ⟨fun r' hr' => ?_, ?_⟩
    · obtain ⟨r, hr, -, hv⟩ := mem_enlist hr'
      rw [hv]
      split
      · exact List.nodup_append'.mpr ⟨heach r hr, List.nodup_singleton i, by simpa using hnot r hr⟩
      · exact heach r hr
    · refine List.pairwise_map.mpr ((hapart.and hne).imp_of_mem fun {r r'} hr hr' ⟨hd, hp⟩ => ?_)
      have hd' : r.voices.Disjoint r'.voices := hd
      have hnr := hnot r hr
      have hnr' := hnot r' hr'
      show List.Disjoint _ _
      by_cases h₁ : r.pos = p <;> by_cases h₂ : r'.pos = p
      · exact absurd (h₁.trans h₂.symm) hp
      · simpa [h₁, h₂] using ⟨hd', hnr'⟩
      · simpa [h₁, h₂] using ⟨hd', hnr⟩
      · simpa [h₁, h₂] using hd'
  · obtain ⟨r, hr, hp, hv⟩ := mem_enlist hr'
    by_cases hli : l = i
    · subst hli
      by_cases hrp : r.pos = p
      · rwa [hp, hrp]
      · rw [hv, if_neg hrp] at hl
        exact absurd hl (hnot r hr)
    · rw [hm l hli, hp]
      refine hown r hr l ?_
      rw [hv] at hl
      split at hl
      · simpa [hli] using hl
      · exact hl

theorem ListedLaw.enlisted (h : ListedLaw s) {p : Pos} {r₀ : HeldRec} (hr₀ : r₀ ∈ s.eng.held) (hp₀ : r₀.pos = p)
    (hfit : ∀ r ∈ s.eng.held, r.pos = p → r.voices.length + 1 ≤ 8)
    (hheld : t.eng.held = enlist p i (unlist i s.eng.held))
    (hm : ∀ j, j ≠ i → t.eng.mirror.get j = s.eng.mirror.get j) (hi : (t.eng.mirror.get i).owner = some p) :
    ListedLaw t := by
  obtain ⟨hlist, hlen⟩ := h
  have hput (r : HeldRec) (hr : r ∈ s.eng.held) : ∃ r' ∈ t.eng.held, r'.pos = r.pos ∧
      r'.voices = if r.pos = p then r.voices.filter (fun j => decide (j ≠ i)) ++ [i] else
        r.voices.filter fun j => decide (j ≠ i) := by
    rw [hheld]
    exact ⟨_, List.mem_map.mpr ⟨_, List.mem_map.mpr ⟨r, hr, rfl⟩, rfl⟩, by split <;> rfl, by split <;> rfl⟩
  refine ⟨fun j hj => ?_, fun r' hr' => ?_⟩
  · by_cases hne : j = i
    · subst hne
      obtain ⟨r', hr', hp', hv⟩ := hput r₀ hr₀
      exact ⟨r', hr', by rw [hi, hp', hp₀], by rw [hv, if_pos hp₀]; simp⟩
    · rw [hm j hne] at hj ⊢
      obtain ⟨r, hr, hown, hmem⟩ := hlist j hj
      obtain ⟨r', hr', hp', hv⟩ := hput r hr
      refine ⟨r', hr', hp' ▸ hown, ?_⟩
      rw [hv]
      split <;> simp [hne, hmem]
  · obtain ⟨r₁, hr₁, hp₁, hv⟩ := mem_enlist (hheld ▸ hr')
    obtain ⟨r, hr, hp, hsub, -⟩ := mem_unlist hr₁
    rw [hv]
    split
    · next hrp =>
      have := hsub.length_le
      have := hfit r hr (hp ▸ hrp)
      simp
      omega
    · exact hsub.length_le.trans (hlen r hr)

/-- A table whose records are some of those there were, with their voices, changed in nothing else that the law speaks
of (R92). -/
theorem HeldLaw.mono (h : HeldLaw s) (hpos : (t.eng.held.map (·.pos)).Sublist (s.eng.held.map (·.pos)))
    (hv : (t.eng.held.flatMap (·.voices)).Sublist (s.eng.held.flatMap (·.voices)))
    (hr : ∀ r' ∈ t.eng.held, ∃ r ∈ s.eng.held, r'.pos = r.pos ∧ r'.voices = r.voices)
    (hm : ∀ r ∈ s.eng.held, ∀ i ∈ r.voices, (t.eng.mirror.get i).state = (s.eng.mirror.get i).state ∧
      (t.eng.mirror.get i).owner = (s.eng.mirror.get i).owner) : HeldLaw t := by
  obtain ⟨hlen, hn, hnd, hown⟩ := h
  refine ⟨?_, hn.sublist hpos, hnd.sublist hv, fun r' hr' i hi => ?_⟩
  · simpa using hpos.length_le.trans (by simpa using hlen)
  · obtain ⟨r, hmem, hp, hvoices⟩ := hr r' hr'
    rw [hvoices] at hi
    obtain ⟨hst, ho⟩ := hm r hmem i hi
    rw [hst, ho, hp]
    exact hown r hmem i hi

end

end Sys2Proof.Machine
end

section
/-! PROOFS. The moves that a command makes at the voice slots and at the held-button table, and the laws that each of
them keeps (R89 to R92, R96). -/

namespace Sys2Proof.Machine

/-- The law of an item that waits, or of one that runs through its jobs. -/
def TodoLaw : Option (ItemKind × List Job) → State → Prop
  | none, s => ItemLaw s
  | some (k, js), s => RunLaw k js s.eng.held

/-- The laws of the slots, of the held-button table and of the item, between commands (`none`) or while an item of a
kind runs through its jobs. -/
structure VoicesLaw (m : Option (ItemKind × List Job)) (s : State) : Prop where
  slots : SlotLaw s
  held : HeldLaw s
  listed : ListedLaw s
  todo : TodoLaw m s

/-- Going from `s` to `t` keeps the law of the slots; with that law, the law of the held-button table; and with both,
the other half of R92 and the law of the item, which goes from `m` to `n`. -/
structure TablesKept (m : Option (ItemKind × List Job)) (s : State) (n : Option (ItemKind × List Job)) (t : State) :
    Prop where
  slots : SlotLaw s → SlotLaw t
  held : SlotLaw s → HeldLaw s → HeldLaw t
  rest : VoicesLaw m s → ListedLaw t ∧ TodoLaw n t

/-- The tables that the laws of slots and records speak of are the same; a mirror record may change its level, its
countdown and the like. -/
structure SameTables (e e' : Engine) : Prop where
  free : e'.free = e.free := by rfl
  order : e'.order = e.order := by rfl
  counts : e'.counts = e.counts := by rfl
  held : e'.held = e.held := by rfl
  mirror (i : Slot) : (e'.mirror.get i).state = (e.mirror.get i).state ∧
    (e'.mirror.get i).sect = (e.mirror.get i).sect ∧ (e'.mirror.get i).owner = (e.mirror.get i).owner := by
      exact fun _ => ⟨rfl, rfl, rfl⟩

theorem SameTables.slots {s t : State} (h : SameTables s.eng t.eng) (hs : SlotLaw s) : SlotLaw t := by
  obtain ⟨⟨hperm, hfree, horder⟩, hc⟩ := hs
  refine ⟨⟨by rwa [h.free, h.order], fun i hi => ?_, fun i hi => ?_⟩, fun k => ?_⟩
  · rw [(h.mirror i).1]
    exact hfree i (h.free ▸ hi)
  · rw [(h.mirror i).1]
    exact horder i (h.order ▸ hi)
  · rw [h.counts, h.order, hc k]
    exact congrArg List.length (List.filter_congr fun i _ => by rw [(h.mirror i).2.1])

theorem SameTables.heldLaw {s t : State} (h : SameTables s.eng t.eng) (hs : HeldLaw s) : HeldLaw t :=
  hs.mono (by rw [h.held]) (by rw [h.held]) (fun r hr => ⟨r, h.held ▸ hr, rfl, rfl⟩) fun _ _ i _ =>
    ⟨(h.mirror i).1, (h.mirror i).2.2⟩

theorem SameTables.listedLaw {s t : State} (h : SameTables s.eng t.eng) (hs : ListedLaw s) : ListedLaw t := by
  obtain ⟨hlist, hlen⟩ := hs
  refine ⟨fun i hi => ?_, by rwa [h.held]⟩
  rw [h.held, (h.mirror i).2.2]
  exact hlist i ((h.mirror i).1 ▸ hi)

theorem VoicesLaw.lists_short {m : Option (ItemKind × List Job)} {s : State} (h : VoicesLaw m s) :
    ∀ r ∈ s.eng.held, r.voices.length ≤ 8 := by
  obtain ⟨-, -, ⟨-, hlen⟩, -⟩ := h
  exact hlen

/-- With no item waiting the law of the item says nothing. -/
theorem itemLaw_of_none {s : State} (h : s.eng.item = none) : ItemLaw s := fun it hi => by
  rw [h] at hi
  cases hi

namespace TablesKept

variable {m n : Option (ItemKind × List Job)} {k : ItemKind} {j : Job} {js : List Job} {s t u : State} {p : Pos}
  {i : Slot}

theorem voices (h : TablesKept m s n t) (hs : VoicesLaw m s) : VoicesLaw n t :=
  ⟨h.slots hs.slots, h.held hs.slots hs.held, (h.rest hs).1, (h.rest hs).2⟩

theorem trans {l : Option (ItemKind × List Job)} (h : TablesKept m s n t) (k : TablesKept n t l u) :
    TablesKept m s l u where
  slots hs := k.slots (h.slots hs)
  held hs hh := k.held (h.slots hs) (h.held hs hh)
  rest hs := k.rest (h.voices hs)

/-- The tables stay, and the item goes on to another job, waits, or ends. -/
theorem of_same (h : SameTables s.eng t.eng) (hn : VoicesLaw m s → TodoLaw n t) : TablesKept m s n t where
  slots := h.slots
  held _ := h.heldLaw
  rest hs := ⟨h.listedLaw hs.listed, hn hs⟩

/-- The tables and the item stay, or the item ends. -/
theorem beside (h : SameTables s.eng t.eng) (hi : t.eng.item = s.eng.item ∨ t.eng.item = none) :
    TablesKept m s m t := by
  refine of_same h fun hs => ?_
  have htodo := hs.todo
  match m, htodo with
  | some (k, js), htodo =>
    show RunLaw k js t.eng.held
    exact h.held ▸ htodo
  | none, htodo =>
    rcases hi with hi | hi
    · have hlaw := (itemLaw_iff s).mp htodo
      exact (itemLaw_iff t).mpr fun it hit => by
        rw [h.held]
        exact hlaw it (hi ▸ hit)
    · exact itemLaw_of_none hi

/-- A change outside the voicing engine. -/
theorem of_eng (h : t.eng = s.eng) : TablesKept m s m t :=
  beside (by rw [h]; exact {}) (.inl (congrArg Engine.item h))

theorem refl (s : State) : TablesKept m s m s := of_eng rfl

/-! ### A voice is let go -/

theorem letGo (hslots : SlotLaw s → SlotLaw t)
    (hheld : SlotLaw s → HeldLaw s → t.eng.held = unlist i s.eng.held)
    (hm : ∀ l, l ≠ i → t.eng.mirror.get l = s.eng.mirror.get l)
    (hi : SlotLaw s → (t.eng.mirror.get i).state ≠ .sounding) (hj : j.letsGo = some i) :
    TablesKept (some (k, j :: js)) s (some (k, js)) t where
  slots := hslots
  held hs hh := hh.unlisted (hheld hs hh) hm
  rest hs := by
    have hu := hheld hs.slots hs.held
    have htodo : RunLaw k (j :: js) s.eng.held := hs.todo
    refine ⟨hs.listed.unlisted hu hm (hi hs.slots), ?_⟩
    show RunLaw k js t.eng.held
    exact hu ▸ htodo.letGo hj

/-- A slot that becomes FREE. -/
theorem freed (ht : t.eng = freeSlot i s.eng) (hj : j.letsGo = some i) :
    TablesKept (some (k, j :: js)) s (some (k, js)) t := by
  have hslots (hs : SlotLaw s) : SlotLaw t := by
    have h := slots_freeSlot (i := i) hs
    rwa [← ht] at h
  by_cases hi : i ∈ s.eng.order
  · have he := ht.trans (if_pos hi)
    exact letGo hslots (fun _ _ => by rw [he]) (fun l hl => by rw [he]; exact Tbl.get_set_other _ _ (Ne.symm hl))
      (fun _ => by rw [he]; simp) hj
  · have he := ht.trans (if_neg hi)
    exact letGo hslots (fun hs hh => by rw [he, hh.unlist_eq_self hs hi]) (fun l _ => by rw [he])
      (fun hs => by rw [he, hs.free_of_not_mem hi]; simp) hj

/-- A slot that becomes RELEASING. -/
theorem released {latch : Nat} (ht : t.eng = releaseSlot i latch s.eng) (hj : j.letsGo = some i) :
    TablesKept (some (k, j :: js)) s (some (k, js)) t := by
  have hslots (hs : SlotLaw s) : SlotLaw t := by
    have h := slots_releaseSlot (i := i) hs latch
    rwa [← ht] at h
  by_cases hi : i ∈ s.eng.order
  · have he := ht.trans (if_pos hi)
    exact letGo hslots (fun _ _ => by rw [he]) (fun l hl => by rw [he]; exact Tbl.get_set_other _ _ (Ne.symm hl))
      (fun _ => by rw [he]; simp) hj
  · have he := ht.trans (if_neg hi)
    exact letGo hslots (fun hs hh => by rw [he, hh.unlist_eq_self hs hi]) (fun l _ => by rw [he])
      (fun hs => by rw [he, hs.free_of_not_mem hi]; simp) hj

/-! ### A voice starts -/

/-- What a start does when the slot stands where it should (R90, R98, R104). -/
theorem startVoice_tables {steal : Bool} {rec : SlotRec} {e : Engine} (hi : i ∈ if steal then e.order else e.free) :
    (startVoice p i steal rec e).held = enlist p i (unlist i e.held) ∧
    (startVoice p i steal rec e).mirror = e.mirror.set i rec := by
  cases steal <;> simp_all [startVoice]

/-- A start whose slot stands nowhere is none. -/
theorem startVoice_of_not_mem {steal : Bool} {rec : SlotRec} {e : Engine}
    (hi : i ∉ if steal then e.order else e.free) : startVoice p i steal rec e = e := by
  cases steal <;> simp_all [startVoice]

/-- A layer of a record that stands starts its voice (R102, R103). -/
theorem started {steal : Bool} {rec : SlotRec} {x : Fin 8} {l : Layer} (ht : t.eng = startVoice p i steal rec s.eng)
    (hrec : rec.state = .sounding ∧ rec.owner = some p) (hp : (findRec s.eng p).isSome = true) :
    TablesKept (some (k, .layer p x l :: js)) s (some (k, js)) t := by
  have hslots (hs : SlotLaw s) : SlotLaw t := by
    have h := slots_startVoice (i := i) hs p steal hrec.1
    rwa [← ht] at h
  by_cases hi : i ∈ if steal then s.eng.order else s.eng.free
  · obtain ⟨hheld, hmirror⟩ := startVoice_tables (p := p) (rec := rec) hi
    rw [← ht] at hheld hmirror
    have hm (l : Slot) (hl : l ≠ i) : t.eng.mirror.get l = s.eng.mirror.get l := by
      rw [hmirror, Tbl.get_set_other _ _ (Ne.symm hl)]
    have hown : (t.eng.mirror.get i).state = .sounding ∧ (t.eng.mirror.get i).owner = some p := by
      rwa [hmirror, Tbl.get_set_same]
    refine ⟨hslots, fun _ hh => hh.enlisted hheld hm hown, fun hs => ?_⟩
    have htodo : RunLaw k (.layer p x l :: js) s.eng.held := hs.todo
    obtain ⟨r, hr⟩ := Option.isSome_iff_exists.mp hp
    have hpos : r.pos = p := by simpa using List.find?_some hr
    refine ⟨hs.listed.enlisted (List.mem_of_find?_eq_some hr) hpos (fun r' hr' hp' => ?_) hheld hm hown.2, ?_⟩
    · have hfit := htodo.fits r' hr'
      simp [Job.startsFor, hp'] at hfit
      omega
    · show RunLaw k js t.eng.held
      exact hheld ▸ htodo.started rfl rfl
  · have he := ht.trans (startVoice_of_not_mem hi)
    refine of_same (by rw [he]; exact {}) fun hs => ?_
    have htodo : RunLaw k (.layer p x l :: js) s.eng.held := hs.todo
    show RunLaw k js t.eng.held
    exact he ▸ htodo.tail rfl

/-! ### Jobs that are over, and blank records -/

/-- A job is over that has let no voice go. -/
theorem next (h : SameTables s.eng t.eng) (hj : j.letsGo = none) :
    TablesKept (some (k, j :: js)) s (some (k, js)) t :=
  of_same h fun hs => by
    have htodo : RunLaw k (j :: js) s.eng.held := hs.todo
    show RunLaw k js t.eng.held
    exact h.held ▸ htodo.tail hj

/-- A blank record is written to a slot outside the sounding order, where nothing sounds (R15, R90). -/
theorem blanked (ht : t.eng = if i ∈ s.eng.order then s.eng else
      { s.eng with mirror := s.eng.mirror.set i SlotRec.reset }) (hj : j.letsGo = none) :
    TablesKept (some (k, j :: js)) s (some (k, js)) t := by
  by_cases hi : i ∈ s.eng.order
  · have he := ht.trans (if_pos hi)
    exact next (by rw [he]; exact {}) hj
  · have he := ht.trans (if_neg hi)
    have hm (l : Slot) (hl : l ≠ i) : t.eng.mirror.get l = s.eng.mirror.get l := by
      rw [he]
      exact Tbl.get_set_other _ _ (Ne.symm hl)
    have hstate : (t.eng.mirror.get i).state = .free := by
      rw [he]
      simp [SlotRec.reset]
    have hne {l : Slot} (hl : l ∈ s.eng.order) : l ≠ i := fun e => hi (e ▸ hl)
    refine ⟨fun ⟨⟨hperm, hfree, horder⟩, hc⟩ => ⟨⟨by rwa [he], fun l hl => ?_, fun l hl => ?_⟩, fun c => ?_⟩,
      fun hs hh => ?_, fun hs => ⟨⟨fun l hl => ?_, by rw [he]; exact hs.listed.2⟩, ?_⟩⟩
    · by_cases hli : l = i
      · rw [hli, hstate]
      · rw [hm l hli]
        exact hfree l (by rwa [he] at hl)
    · have hlo : l ∈ s.eng.order := by rwa [he] at hl
      rw [hm l (hne hlo)]
      exact horder l hlo
    · rw [he]
      exact (hc c).trans (congrArg List.length (filter_sect_set hi c).symm)
    · refine hh.mono (by rw [he]) (by rw [he]) (fun r hr => ⟨r, by rwa [he] at hr, rfl, rfl⟩) fun r hr l hl => ?_
      rw [hm l (hne (hh.mem_order hs hr hl))]
      exact ⟨rfl, rfl⟩
    · have hli : l ≠ i := by
        rintro rfl
        rw [hstate] at hl
        cases hl
      rw [hm l hli] at hl ⊢
      rw [he]
      exact hs.listed.1 l hl
    · have htodo : RunLaw k (j :: js) s.eng.held := hs.todo
      show RunLaw k js t.eng.held
      rw [he]
      exact htodo.tail hj

/-! ### Records of the held-button table -/

/-- A record leaves the table after its voices (R106, R107, R110). -/
theorem removed (ht : t.eng = removeRec p s.eng) :
    TablesKept (some (k, .removeRecord p :: js)) s (some (k, js)) t := by
  have hheld : t.eng.held = s.eng.held.filter fun r => decide (r.pos ≠ p) := by rw [ht]; rfl
  have hmirror : t.eng.mirror = s.eng.mirror := by rw [ht]; rfl
  have hsub : t.eng.held.Sublist s.eng.held := hheld ▸ List.filter_sublist
  refine ⟨fun hs => ?_, fun _ hh => ?_, fun hs => ⟨⟨fun i hi => ?_, fun r hr => ?_⟩, ?_⟩⟩
  · have h : SlotLaw (s.setEng (removeRec p s.eng)) := hs
    rw [SlotLaw, ht]
    exact h
  · exact hh.mono (hsub.map _) (hsub.flatMap _) (fun r hr => ⟨r, hsub.subset hr, rfl, rfl⟩) fun _ _ _ _ => by
      rw [hmirror]
      exact ⟨rfl, rfl⟩
  · rw [hmirror] at hi ⊢
    obtain ⟨r, hr, hown, hmem⟩ := hs.listed.1 i hi
    refine ⟨r, hheld ▸ List.mem_filter.mpr ⟨hr, decide_eq_true fun hp => ?_⟩, hown, hmem⟩
    have htodo : RunLaw k (.removeRecord p :: js) s.eng.held := hs.todo
    rw [htodo.head_cleared hr (.inl (by rw [hp]))] at hmem
    cases hmem
  · exact hs.lists_short r (hsub.subset hr)
  · have htodo : RunLaw k (.removeRecord p :: js) s.eng.held := hs.todo
    exact (htodo.tail rfl).mono fun r hr => ⟨r, hsub.subset hr, rfl, List.Sublist.refl _⟩

/-- The table is emptied when no record lists a voice (R109, R174). -/
theorem emptied (hslots : SameTables { s.eng with held := [] } t.eng)
    (hnone : VoicesLaw m s → ∀ r ∈ s.eng.held, r.voices = []) (hn : VoicesLaw m s → TodoLaw n t) :
    TablesKept m s n t := by
  have hheld : t.eng.held = [] := hslots.held
  refine ⟨fun hs => ?_, fun _ hh => ?_, fun hs => ⟨⟨fun i hi => ?_, by simp [hheld]⟩, hn hs⟩⟩
  · exact SameTables.slots (s := s.setEng { s.eng with held := [] }) hslots hs
  · exact ⟨by simp [hheld], by simp [hheld], by simp [hheld], by simp [hheld]⟩
  · obtain ⟨r, hr, -, hmem⟩ := hs.listed.1 i ((hslots.mirror i).1 ▸ hi)
    rw [hnone hs r hr] at hmem
    cases hmem

/-- Records change in what the laws do not speak of. -/
theorem recordsChanged {f : HeldRec → HeldRec} (hf : ∀ r, (f r).pos = r.pos ∧ (f r).voices = r.voices)
    (hslots : SameTables { s.eng with held := s.eng.held.map f } t.eng) (hitem : t.eng.item = s.eng.item) :
    TablesKept m s m t := by
  have hheld : t.eng.held = s.eng.held.map f := hslots.held
  have hback (r' : HeldRec) (hr' : r' ∈ t.eng.held) : ∃ r ∈ s.eng.held, r'.pos = r.pos ∧ r'.voices = r.voices := by
    obtain ⟨r, hr, rfl⟩ := List.mem_map.mp (hheld ▸ hr')
    exact ⟨r, hr, hf r⟩
  have hrun {k : ItemKind} {js : List Job} (h : RunLaw k js s.eng.held) : RunLaw k js t.eng.held :=
    h.mono fun r' hr' => by
      obtain ⟨r, hr, hp, hv⟩ := hback r' hr'
      exact ⟨r, hr, hp, hv ▸ List.Sublist.refl _⟩
  refine ⟨SameTables.slots (s := s.setEng { s.eng with held := s.eng.held.map f }) hslots, fun _ hh => ?_,
    fun hs => ⟨⟨fun i hi => ?_, fun r' hr' => ?_⟩, ?_⟩⟩
  · refine hh.mono ?_ ?_ hback fun _ _ i _ => ⟨(hslots.mirror i).1, (hslots.mirror i).2.2⟩
    · rw [hheld, List.map_map]
      exact (List.map_congr_left fun r _ => (hf r).1) ▸ List.Sublist.refl _
    · rw [hheld, List.flatMap_map]
      simp only [(hf _).2, List.Sublist.refl]
  · obtain ⟨r, hr, hown, hmem⟩ := hs.listed.1 i ((hslots.mirror i).1 ▸ hi)
    exact ⟨f r, hheld ▸ List.mem_map_of_mem hr, by rw [(hslots.mirror i).2.2, (hf r).1]; exact hown, by rwa [(hf r).2]⟩
  · obtain ⟨r, hr, -, hv⟩ := hback r' hr'
    exact hv ▸ hs.lists_short r hr
  · have htodo := hs.todo
    match m, htodo with
    | some (k, js), htodo => exact hrun htodo
    | none, htodo =>
      refine (itemLaw_iff t).mpr fun it hit => ?_
      obtain ⟨h, hp, hw⟩ := (itemLaw_iff s).mp htodo it (hitem ▸ hit)
      refine ⟨hrun h, fun r' hr' hwait => ?_, hw⟩
      obtain ⟨r, hr, hpos, hv⟩ := hback r' hr'
      exact hv ▸ hp r hr (hpos ▸ hwait)

theorem recordUpdated (p : Pos) {f : HeldRec → HeldRec} (hf : ∀ r, (f r).pos = r.pos ∧ (f r).voices = r.voices) :
    TablesKept m s m (s.setEng (updateRec p f s.eng)) :=
  recordsChanged (f := fun r => if r.pos = p then f r else r) (fun r => by split <;> simp [hf]) {} rfl

/-- A record without a voice joins the table, where it can be held (R92, R101). -/
theorem joined {r : HeldRec} (hcan : canHold r.pos s.eng = true) (hr : r.voices = [])
    (hslots : SameTables { s.eng with held := s.eng.held ++ [r] } t.eng) (hn : VoicesLaw m s → TodoLaw n t) :
    TablesKept m s n t := by
  have hheld : t.eng.held = s.eng.held ++ [r] := hslots.held
  simp only [canHold, Bool.and_eq_true, decide_eq_true_eq, Option.isNone_iff_eq_none] at hcan
  obtain ⟨hroom, hnone⟩ := hcan
  have hnew : r.pos ∉ s.eng.held.map (·.pos) := by
    rintro hmem
    obtain ⟨r', hr', hp⟩ := List.mem_map.mp hmem
    have := List.find?_eq_none.mp hnone r' hr'
    exact this (decide_eq_true hp)
  refine ⟨SameTables.slots (s := s.setEng { s.eng with held := s.eng.held ++ [r] }) hslots,
    fun _ ⟨hlen, hpos, hnd, hown⟩ => ⟨?_, ?_, ?_, fun r' hr' i hi => ?_⟩,
    fun hs => ⟨⟨fun i hi => ?_, fun r' hr' => ?_⟩, hn hs⟩⟩
  · rw [hheld, List.length_append]
    exact hroom
  · rw [hheld, List.map_append]
    exact List.nodup_append'.mpr ⟨hpos, List.nodup_singleton _, by simpa using hnew⟩
  · rw [hheld, List.flatMap_append]
    simpa [hr] using hnd
  · rw [(hslots.mirror i).1, (hslots.mirror i).2.2]
    rw [hheld] at hr'
    rcases List.mem_append.mp hr' with hr' | hr'
    · exact hown r' hr' i hi
    · rw [List.mem_singleton.mp hr', hr] at hi
      cases hi
  · obtain ⟨r', hr', hown, hmem⟩ := hs.listed.1 i ((hslots.mirror i).1 ▸ hi)
    exact ⟨r', hheld ▸ List.mem_append_left _ hr', by rw [(hslots.mirror i).2.2]; exact hown, hmem⟩
  · rw [hheld] at hr'
    rcases List.mem_append.mp hr' with hr' | hr'
    · exact hs.lists_short r' hr'
    · simp [List.mem_singleton.mp hr', hr]

/-- The engine takes its reset values (R90, R91, R92). -/
theorem reset (ht : t.eng = Engine.reset) : TablesKept m s none t where
  slots _ := slotLaw_of_engine_reset ht
  held _ _ := by simp [HeldLaw, ht, Engine.reset]
  rest _ := ⟨by simp [ListedLaw, ht, Engine.reset, SlotRec.reset], itemLaw_of_none (by rw [ht]; rfl)⟩

end TablesKept

end Sys2Proof.Machine
end

section
/-! PROOFS. The laws of slots, records and item through the run of an item (R92, R96, R101, R102, R141). -/

namespace Sys2Proof.Machine

/-! ### The jobs of an item, as they begin -/

/-- A job that does not stand in the first part of the list stands in the second. -/
theorem split_after {α : Type} {l₁ l₂ before after : List α} {x : α} (h : l₁ ++ l₂ = before ++ x :: after)
    (hx : x ∉ l₁) : ∃ b, before = l₁ ++ b ∧ l₂ = b ++ x :: after := by
  rcases List.append_eq_append_iff.mp h with ⟨b, hb, hl⟩ | ⟨c, hc, hl⟩
  · exact ⟨b, hb, hl⟩
  · cases c with
    | nil => exact ⟨[], by simpa using hc.symm, by simpa using hl.symm⟩
    | cons y c =>
      obtain rfl : x = y := by simpa using congrArg List.head? hl
      exact absurd (hc ▸ List.mem_append_right _ List.mem_cons_self) hx

theorem letsGo_releaseJobs (r : HeldRec) : (releaseJobs r).filterMap Job.letsGo = r.voices := by
  simp [releaseJobs, List.filterMap_map, Function.comp_def, Job.letsGo]

theorem mem_releaseJobs {r : HeldRec} {j : Job} (h : j ∈ releaseJobs r) : ∃ i, j = .releaseSlot r.pos i := by
  obtain ⟨i, -, rfl⟩ := List.mem_map.mp h
  exact ⟨i, rfl⟩

/-- A job that comes after the voices of a record: what it asks to be empty is that record's list. -/
theorem not_mem_releaseJobs {r r' : HeldRec} {j : Job}
    (hj : j = .removeRecord r'.pos ∨ j = .voice r'.pos ∨ j = .clearTable) : j ∉ releaseJobs r := fun h => by
  obtain ⟨i, rfl⟩ := mem_releaseJobs h
  simp at hj

namespace RunLaw

variable {k : ItemKind} {s : State} {r : HeldRec}

/-- The voices of a record are released, and then the record may leave the table or be voiced (R106, R107, R138,
R141). -/
theorem of_releases (hh : HeldLaw s) (hlen : ∀ r ∈ s.eng.held, r.voices.length ≤ 8) (hr : r ∈ s.eng.held)
    (hk : k ≠ .hush) {tail : List Job} (hstart : ∀ j ∈ tail, j.startsFor = none)
    (hown : ∀ j ∈ tail, ∀ r' : HeldRec, j = .removeRecord r'.pos ∨ j = .voice r'.pos ∨ j = .clearTable →
      r'.pos = r.pos) : RunLaw k (releaseJobs r ++ tail) s.eng.held := by
  refine of_no_start hk (fun j hj => ?_) hlen fun before j after hsplit r' hr' hj i hi => ?_
  · rcases List.mem_append.mp hj with hj | hj
    · obtain ⟨i, rfl⟩ := mem_releaseJobs hj
      rfl
    · exact hstart j hj
  · obtain ⟨b, rfl, htail⟩ := split_after hsplit (not_mem_releaseJobs hj)
    obtain rfl := hh.eq_of_pos hr' hr (hown j (by simp [htail]) r' hj)
    simp [letsGo_releaseJobs, hi]

/-- Every record's voices are released before the record leaves the table (R110). -/
theorem of_releaseAll (hh : HeldLaw s) (hlen : ∀ r ∈ s.eng.held, r.voices.length ≤ 8) (hk : k ≠ .hush) :
    RunLaw k (s.eng.held.flatMap releaseAllJobs) s.eng.held := by
  have hkey : ∀ l : List HeldRec, l.Sublist s.eng.held → ∀ before j after,
      l.flatMap releaseAllJobs = before ++ j :: after → ∀ r ∈ s.eng.held,
      j = .removeRecord r.pos ∨ j = .voice r.pos ∨ j = .clearTable → ∀ i ∈ r.voices,
        i ∈ before.filterMap Job.letsGo := by
    intro l
    induction l with
    | nil => intro _ before j after h; simp at h
    | cons x l ih =>
      intro hsub before j after hsplit r hr hj i hi
      have hx : x ∈ s.eng.held := hsub.subset List.mem_cons_self
      by_cases hhead : j ∈ releaseAllJobs x
      · have hpos : r.pos = x.pos := by
          simp only [releaseAllJobs, List.mem_append, not_mem_releaseJobs hj, false_or] at hhead
          rcases hj with rfl | rfl | rfl
          · simpa using hhead
          all_goals simp at hhead
        obtain rfl := hh.eq_of_pos hr hx hpos
        rw [List.flatMap_cons, releaseAllJobs, List.append_assoc] at hsplit
        obtain ⟨b, rfl, -⟩ := split_after hsplit (not_mem_releaseJobs hj)
        simp [letsGo_releaseJobs, hi]
      · rw [List.flatMap_cons] at hsplit
        obtain ⟨b, rfl, hrest⟩ := split_after hsplit hhead
        have := ih ((List.sublist_cons_self x l).trans hsub) b j after hrest r hr hj i hi
        simp only [List.filterMap_append, List.mem_append]
        exact .inr this
  refine of_no_start hk (fun j hj => ?_) hlen (hkey _ (List.Sublist.refl _))
  obtain ⟨r, -, hj⟩ := List.mem_flatMap.mp hj
  rcases List.mem_append.mp hj with hj | hj
  · obtain ⟨i, rfl⟩ := mem_releaseJobs hj
    rfl
  · simp only [List.mem_cons, List.not_mem_nil, or_false] at hj
    rcases hj with rfl | rfl <;> rfl

/-- Jobs that write FREE or blank records alone. -/
theorem of_writes {js : List Job} {held : List HeldRec} (hk : k ≠ .hush)
    (hj : ∀ j ∈ js, (∃ i g, j = .free i g) ∨ ∃ i, j = .blank i) (hlen : ∀ r ∈ held, r.voices.length ≤ 8) :
    RunLaw k js held := by
  refine of_no_start hk (fun j h => ?_) hlen fun before j after hsplit r _ hj' => ?_
  · rcases hj j h with ⟨i, g, rfl⟩ | ⟨i, rfl⟩ <;> rfl
  · rcases hj j (by simp [hsplit]) with ⟨i, g, rfl⟩ | ⟨i, rfl⟩ <;> simp at hj'

/-- A hush frees every slot of the sounding order, and so every voice there is, before it clears the table (R109). -/
theorem of_hush (hh : HeldLaw s) (hs : SlotLaw s) (hlen : ∀ r ∈ s.eng.held, r.voices.length ≤ 8) :
    RunLaw .hush (s.eng.order.map (fun i => Job.free i true) ++ [.clearTable]) s.eng.held := by
  have hgo : (s.eng.order.map fun i => Job.free i true).filterMap Job.letsGo = s.eng.order := by
    simp [List.filterMap_map, Function.comp_def, Job.letsGo]
  have hjs : ∀ j ∈ s.eng.order.map (fun i => Job.free i true) ++ [.clearTable],
      j.startsFor = none ∧ (j = .clearTable ∨ j.letsGo ≠ none) := by
    intro j hj
    simp only [List.mem_append, List.mem_map, List.mem_singleton] at hj
    rcases hj with ⟨i, -, rfl⟩ | rfl
    · exact ⟨rfl, .inr (by simp [Job.letsGo])⟩
    · exact ⟨rfl, .inl rfl⟩
  refine ⟨fun before j after hsplit r hr hj i hi => ?_, fun r hr => ?_, fun ⟨j, hj, hst⟩ => absurd (hjs j hj).1 hst,
    fun _ => ⟨fun j hj => (hjs j hj).2, fun r hr i hi => ?_⟩⟩
  · obtain ⟨b, rfl, -⟩ := split_after hsplit fun hmem => by
      obtain ⟨l, -, rfl⟩ := List.mem_map.mp hmem
      simp at hj
    rw [List.filterMap_append, hgo]
    exact List.mem_append_left _ (hh.mem_order hs hr hi)
  · rw [List.filter_eq_nil_iff.mpr fun j hj => by simp [(hjs j hj).1]]
    exact hlen r hr
  · rw [List.filterMap_append, hgo]
    exact List.mem_append_left _ (hh.mem_order hs hr hi)

/-- A layer is not started by a hush, nor is a record voiced by one. -/
theorem ne_hush {j : Job} {js : List Job} {held : List HeldRec} (h : RunLaw k (j :: js) held) (hj : j.letsGo = none)
    (hc : j ≠ .clearTable) : k ≠ .hush := fun hk =>
  ((h.hush hk).1 j List.mem_cons_self).elim hc fun hn => hn hj

/-- Two jobs that let the same slot go are as good as each other. -/
theorem swap {i : Slot} {j j' : Job} {js : List Job} {held : List HeldRec} (h : RunLaw k (j :: js) held)
    (hj : j.letsGo = some i) (hj' : j'.letsGo = some i) : RunLaw k (j' :: js) held := by
  have hstart {x : Job} (hx : x.letsGo = some i) : x.startsFor = none := by cases x <;> first | rfl | cases hx
  refine ⟨fun before x after hsplit r hr hx l hl => ?_, fun r hr => ?_, fun ⟨x, hx, hst⟩ => ?_, fun hk => ⟨fun x hx => ?_,
    fun r hr l hl => ?_⟩⟩
  · cases before with
    | nil =>
      obtain ⟨rfl, -⟩ := by simpa using hsplit
      rcases hx with rfl | rfl | rfl <;> cases hj'
    | cons y before =>
      obtain ⟨rfl, rfl⟩ := by simpa using hsplit
      have := h.cleared (j :: before) x after rfl r hr hx l hl
      simpa [hj, hj'] using this
  · simpa [hstart hj, hstart hj'] using h.fits r hr
  · rcases List.mem_cons.mp hx with rfl | hx
    · exact absurd (hstart hj') hst
    · exact absurd (hstart hj) (h.starts ⟨x, List.mem_cons_of_mem _ hx, hst⟩ j List.mem_cons_self)
  · rcases List.mem_cons.mp hx with rfl | hx
    · exact .inr (by simp [hj'])
    · exact (h.hush hk).1 x (List.mem_cons_of_mem _ hx)
  · simpa [hj, hj'] using (h.hush hk).2 r hr l hl

end RunLaw

namespace TablesKept

variable {m : Option (ItemKind × List Job)} {k : ItemKind} {js : List Job} {s t : State} {p : Pos}

/-! ### The end of an item and its waits -/

theorem endItem (s : State) : TablesKept m s m (endItem s) :=
  beside (by rw [endItem_eng]; exact {}) (.inr (by rw [endItem_eng]))

theorem enterTransparent_tables (s : State) : SameTables s.eng (enterTransparent s).eng ∧
    (enterTransparent s).eng.item = s.eng.item := by
  have h : (enterTransparent s).eng = { s.eng with restrikeWalk := (enterTransparent s).eng.restrikeWalk } := by
    simp only [enterTransparent]
    rw [testSwap_eng]
    simp
  rw [h]
  exact ⟨{}, rfl⟩

theorem settledItem_tables (s : State) : SameTables s.eng (settledItem s).eng ∧
    ((settledItem s).eng.item = s.eng.item ∨ (settledItem s).eng.item = none) := by
  unfold settledItem
  split
  · split
    · rw [endItem_eng]
      exact ⟨{}, .inr rfl⟩
    · exact ⟨{}, .inl rfl⟩
  · exact ⟨{}, .inl rfl⟩

/-- The end of SETTLING empties the held-button table, and leaves the voices (R173). -/
theorem endSettling_tables (s : State) : SameTables { s.eng with held := [] } (endSettling s).eng ∧
    ((endSettling s).eng.item = s.eng.item ∨ (endSettling s).eng.item = none) := by
  rw [endSettling_eq, finish_eng, raiseFlag_eng]
  generalize hu : settledItem (s.setCtrl { s.ctrl with settleTimer := none, settleCut := false }) = u
  obtain ⟨hsame, hitem⟩ : SameTables s.eng u.eng ∧ (u.eng.item = s.eng.item ∨ u.eng.item = none) :=
    hu ▸ settledItem_tables (s.setCtrl { s.ctrl with settleTimer := none, settleCut := false })
  obtain ⟨hlast, hkept⟩ := enterTransparent_tables (settledEngine u)
  have he : (settledEngine u).eng = { u.eng with releaseAll := false, held := [], revWalk := none } := by
    simp [settledEngine]
  rw [he] at hlast hkept
  exact ⟨⟨hlast.free.trans hsame.free, hlast.order.trans hsame.order, hlast.counts.trans hsame.counts, hlast.held,
    fun i => ⟨(hlast.mirror i).1.trans (hsame.mirror i).1, (hlast.mirror i).2.1.trans (hsame.mirror i).2.1,
      (hlast.mirror i).2.2.trans (hsame.mirror i).2.2⟩⟩, hitem.imp hkept.trans hkept.trans⟩

/-- SETTLING ends when no record lists a voice (R173, R174). -/
theorem endSettling (h : VoicesLaw none s → ∀ r ∈ s.eng.held, r.voices = []) :
    TablesKept none s none (endSettling s) := by
  obtain ⟨hsame, hitem⟩ := endSettling_tables s
  refine emptied hsame h fun hs => ?_
  have hheld : (Machine.endSettling s).eng.held = [] := hsame.held
  rcases hitem with hitem | hitem
  · refine (itemLaw_iff _).mpr fun it hit => ?_
    obtain ⟨hrun, -, hpush⟩ := (itemLaw_iff s).mp hs.todo it (hitem ▸ hit)
    rw [hheld]
    exact ⟨hrun.mono (by simp), by simp, hpush⟩
  · exact itemLaw_of_none hitem

/-- The item ends; after the hush of a settle cut SETTLING ends with it, and no record lists a voice (R174). -/
theorem itemEnd (hk : VoicesLaw m s → k = .hush → ∀ r ∈ s.eng.held, r.voices = []) :
    TablesKept m s none (itemEnd k s) := by
  by_cases hhush : k = .hush
  · subst hhush
    generalize hu : endFilling (s.setEng { s.eng with item := none }) = u
    have he : u.eng = { s.eng with item := none } := by rw [← hu, endFilling_eng, State.setEng_eng]
    have hended : itemEnd .hush s = if u.ctrl.settleCut then Machine.endSettling u else u := by
      rw [← hu]
      rfl
    rw [hended]
    split
    · obtain ⟨hsame, hitem⟩ := endSettling_tables u
      rw [he] at hsame hitem
      exact emptied { hsame with } (fun hs => hk hs rfl) fun _ => itemLaw_of_none (hitem.elim id id)
    · exact of_same (by rw [he]; exact {}) fun _ => itemLaw_of_none (by rw [he])
  · exact of_same (by rw [itemEnd_eng hhush]; exact {}) fun _ => itemLaw_of_none (by rw [itemEnd_eng hhush])

/-- An item that is no hush may always end. -/
theorem itemEnd_of_ne (hk : k ≠ .hush) : TablesKept m s none (Machine.itemEnd k s) :=
  TablesKept.itemEnd fun _ h => absurd h hk

/-- The item waits to push, with jobs that agree with the table. -/
theorem waitPush (pu : Push) (h : VoicesLaw m s → RunLaw k (pu.job.toList ++ js) s.eng.held) :
    TablesKept m s none (waitFor k (.push pu) js s) :=
  of_same {} fun hs => (itemLaw_iff _).mpr fun it hit => by
    obtain rfl := Option.some.inj hit
    exact ⟨h hs, fun r _ hw => by simp at hw, fun _ => ⟨pu, rfl⟩⟩

/-- An item that is no hush waits for an entry or for a program. A record that waits for its program has no voice. -/
theorem waitMap {w : Wait} (hw : ∀ pu, w ≠ .push pu) (ht : t.eng = s.eng)
    (h : VoicesLaw m s → k ≠ .hush ∧
      ∀ r ∈ s.eng.held, w = .program r.pos ∨ w = .turnProgram r.pos → r.voices = []) :
    TablesKept m s none (waitFor k w [] t) :=
  of_same (by simp only [Machine.waitFor, State.setEng_eng, ht]; exact {}) fun hs => (itemLaw_iff _).mpr fun it hit => by
    obtain rfl := Option.some.inj hit
    obtain ⟨hk, hp⟩ := h hs
    have htodo : Item.todo { kind := k, wait := w, jobs := [] } = [] := by
      cases w with
      | push pu => exact absurd rfl (hw pu)
      | entry | program | turnEntry | turnProgram => rfl
    have hheld : (waitFor k w [] t).eng.held = s.eng.held := by rw [← ht]; rfl
    rw [htodo, hheld]
    exact ⟨.nil hk hs.lists_short, hp, fun h => absurd h hk⟩

theorem missEntry (b : Bank) (hk : VoicesLaw m s → k ≠ .hush) : TablesKept m s none (missEntry k b p s) := by
  unfold Machine.missEntry
  split
  · exact waitMap (by simp) rfl fun hs => ⟨hk hs, by simp⟩
  · exact waitMap (by simp) rfl fun hs => ⟨hk hs, by simp⟩

/-- A record that is voiced has no voice (R102). -/
theorem voiceRecord (h : VoicesLaw m s → k ≠ .hush ∧ ∀ r ∈ s.eng.held, r.pos = p → r.voices = []) :
    TablesKept m s none (voiceRecord k p s) := by
  have hend : TablesKept m s none (Machine.itemEnd k s) := TablesKept.itemEnd fun hs hk => absurd hk (h hs).1
  unfold Machine.voiceRecord
  split
  · exact hend
  · split
    · exact hend
    · split
      · exact hend
      · split
        · exact waitMap (by simp) rfl fun hs => ⟨(h hs).1, fun r hr hw => (h hs).2 r hr (by simpa [eq_comm] using hw)⟩
        · exact waitMap (by simp) rfl fun hs => ⟨(h hs).1, fun r hr hw => (h hs).2 r hr (by simpa [eq_comm] using hw)⟩

/-! ### Entries -/

/-- The entry of a press makes a record without a voice, and voices it (R101). -/
theorem pressEntered (b : Bank) (e : EntrySnap) : TablesKept m s none (pressEntered b p e s) := by
  unfold Machine.pressEntered
  dsimp only []
  split
  · next hcan =>
    refine (joined (n := some (.press p, [.voice p])) (r := ⟨p, b, e, s.eng.appliedDir, [], false⟩) hcan rfl
      (by rw [report_eng, State.setEng_eng]; exact {}) fun hs => ?_).trans
      (voiceRecord fun hs => ⟨by simp, fun r hr hp => ?_⟩)
    · have hmem {r : HeldRec} (hr : r ∈ s.eng.held ++ [⟨p, b, e, s.eng.appliedDir, [], false⟩]) :
          r ∈ s.eng.held ∨ r.voices = [] := by
        rcases List.mem_append.mp hr with hr | hr
        · exact .inl hr
        · exact .inr (by rw [List.mem_singleton.mp hr])
      show RunLaw _ _ (report s _).eng.held
      rw [report_eng, State.setEng_eng]
      refine .of_no_start (by simp) (by simp [Job.startsFor]) (fun r hr => ?_) fun before j after hsplit r hr hj i hi => ?_
      · rcases hmem hr with hr | hv
        · exact hs.lists_short r hr
        · simp [hv]
      · rcases hmem hr with hr | hv
        · have hpos : r.pos = p := by
            have : j = .voice p := by
              have := hsplit ▸ List.mem_append_right before (List.mem_cons_self (a := j) (l := after))
              simpa using this
            subst this
            simpa [eq_comm] using hj
          simp only [canHold, Bool.and_eq_true, Option.isNone_iff_eq_none] at hcan
          exact absurd (decide_eq_true hpos) (List.find?_eq_none.mp hcan.2 r hr)
        · rw [hv] at hi
          cases hi
    · have htodo : RunLaw (.press p) [.voice p] _ := hs.todo
      exact htodo.head_cleared hr (.inr (.inl (by rw [hp])))
  · exact itemEnd_of_ne (by simp)

/-- Steps 2 and 3 of a press (R101). -/
theorem pressRequest : TablesKept m s none (pressRequest p s) := by
  unfold Machine.pressRequest
  split
  · exact (of_eng (by simp)).trans (itemEnd_of_ne (by simp))
  · dsimp only []
    split
    · exact (of_eng (by simp)).trans (pressEntered _ _)
    · exact missEntry _ fun _ => by simp

/-! ### The run of an item's jobs -/

/-- A write is pushed: its job is done (R96). A FULL write needs the record that it starts a voice for. -/
theorem pushed {pu : Push} (hdue : ∀ p i steal l x d, pu = .full p i steal l x d → (findRec s.eng p).isSome = true) :
    TablesKept (some (k, pu.job.toList ++ js)) s (some (k, js)) (doPush pu s) := by
  have he := doPush_eng pu s
  cases pu with
  | full p i steal l x d => exact started he ⟨rfl, rfl⟩ (hdue p i steal l x d rfl)
  | releasing p i latch => exact released he rfl
  | freeing i g => exact freed he rfl
  | level i lvl =>
    have hm (j : Slot) : (((s.eng.mirror.set i { s.eng.mirror.get i with level := lvl }).get j).state,
        ((s.eng.mirror.set i { s.eng.mirror.get i with level := lvl }).get j).sect,
        ((s.eng.mirror.set i { s.eng.mirror.get i with level := lvl }).get j).owner) =
        ((s.eng.mirror.get j).state, (s.eng.mirror.get j).sect, (s.eng.mirror.get j).owner) := by
      rw [Tbl.get_set]
      split
      · next h => subst h; rfl
      · rfl
    exact beside (m := some (k, js)) (by rw [he]; exact { mirror := fun j => by simpa [pushEngine] using hm j })
      (.inl (by rw [he]; rfl))
  | blank i => exact blanked he rfl

/-- The job of a release, as the write that its section's latch asks for (R107). -/
theorem releasing (p : Pos) (i : Slot) : TablesKept (some (k, .releaseSlot p i :: js)) s
    (some (k, (releasePush s p i).job.toList ++ js)) s :=
  of_same {} fun hs => by
    have htodo : RunLaw k (.releaseSlot p i :: js) s.eng.held := hs.todo
    show RunLaw k ((releasePush s p i).job.toList ++ js) s.eng.held
    unfold releasePush
    dsimp only []
    split
    · exact htodo.swap (i := i) rfl rfl
    · exact htodo

/-- The run of an item keeps the laws, whatever it does and wherever it comes to wait or to end (R96). -/
theorem runJobs (js : List Job) : ∀ s, TablesKept (some (k, js)) s none (runJobs k js s) := by
  have pushOrWait {js : List Job} (ih : ∀ s, TablesKept (some (k, js)) s none (Machine.runJobs k js s)) (pu : Push)
      (s : State)
      (hdue : ∀ p i steal l x d, pu = .full p i steal l x d → (findRec s.eng p).isSome = true) :
      TablesKept (some (k, pu.job.toList ++ js)) s none
        (if canPush s pu then Machine.runJobs k js (doPush pu s) else waitFor k (.push pu) js s) := by
    split
    · exact (pushed hdue).trans (ih _)
    · exact waitPush pu fun hs => hs.todo
  induction js with
  | nil =>
    intro s
    refine itemEnd fun hs hk r hr => List.eq_nil_iff_forall_not_mem.mpr fun i hi => ?_
    have htodo : RunLaw k [] s.eng.held := hs.todo
    simpa using (htodo.hush hk).2 r hr i hi
  | cons j js ih =>
    intro s
    cases j with
    | releaseSlot p i =>
      exact (releasing p i).trans (pushOrWait ih _ s (by unfold releasePush; dsimp only []; split <;> simp))
    | free i g => exact pushOrWait ih (.freeing i g) s (by simp)
    | blank i => exact pushOrWait ih (.blank i) s (by simp)
    | removeRecord p => exact (removed (by rw [report_eng, State.setEng_eng])).trans (ih _)
    | finishGroup => exact (next (by rw [endFilling_eng]; exact {}) rfl).trans (ih _)
    | clearTable =>
      refine (emptied (n := some (k, js)) (by rw [report_eng, State.setEng_eng]; exact {}) (fun hs r hr => ?_)
        fun hs => ?_).trans (ih _)
      · have htodo : RunLaw k (.clearTable :: js) s.eng.held := hs.todo
        exact htodo.head_cleared hr (.inr (.inr rfl))
      · have htodo : RunLaw k (.clearTable :: js) s.eng.held := hs.todo
        exact (htodo.tail rfl).mono (by simp)
    | pressEntry p => exact pressRequest
    | voice p =>
      refine voiceRecord fun hs => ?_
      have htodo : RunLaw k (.voice p :: js) s.eng.held := hs.todo
      exact ⟨htodo.ne_hush rfl (by simp), fun r hr hp => htodo.head_cleared hr (.inr (.inl (by rw [hp])))⟩
    | layer p x l =>
      have hend : TablesKept (some (k, .layer p x l :: js)) s none (Machine.itemEnd k s) := itemEnd fun hs hk => by
        have htodo : RunLaw k (.layer p x l :: js) s.eng.held := hs.todo
        exact absurd hk (htodo.ne_hush rfl (by simp))
      have hdrop (r : DropReason) : TablesKept (some (k, .layer p x l :: js)) s none
          (Machine.runJobs k js (dropFor r s)) :=
        (next (by rw [dropFor_eng]; exact {}) rfl).trans (ih _)
      unfold Machine.runJobs
      split
      · exact hend
      · next r hr =>
        split
        · exact hdrop _
        · split
          · exact hdrop _
          · next i steal _ =>
            dsimp only []
            split
            · exact hend
            · refine pushOrWait ih (.full p i steal l x r.dir) s fun _ _ _ _ _ _ h => ?_
              cases h
              simp [hr]

/-! ### What the fetcher hands over -/

/-- An item begins to run through jobs that agree with the table. -/
theorem begins {js : List Job} (h : VoicesLaw m s → RunLaw k js s.eng.held) : TablesKept m s (some (k, js)) s :=
  of_same {} h

/-- An item that is no hush releases the voices of a record, and goes on with a tail of jobs. -/
theorem releases {r : HeldRec} {tail : List Job} (hr : r ∈ s.eng.held) (hk : k ≠ .hush)
    (hstart : ∀ j ∈ tail, j.startsFor = none)
    (hown : ∀ j ∈ tail, ∀ r' : HeldRec, j = .removeRecord r'.pos ∨ j = .voice r'.pos ∨ j = .clearTable →
      r'.pos = r.pos) : TablesKept m s none (Machine.runJobs k (releaseJobs r ++ tail) s) :=
  (begins fun hs => .of_releases hs.held hs.lists_short hr hk hstart hown).trans (runJobs _ s)

/-- A record takes its new entry, its voices are let go, and it is voiced (R141). -/
theorem restrikeEntered (b : Bank) (e : EntrySnap) : TablesKept m s none (restrikeEntered b p e s) := by
  unfold Machine.restrikeEntered
  refine (recordUpdated (f := fun r => { r with snap := e, bank := b }) p fun _ => ⟨rfl, rfl⟩).trans ?_
  dsimp only []
  split
  · exact itemEnd_of_ne (by simp)
  · next r hr =>
    have hpos : r.pos = p := by simpa using List.find?_some hr
    exact releases (List.mem_of_find?_eq_some hr) (by simp) (by simp [Job.startsFor]) (by simp [hpos, eq_comm])

theorem entryGiven (b : Bank) (e : EntrySnap) (hk : VoicesLaw m s → k ≠ .hush) :
    TablesKept m s none (entryGiven k b p e s) := by
  cases k with
  | press => exact pressEntered b e
  | restrikeStep => exact restrikeEntered b e
  | hush => exact itemEnd fun hs h => absurd h (hk hs)
  | releaseAll | reversalStep | expiry | release | sustainStep | sweepStep | rebuild => exact itemEnd_of_ne (by simp)

theorem requestEntry (b : Bank) (hk : VoicesLaw m s → k ≠ .hush) :
    TablesKept m s none (requestEntry k b p s) := by
  unfold Machine.requestEntry
  split
  · exact (of_eng (hitEntry_eng _ s)).trans (entryGiven _ _ fun hs => hk ((of_eng (hitEntry_eng _ s).symm).voices hs))
  · exact missEntry b hk

/-- What an item that waits for the map unit may count on: it is no hush, and a record that it waits for with its
program has no voice. -/
theorem waiting_law {it : Item} (hit : s.eng.item = some it) (hw : ∀ pu, it.wait ≠ .push pu) (hs : VoicesLaw none s) :
    it.kind ≠ .hush ∧ ∀ r ∈ s.eng.held, it.wait = .program r.pos ∨ it.wait = .turnProgram r.pos → r.voices = [] := by
  obtain ⟨-, hp, hpush⟩ := (itemLaw_iff s).mp hs.todo it hit
  refine ⟨fun hk => ?_, hp⟩
  obtain ⟨pu, h⟩ := hpush hk
  exact hw pu h

theorem discardOver (s : State) : TablesKept m s m (discardOver s) := beside {} (.inl rfl)

/-- An item that waited for an answer awaited for discard asks for its entry (R97). -/
theorem overEntry {it : Item} {q : Pos} (hit : s.eng.item = some it) (hw : it.wait = .turnEntry q) (b : Bank) :
    TablesKept none s none (Machine.requestEntry it.kind b q (Machine.discardOver s)) :=
  (discardOver s).trans (requestEntry b fun hs => (waiting_law (s := Machine.discardOver s) hit (by simp [hw]) hs).1)

/-- An item that waited for an answer awaited for discard asks for its program (R97). -/
theorem overProgram {it : Item} {q : Pos} (hit : s.eng.item = some it) (hw : it.wait = .turnProgram q) :
    TablesKept none s none (Machine.voiceRecord it.kind q (Machine.discardOver s)) :=
  (discardOver s).trans (voiceRecord fun hs => by
    obtain ⟨hk, hp⟩ := waiting_law (s := Machine.discardOver s) hit (by simp [hw]) hs
    exact ⟨hk, fun r hr hpos => hp r hr (by simp [hw, hpos])⟩)

theorem deliverEntry (b : Bank) (e : EntrySnap) : TablesKept none s none (deliverEntry b p e s) := by
  unfold Machine.deliverEntry
  split
  · next it hit =>
    split
    · next hw => exact entryGiven b e fun hs => (waiting_law hit (by simp [hw]) hs).1
    · next hw => exact overEntry hit hw _
    · next hw => exact overProgram hit hw
    all_goals exact discardOver s
  · exact discardOver s

/-- The layers of a program are those of a record without a voice, and no more than fit its list (R72, R102). -/
theorem deliverProgram {ls : List (Fin 8 × Layer)} (hls : ls.length ≤ 8) :
    TablesKept none s none (deliverProgram ls s) := by
  unfold Machine.deliverProgram
  split
  · next it hit =>
    split
    · next p hw =>
      refine (begins fun hs => ?_).trans (runJobs _ s)
      obtain ⟨hk, hp⟩ := waiting_law hit (by simp [hw]) hs
      have hjob {j : Job} (hj : j ∈ ls.map fun x => Job.layer p x.1 x.2) : ∃ x l, j = .layer p x l := by
        obtain ⟨x, -, rfl⟩ := List.mem_map.mp hj
        exact ⟨_, _, rfl⟩
      refine ⟨fun before j after hsplit r _ hj => ?_, fun r hr => ?_, fun _ j hj => ?_, fun h => absurd h hk⟩
      · obtain ⟨x, l, rfl⟩ := hjob (hsplit ▸ List.mem_append_right before List.mem_cons_self)
        simp at hj
      · by_cases hpos : r.pos = p
        · rw [hp r hr (by simp [hw, hpos])]
          refine (Nat.add_le_add_left (List.length_filter_le _ _) _).trans ?_
          simpa using hls
        · rw [List.filter_eq_nil_iff.mpr fun j hj => ?_]
          · exact hs.lists_short r hr
          · obtain ⟨x, l, rfl⟩ := hjob hj
            simpa [Job.startsFor] using Ne.symm hpos
      · obtain ⟨x, l, rfl⟩ := hjob hj
        simp [Job.startsFor]
    · next hw => exact overEntry hit hw _
    · next hw => exact overProgram hit hw
    all_goals exact discardOver s
  · exact discardOver s

/-- A write that had to wait is pushed, and its item goes on (R119). -/
theorem resumePush {it : Item} {pu : Push} (hit : s.eng.item = some it) (hw : it.wait = .push pu) :
    TablesKept none s none (resumePush it pu s) := by
  have hbegin : TablesKept none s (some (it.kind, pu.job.toList ++ it.jobs)) s := begins fun hs => by
    obtain ⟨hrun, -⟩ := (itemLaw_iff s).mp hs.todo it hit
    simpa [Item.todo, hw] using hrun
  unfold Machine.resumePush
  split
  · split
    · next hdue =>
      refine hbegin.trans ((pushed fun p i steal l x d h => ?_).trans (runJobs _ _))
      subst h
      simp only [stillDue, Bool.and_eq_true] at hdue
      exact hdue.2
    · next hdue =>
      refine hbegin.trans (itemEnd fun hs hk => ?_)
      cases pu with
      | full p i steal l x d =>
        have htodo : RunLaw it.kind (.layer p x l :: it.jobs) s.eng.held := hs.todo
        exact absurd hk (htodo.ne_hush rfl (by simp))
      | releasing | freeing | level | blank => exact absurd rfl hdue
  · exact refl s

end TablesKept

end Sys2Proof.Machine
end

section
/-! PROOFS. Every command keeps the laws of slots, records and item: the items of the engine, frame starts, and the
commands of the player (R92, R96, R106 to R110, R136, R141, R144, R146). -/

namespace Sys2Proof.Machine

namespace TablesKept

variable {s : State}

/-! ### The items of the voicing engine -/

theorem chooseFetch {t : State} (h : TablesKept none s none t) : TablesKept none s none (chooseFetch t) :=
  h.trans (of_eng (chooseFetch_eng t))

/-- A hush frees every slot of the sounding order (R109). -/
theorem hushItem (s : State) : TablesKept none s none (hushItem s) := by
  unfold Machine.hushItem
  dsimp only []
  generalize hu : endRestrike _ = u
  have hsame : TablesKept none s none u := by
    refine beside ?_ (.inl ?_) <;> rw [← hu, endRestrike_eng, State.setEng_eng] <;> split <;>
      simp only [raiseFlag_eng] <;> exact {}
  exact hsame.trans ((begins fun hs => .of_hush hs.held hs.slots hs.lists_short).trans (runJobs _ u))

/-- A release-all releases the voices of every record (R110). -/
theorem releaseAll (s : State) : TablesKept none s none
    (Machine.runJobs .releaseAll (s.eng.held.flatMap releaseAllJobs) (s.setEng { s.eng with releaseAll := false })) := by
  have hsame : TablesKept none s none (s.setEng { s.eng with releaseAll := false }) := beside {} (.inl rfl)
  exact hsame.trans ((begins fun hs => .of_releaseAll hs.held hs.lists_short (by simp)).trans (runJobs _ _))

/-- A visit of the reversal walk turns a record, and lets its voices go or not (R136). -/
theorem reversalStep (p : Pos) (s : State) : TablesKept none s none (reversalStep p s) := by
  unfold Machine.reversalStep
  split
  · next r hr =>
    apply chooseFetch
    have hturn : TablesKept none s none (turnRecord r.pos s) := recordUpdated r.pos fun _ => ⟨rfl, rfl⟩
    have hmem : { r with dir := s.eng.appliedDir } ∈ (turnRecord r.pos s).eng.held :=
      List.mem_map.mpr ⟨r, List.mem_of_find?_eq_some hr, if_pos rfl⟩
    unfold reversalVisit
    dsimp only []
    split
    · exact itemEnd_of_ne (by simp)
    · split
      · exact hturn.trans (itemEnd_of_ne (by simp))
      · exact hturn.trans (releases (r := { r with dir := s.eng.appliedDir }) hmem (by simp) (by simp [Job.startsFor])
          (by simp [eq_comm]))
      · have h := hturn.trans (releases (r := { r with dir := s.eng.appliedDir }) (k := .reversalStep r.pos)
          (tail := []) hmem (by simp) (by simp) (by simp))
        rwa [List.append_nil] at h
  · exact beside {} (.inl rfl)

/-- Frame expiry lowers the countdowns, and frees what has expired (R108). -/
theorem frameExpiry (s : State) : TablesKept none s none (frameExpiry s) := by
  unfold Machine.frameExpiry
  have hlow (n : Nat) (x : SlotRec) : (lowerCountdown n x).state = x.state ∧ (lowerCountdown n x).sect = x.sect ∧
      (lowerCountdown n x).owner = x.owner := by
    unfold lowerCountdown
    split <;> exact ⟨by simp_all, rfl, rfl⟩
  have hsame : TablesKept none s none (s.setEng { s.eng with
      mirror := s.eng.mirror.map (lowerCountdown s.eng.pendingFrames), pendingFrames := 0 }) :=
    beside { mirror := fun i => by simpa using hlow _ _ } (.inl rfl)
  refine hsame.trans ((begins fun hs => .of_writes (by simp) (fun j hj => .inl ?_) hs.lists_short).trans (runJobs _ _))
  obtain ⟨i, -, rfl⟩ := List.mem_map.mp hj
  exact ⟨i, false, rfl⟩

theorem takeEvent (s : State) : TablesKept none s none (takeEvent s) := of_eng (takeEvent_eng s)

theorem pressItem (p : Pos) (s : State) : TablesKept none s none (pressItem p s) := by
  unfold Machine.pressItem
  refine (takeEvent s).trans ?_
  dsimp only []
  split
  · next r hr =>
    have hpos : r.pos = p := by simpa using List.find?_some hr
    exact releases (List.mem_of_find?_eq_some hr) (by simp) (by simp [Job.startsFor]) (by simp [hpos, eq_comm])
  · exact pressRequest

theorem releaseItem (p : Pos) (s : State) : TablesKept none s none (releaseItem p s) := by
  unfold Machine.releaseItem
  refine (takeEvent s).trans ?_
  dsimp only []
  split
  · exact itemEnd_of_ne (by simp)
  · next r hr =>
    have hpos : r.pos = p := by simpa using List.find?_some hr
    split
    · exact (recordUpdated (f := fun r => { r with sustained := true }) p fun _ => ⟨rfl, rfl⟩).trans
        (itemEnd_of_ne (by simp))
    · exact releases (List.mem_of_find?_eq_some hr) (by simp) (by simp [Job.startsFor]) (by simp [hpos, eq_comm])

theorem sustainStep (s : State) : TablesKept none s none (sustainStep s) := by
  unfold Machine.sustainStep
  split
  · exact beside {} (.inl rfl)
  · split
    · exact beside {} (.inl rfl)
    · next r hr =>
      exact releases (List.mem_of_find?_eq_some hr) (by simp) (by simp [Job.startsFor]) (by simp [eq_comm])

theorem restrikeStep (s : State) : TablesKept none s none (restrikeStep s) := by
  unfold Machine.restrikeStep
  split
  · exact beside (by rw [endRestrike_eng]; exact {}) (.inl (by rw [endRestrike_eng]))
  · exact chooseFetch (requestEntry _ fun _ => by simp)

/-- A step of the level sweep touches no list (R146). -/
theorem sweepStep (i : Slot) (s : State) : TablesKept none s none (sweepStep i s) := by
  have hbegin {lvl : Nat} : TablesKept none s (some (.sweepStep i, (Push.level i lvl).job.toList ++ [])) s :=
    begins fun hs => .nil (by simp) hs.lists_short
  unfold Machine.sweepStep
  dsimp only []
  split
  · exact itemEnd_of_ne (by simp)
  · split
    · exact hbegin.trans ((pushed (by simp)).trans (itemEnd_of_ne (by simp)))
    · exact hbegin.trans (waitPush _ fun hs => hs.todo)

/-! ### Hushes, transitions and frame starts -/

theorem announceHush (s : State) : TablesKept none s none (announceHush s) := by
  unfold Machine.announceHush endForHush
  dsimp only []
  generalize hu : ((report s (s.setScan s.scan.hush)).setEng _).setBellows _ = u
  have hsame : TablesKept none s none u := by
    refine beside ?_ (.inl ?_) <;> simp only [← hu, State.setBellows_eng, State.setEng_eng, report_eng,
      State.setScan_eng]
    exact {}
  split
  · exact hsame
  · exact hsame.trans (endItem u)

theorem enterTransparent (s : State) : TablesKept none s none (enterTransparent s) :=
  beside (enterTransparent_tables s).1 (.inl (enterTransparent_tables s).2)

theorem testSwap (s : State) : TablesKept none s none (testSwap s) :=
  beside (by rw [testSwap_eng]; exact {}) (.inl (by rw [testSwap_eng]))

theorem enterSettling (s : State) : TablesKept none s none (enterSettling s) :=
  beside (by rw [enterSettling_eng]; exact {}) (.inl (by rw [enterSettling_eng]))

theorem workOutSustain (c : Control) (s : State) : TablesKept none s none (workOutSustain (s.setCtrl c)) :=
  beside (by rw [workOutSustain_eng]; exact {}) (.inl (by rw [workOutSustain_eng]; rfl))

theorem beginSettleCut (s : State) : TablesKept none s none (beginSettleCut s) := by
  unfold Machine.beginSettleCut
  have hctrl : TablesKept none s none (s.setCtrl { s.ctrl with settleCut := true, settleTimer := none }) := of_eng rfl
  dsimp only []
  split
  · exact hctrl
  · split
    · refine (hctrl.trans ?_).trans (endItem _)
      exact beside {} (.inl rfl)
    · exact hctrl
    · exact hctrl

/-- SETTLING ends at a frame start when no slot stands in the sounding order (R173): then no record lists a voice. -/
theorem frameSettle (s : State) : TablesKept none s none (frameSettle s) := by
  unfold Machine.frameSettle
  have hctrl : TablesKept none s none
      (s.setCtrl { s.ctrl with settleFrames := nextSettleFrame s.ctrl.settleFrames }) := of_eng rfl
  dsimp only []
  split
  · exact hctrl
  · split
    · next horder =>
      refine hctrl.trans (endSettling fun hs r hr => List.eq_nil_iff_forall_not_mem.mpr fun i hi => ?_)
      have := hs.held.mem_order hs.slots hr hi
      rw [State.setCtrl_eng, horder] at this
      cases this
    · split
      · exact hctrl.trans (beginSettleCut _)
      · exact hctrl

theorem frameControl (s : State) : TablesKept none s none (frameControl s) := by
  unfold Machine.frameControl
  split
  · exact testSwap s
  · exact (testSwap s).trans (frameSettle _)
  all_goals exact refl s

theorem frameStart (s : State) : TablesKept none s none (frameStart s) := by
  unfold Machine.frameStart
  dsimp only []
  generalize hu : report _ _ = u
  have hsame : TablesKept none s none u := by
    refine beside ?_ (.inl ?_) <;> simp only [← hu, report_eng, State.setBellows_eng, State.setEng_eng,
      State.setTone_eng]
    exact {}
  have hscan : TablesKept none u none (frameScan u) :=
    beside (by rw [frameScan_eng]; exact {}) (.inl (by rw [frameScan_eng]))
  exact (hsame.trans hscan).trans (frameControl _)

theorem answerTRead (r : ReadReq) (d : Tbl 8 Word) (s : State) : TablesKept none s none (answerTRead r d s) := by
  unfold Machine.answerTRead
  dsimp only []
  split
  · exact (of_eng (by simp)).trans (frameStart _)
  · exact of_eng (by simp)

/-! ### The player's commands -/

theorem actSwap (m : SwapMode) (s : State) : TablesKept none s none (actSwap m s) := by
  unfold Machine.actSwap
  split
  · exact of_eng (by simp)
  · dsimp only []
    split
    · exact (of_eng (by simp)).trans (testSwap _)
    · exact of_eng (by simp)

theorem takeReinit (s : State) : TablesKept none s none (takeReinit s) := reset (by simp [Machine.takeReinit])

theorem actPlain (o : Opcode) (s : State) : TablesKept none s none (actPlain o s) := by
  cases o with
  | panic => exact (announceHush s).trans (of_eng (answer_eng _ _))
  | reinit => exact takeReinit s
  | perform => exact of_eng (actPerform_eng s)
  | guardLock => exact of_eng (actGuardLock_eng s)
  | flush => exact (of_eng (flushCache_eng s)).trans (of_eng (answer_eng _ _))
  | standby | swap | sustain | guard | ack => exact refl s

theorem actWith (o : Opcode) (a : Word) (s : State) : TablesKept none s none (actWith o a s) := by
  have hanswer (r : CmdResult) : TablesKept none s none (answer r s) := of_eng (answer_eng r s)
  unfold Machine.actWith
  split
  · split
    · unfold actSettle
      split
      · exact (enterSettling s).trans (of_eng (by simp))
      all_goals first | exact hanswer _ | exact refl s
    · unfold actCut
      split
      · exact ((announceHush s).trans (enterTransparent _)).trans (of_eng (by simp))
      all_goals first | exact hanswer _ | exact refl s
    · exact hanswer _
  · split
    · exact actSwap _ s
    · exact hanswer _
  · have hsustain (b : Bool) : TablesKept none s none (actSustain b s) :=
      (workOutSustain _ s).trans (of_eng (answer_eng _ _))
    split
    · exact hsustain _
    · exact hsustain _
    · exact hanswer _
  · exact of_eng (actGuard_eng a s)
  · exact of_eng (by simp)
  all_goals exact actPlain _ s

theorem takeCommand (w : Word) (a : Option Word) (n : Nat) (s : State) :
    TablesKept none s none (takeCommand w a n s) := by
  unfold Machine.takeCommand
  have htaken : TablesKept none s none (takeOpcode (byteAt w 0) s) := of_eng (by simp)
  have hanswer (r : CmdResult) : TablesKept none s none (answer r (takeOpcode (byteAt w 0) s)) := of_eng (by simp)
  dsimp only []
  split
  · exact hanswer _
  · split
    · exact hanswer _
    · split
      · exact hanswer _
      · split
        · split
          · exact htaken.trans (actWith _ _ _)
          · exact of_eng (by simp)
        · exact htaken.trans (actPlain _ _)

end TablesKept

end Sys2Proof.Machine
end

section
/-! PROOFS. Every step keeps the laws of slots, records and item: requests, the answers of RAM, INIT, and the step
itself (R90, R91, R92, R96). -/

namespace Sys2Proof.Machine

namespace TablesKept

variable {s : State}

/-! ### Requests -/

theorem announce (x : Area) (ws : List NamedWord) (s : State) : TablesKept none s none (announce x ws s) := by
  cases x with
  | scan => exact of_eng (announceScan_eng ws s)
  | mapA => exact of_eng (announceMap_eng .bankA ws s)
  | mapB => exact of_eng (announceMap_eng .bankB ws s)
  | sections => exact of_eng (announceSections_eng ws s)
  | command =>
    show TablesKept none s none (announceCommand ws s)
    unfold announceCommand
    dsimp only []
    split
    · exact refl s
    · exact takeCommand _ _ _ s
  | descriptor | spareLow | status | spareHigh | programs | voices | ram | beyond | other => exact refl s

theorem acceptPWrite (w : WriteReq) (s : State) : TablesKept none s none (acceptPWrite w s) := by
  unfold Machine.acceptPWrite
  apply chooseFetch
  exact foldl_keeps (P := fun t => TablesKept none s none t) _ _ (fun t x ht => ht.trans (announce x _ t)) _
    (of_eng (by simp))

theorem pWrite (w : WriteReq) (s : State) : TablesKept none s none (pWrite w s) := by
  unfold Machine.pWrite
  split
  · exact refl s
  split
  · exact of_eng (by simp)
  split
  · exact of_eng (by simp)
  split
  · exact of_eng (by simp)
  split
  · exact of_eng (by simp)
  split
  · exact of_eng (by simp)
  · exact acceptPWrite w s

theorem tRead (r : ReadReq) (s : State) : TablesKept none s none (tRead r s) := by
  unfold Machine.tRead
  split
  · exact refl s
  split
  · exact of_eng (by simp)
  split
  · exact of_eng (by simp)
  split
  · exact of_eng (by simp)
  split
  · exact (of_eng (State.setTone_eng s _)).trans (answerTRead _ _ _)
  all_goals exact of_eng (by simp)

/-! ### The answers of RAM -/

/-- RAM's answer keeps the laws when its effect does. -/
theorem landing {isMine : Owner → Bool} {e : Bool} {effect : Access → State → State}
    (he : ∀ a t, TablesKept none t none (effect a t)) : TablesKept none s none (landing isMine e effect s) :=
  landing_keeps (P := fun t => TablesKept none s none t) (fun h => h.trans (of_eng (by simp)))
    (fun a t h => h.trans (of_eng (by simp))) (fun a t _ _ h => h.trans (he a t)) (refl s)

theorem tReadDone (x : RamAnswer) (a : Access) (s : State) : TablesKept none s none (tReadDone x a s) := by
  cases x with
  | done w => exact (of_eng (endService_eng s)).trans (answerTRead _ _ _)
  | error => exact (of_eng (endService_eng s)).trans (of_eng (answerT_eng _ _))

theorem pWriteLanded (a : Access) (s : State) : TablesKept none s none (pWriteLanded a s) := by
  unfold Machine.pWriteLanded
  dsimp only []
  apply chooseFetch
  generalize hu : argumentNearer _ = u
  have hsame : TablesKept none s none u := of_eng (by rw [← hu, argumentNearer_eng, State.setPlayer_eng])
  refine hsame.trans ?_
  unfold testSwapLanding
  split
  · split
    · exact testSwap u
    · exact refl u
  · exact refl u

theorem entryLanded (x : RamAnswer) (b : Bank) (p : Pos) (s : State) : TablesKept none s none (entryLanded x b p s) := by
  unfold Machine.entryLanded
  dsimp only []
  split
  · exact chooseFetch ((of_eng (endFetch_eng s)).trans (deliverEntry b _))
  · have hcache (e : CacheEntry) (o : Bool) : (if o = true then endFetch s else
        (endFetch s).setMap { (endFetch s).map with cache := install e (endFetch s).map.cache }).eng = s.eng := by
      split <;> simp
    exact chooseFetch (trans (of_eng ((handEntry_eng b p _ _).trans (hcache _ _))) (deliverEntry b _))

theorem layersOf_length (ws : List Word) (n : Nat) : (layersOf ws n).length ≤ 8 := by
  rw [layersOf, List.length_map]
  exact (List.length_take_le' n _).trans (List.length_finRange (n := 8)).le

theorem programLanded (x : RamAnswer) (n : ProgNo) (s : State) : TablesKept none s none (programLanded x n s) := by
  have hhanded (ws : List Word) : TablesKept none s none (programHanded ws s) :=
    chooseFetch ((of_eng (endFetch_eng s)).trans (deliverProgram (layersOf_length _ _)))
  unfold Machine.programLanded
  split
  · exact refl s
  split
  · exact chooseFetch ((of_eng (endFetch_eng s)).trans (deliverProgram (by simp)))
  split
  · exact hhanded _
  dsimp only []
  split
  · exact hhanded _
  split
  · exact of_eng (State.setMap_eng s _)
  · exact chooseFetch (trans (of_eng (by simp)) (deliverProgram (by simp)))

theorem argumentLanded (x : RamAnswer) (s : State) : TablesKept none s none (argumentLanded x s) := by
  unfold Machine.argumentLanded
  dsimp only []
  split
  · exact of_eng (by simp)
  split
  · exact chooseFetch (trans (of_eng (by simp)) (actWith _ _ _))
  · exact of_eng (by simp)

/-! ### INIT -/

/-- INIT's writes of blank records list no voice (R15). -/
theorem beginVoiceTable (s : State) : TablesKept none s none (beginVoiceTable s) := by
  unfold Machine.beginVoiceTable
  dsimp only []
  refine trans (reset ?_) ((begins fun hs => .of_writes (by simp) (fun j hj => .inr ?_) hs.lists_short).trans
    (runJobs _ _))
  · simp
  · obtain ⟨i, -, rfl⟩ := List.mem_map.mp hj
    exact ⟨i, rfl⟩

theorem sectionsLanded (x : RamAnswer) (s : State) : TablesKept none s none (sectionsLanded x s) := by
  unfold Machine.sectionsLanded
  split
  · dsimp only []
    split
    · exact trans (of_eng (by simp)) (beginVoiceTable _)
    · exact of_eng (by simp)
  all_goals exact of_eng (endFetch_eng s)

theorem endInit (s : State) : TablesKept none s none (endInit s) := by
  unfold Machine.endInit
  dsimp only []
  generalize hu : (if s.ctrl.valid then _ else _ : State) = u
  have hsame : TablesKept none s none u := of_eng (by rw [← hu]; split <;> simp)
  split
  · exact hsame.trans (of_eng (enterPerforming_eng u))
  · exact hsame.trans (enterTransparent u)

theorem enterHeld (b : Bool) (s t : State) : TablesKept none s none (enterHeld b t) := reset rfl

theorem heldRelease {x y : Bool} {d : BitVec 2} {b : Bool} {t : State}
    (hx : execHeldRelease x y d b s = .next t) : TablesKept none s none t := by
  unfold execHeldRelease at hx
  split at hx
  · cases hx
    split
    · exact of_eng (by simp [releaseHeld])
    · split
      · exact enterHeld _ s _
      · exact of_eng (State.setPins_eng s _)
  · cases hx
    exact refl s

/-! ### Frame starts that bring something about, and the timers -/

theorem tReadCompletes (x : RamAnswer) (s : State) : TablesKept none s none (tReadCompletes x s) :=
  landing fun a t => tReadDone x a t

theorem frameAnswer (f : FrameCause) (s : State) : TablesKept none s none (frameAnswer f s) := by
  cases f with
  | completes words => exact tReadCompletes _ s
  | heldRead r => exact tRead r s

theorem hushPinChange (high : Bool) (s : State) : TablesKept none s none (readHush high s) := by
  unfold readHush
  dsimp only []
  split
  · exact trans (of_eng (by simp)) (announceHush _)
  · exact of_eng (by simp)

/-! ### The step -/

theorem exec {i : Instr} {t : State} (hx : exec i s = .next t) : TablesKept none s none t := by
  cases i with
  | powerOnDetect => cases hx; exact enterHeld _ s _
  | resetLow =>
    cases hx
    dsimp only []
    split
    · exact of_eng (State.setPins_eng s _)
    · exact enterHeld _ s _
  | heldRelease x y d b => exact heldRelease hx
  | drainPhaseEnd =>
    simp only [Machine.exec, execDrainPhaseEnd] at hx
    split at hx <;> cases hx
    · exact of_eng (by simp)
    · exact refl s
  | descriptorReadLands a => cases hx; exact landing fun _ t => of_eng (descriptorLanded_eng a t)
  | sectionsPhaseReadLands a => cases hx; exact landing fun _ t => sectionsLanded a t
  | voiceTablePhaseEnd =>
    simp only [Machine.exec, execVoiceTablePhaseEnd] at hx
    split at hx <;> cases hx
    · exact of_eng (enterSnapshotPhase_eng s)
    · exact refl s
  | initEnd =>
    simp only [Machine.exec, execInitEnd] at hx
    split at hx <;> cases hx
    · exact endInit s
    · exact refl s
  | hushPinChange high =>
    cases hx
    dsimp only []
    split
    · exact of_eng (State.setPins_eng s _)
    · exact (of_eng (State.setPins_eng s _)).trans (hushPinChange high _)
  | sustPinChange high =>
    cases hx
    dsimp only []
    split
    · exact of_eng (State.setPins_eng s _)
    · exact (of_eng (State.setPins_eng s _)).trans (workOutSustain _ _)
  | pWrite w => cases hx; exact pWrite w s
  | unknownOpcode o c | perform c | swap c | panic c | sustain c | guard c | guardLock c | ack c | reinit c | flush c =>
    cases hx; exact pWrite _ s
  | standbySettle x y | standbyCut x y => cases hx; exact pWrite _ s
  | pRead r => cases hx; exact of_eng (pRead_eng r s)
  | tRead r => cases hx; exact tRead r s
  | tWrite w => cases hx; exact of_eng (tWrite_eng w s)
  | mportGrant => cases hx; exact of_eng (grant_eng s)
  | pWriteLands k => cases hx; exact landing fun a t => pWriteLanded a t
  | pReadCompletes a => cases hx; exact landing fun x t => of_eng (pReadDone_eng a x t)
  | tReadCompletes a => cases hx; exact tReadCompletes a s
  | tWriteCompletes k => cases hx; exact landing fun _ t => of_eng (tWriteDone_eng k t)
  | scanSilenceTrip f =>
    simp only [Machine.exec, execScanSilenceTrip] at hx
    split at hx <;> cases hx
    · exact frameAnswer f s
    · exact refl s
  | reversalHoldEnd f =>
    simp only [Machine.exec, execReversalHoldEnd] at hx
    split at hx <;> cases hx
    · exact frameAnswer f s
    · exact refl s
  | settleCut f =>
    simp only [Machine.exec, execSettleCut] at hx
    split at hx <;> cases hx
    · exact frameAnswer f s
    · exact refl s
  | settleTimerEnd =>
    simp only [Machine.exec, execSettleTimerEnd] at hx
    split at hx <;> [split at hx; skip] <;> cases hx
    · exact trans (of_eng (by simp [reachTime])) (beginSettleCut _)
    · exact refl s
    · exact refl s
  | groupLate =>
    simp only [Machine.exec, execGroupLate] at hx
    split at hx <;> cases hx
    · exact of_eng (by simp [groupLate, reachTime])
    · exact refl s
  | heldReadDiscard =>
    simp only [Machine.exec, execHeldReadDiscard] at hx
    split at hx <;> cases hx
    · exact of_eng (by simp [reachTime])
    all_goals exact refl s
  | voiceWriteLands k => cases hx; exact landing fun _ t => of_eng (voiceLanded_eng t)
  | heldReadFillLands a => cases hx; exact landing fun _ t => of_eng (fillLanded_eng a t)
  | mapEntryFetchLands a =>
    cases hx
    refine landing fun acc u => ?_
    split
    · exact entryLanded _ _ _ u
    · exact refl u
  | programFetchLands a =>
    cases hx
    refine landing fun acc u => ?_
    split
    · exact programLanded _ _ u
    · exact refl u
  | sectionReloadLands a =>
    cases hx
    refine landing fun acc u => ?_
    split
    · exact of_eng (reloadLanded_eng _ _ u)
    · exact refl u
  | argumentReadLands a => cases hx; exact landing fun _ t => argumentLanded a t
  | snapshotAccessLands k => cases hx; exact landing fun _ t => of_eng (snapshotLanded_eng t)
  | pushWaitEnd =>
    simp only [Machine.exec, execPushWaitEnd] at hx
    split at hx
    · next it hit =>
      split at hx <;> cases hx
      · next hw => exact chooseFetch (resumePush hit hw)
      all_goals exact refl s
    · cases hx
      exact refl s
  | hushItem =>
    simp only [Machine.exec, execHushItem] at hx
    split at hx <;> cases hx
    · exact hushItem s
    · exact refl s
  | releaseAll =>
    simp only [Machine.exec, execReleaseAll] at hx
    split at hx <;> cases hx
    · exact releaseAll s
    · exact refl s
  | takeReversalNotice =>
    simp only [Machine.exec, execTakeReversalNotice] at hx
    split at hx <;> [split at hx; skip] <;> cases hx
    · exact beside {} (.inl rfl)
    · exact refl s
    · exact refl s
  | reversalWalkStep =>
    simp only [Machine.exec, execReversalWalkStep] at hx
    split at hx <;> [split at hx; skip] <;> cases hx
    · exact reversalStep _ s
    · exact refl s
    · exact refl s
  | frameExpiry =>
    simp only [Machine.exec, execFrameExpiry] at hx
    split at hx <;> cases hx
    · exact frameExpiry s
    · exact refl s
  | press =>
    simp only [Machine.exec, execPress] at hx
    split at hx <;> [split at hx; skip] <;> cases hx
    · exact chooseFetch (pressItem _ s)
    · exact refl s
    · exact refl s
  | release =>
    simp only [Machine.exec, execRelease] at hx
    split at hx <;> [split at hx; skip] <;> cases hx
    · exact releaseItem _ s
    · exact refl s
    · exact refl s
  | sustainOffWalkStep =>
    simp only [Machine.exec, execSustainOffWalkStep] at hx
    split at hx <;> cases hx
    · exact sustainStep s
    · exact refl s
  | restrikeWalkStep =>
    simp only [Machine.exec, execRestrikeWalkStep] at hx
    split at hx <;> cases hx
    · exact restrikeStep s
    · exact refl s
  | takeLevelNotice =>
    simp only [Machine.exec, execTakeLevelNotice] at hx
    split at hx <;> [split at hx; skip] <;> cases hx
    · exact beside {} (.inl rfl)
    · exact refl s
    · exact refl s
  | levelSweepStep =>
    simp only [Machine.exec, execLevelSweepStep] at hx
    split at hx <;> [split at hx; skip] <;> cases hx
    · exact sweepStep _ s
    · exact refl s
    · exact refl s

theorem step {t : State} (hst : step s = .next t) : TablesKept none s none t := by
  unfold Machine.step at hst
  split at hst
  · cases hst
    exact refl s
  · next c rest _ => exact trans (t := { s with pending := rest }) (of_eng rfl) (exec hst)

end TablesKept

/-- Settles O56: each step is made of moves that keep the laws, while an item runs through its jobs as well. -/
theorem everyStepKeepsTheSlotAndHeldLaws : Obligations.EveryStepKeepsTheSlotAndHeldLaws := by
  refine ⟨fun s t hs hst => (TablesKept.step hst).slots hs, fun s t ⟨hs, hh⟩ hst => ?_,
    fun s t ⟨hs, hh, hl, hi⟩ hst => ?_⟩
  · have hkept := TablesKept.step hst
    exact ⟨hkept.slots hs, hkept.held hs hh⟩
  · obtain ⟨hs, hh, hl, hi⟩ := (TablesKept.step hst).voices (m := none) ⟨hs, hh, hl, hi⟩
    exact ⟨hs, hh, hl, hi⟩

end Sys2Proof.Machine
end

section
/-! PROOFS. RELEASE and SUSTAIN_OFF_WALK_STEP (R106, R107, R132, R144). -/

namespace Sys2Proof.Machine

/-! ### A record's voices go, and then the record (R107, R132) -/

/-- The release of a record's voices by a run from `v`, shown by a state that has the slots and the voice writer as the
run and the end of its item leave them. -/
theorem SameSlots.released {s v t u : State} (h : SameSlots s v) {p : Pos} {l : List Slot} (hrun : ReleaseRun p l v t)
    (hmirror : u.eng.mirror = t.eng.mirror) (horder : u.eng.order = t.eng.order) (hfree : u.eng.free = t.eng.free)
    (hsweep : u.eng.sweep = t.eng.sweep) (hqueue : u.voice.queue = t.voice.queue)
    (hgroups : u.voice.groups = (t.voice.groups.map fun g => { g with filling := false }).filter fun g => !g.closable) :
    Released s u p l := by
  obtain ⟨h₁, h₂, h₃, h₄, h₅, h₆⟩ := h.releasedAs (u := t.setVoice u.voice) (it := t.eng.item) (filling := false) hrun
    hqueue rfl fun hl => by
      rw [State.setVoice_voice, hgroups, hrun.groups, if_neg hl, openedGroup_congr h]
      refine List.mem_filter.mpr ⟨List.mem_map_of_mem (List.mem_append_right _ (List.mem_singleton.mpr rfl)), ?_⟩
      simpa [Group.closable, openedGroup] using hl
  unfold Released ReleasedAs
  rw [hmirror, horder, hfree, hsweep]
  exact ⟨h₁, h₂, h₃, h₄, h₅, h₆⟩

/-- What the release of a record's voices and its removal leave, by an item that then ends. -/
structure RecordReleased (p : Pos) (l : List Slot) (s t : State) : Prop where
  released : Released s t p l
  held : t.eng.held = (withoutSlots l s.eng.held).filter fun x => decide (x.pos ≠ p)
  revWalk : t.eng.revWalk = placeLeaving p s.eng
  item : t.eng.item = none

/-- With room, a release and a sustain-off step run to their end (R106, R144). -/
theorem runJobs_recordReleased {k : ItemKind} {s v : State} {p : Pos} {l : List Slot}
    (hk : k = .release p ∨ k = .sustainStep p) (hsame : SameSlots s v) (hheld : v.eng.held = s.eng.held)
    (hwalk : v.eng.revWalk = s.eng.revWalk) (ho : Ordered s l) (hroom : RoomFor s l.length) :
    RecordReleased p l s (runJobs k (l.map (Job.releaseSlot p) ++ [.removeRecord p]) v) ∧
    (runJobs k (l.map (Job.releaseSlot p) ++ [.removeRecord p]) v).eng.sustainWalk = v.eng.sustainWalk ∧
    StatusKept v (runJobs k (l.map (Job.releaseSlot p) ++ [.removeRecord p]) v) := by
  obtain ⟨t, hrun, hrel⟩ := runJobs_releases k p [.removeRecord p] (s := v) (l := l)
    (by rw [Ordered, hsame.order]; exact ho) (by rw [RoomFor, hsame.voice]; exact hroom)
  have hgone : runJobs k [.removeRecord p] t = itemEnd k (recordRemoved p t) := rfl
  rw [hrun, hgone]
  have hhush : k ≠ .hush := by rcases hk with rfl | rfl <;> simp
  have heng : (itemEnd k (recordRemoved p t)).eng = { removeRec p t.eng with item := none } := by
    rw [itemEnd_eng hhush, recordRemoved_eng]
    rcases hk with rfl | rfl <;> rfl
  have hpos : t.eng.held.map (·.pos) = s.eng.held.map (·.pos) := by rw [hrel.held, map_pos_withoutSlots, hheld]
  refine ⟨⟨hsame.released hrel ?_ ?_ ?_ ?_ ?_ ?_, ?_, ?_, ?_⟩, ?_, ?_⟩
  · rw [heng]; rfl
  · rw [heng]; rfl
  · rw [heng]; rfl
  · rw [heng]; rfl
  · rw [itemEnd_queue, recordRemoved_voice]
  · rw [itemEnd_groups hhush, recordRemoved_voice]
  · rw [heng, ← hheld, ← hrel.held]; rfl
  · rw [heng]
    exact placeAfter_of_pos (.reversalStep p) ((congrArg Engine.revWalk hrel.eng).trans hwalk) hpos
  · rw [heng]
  · exact (congrArg Engine.sustainWalk heng).trans ((congrArg Engine.sustainWalk hrel.eng).trans rfl)
  · exact (hrel.status.trans (by simp [StatusKept, recordRemoved])).trans (.of_stat (itemEnd_stat hhush _))

/-! ### The commands -/

theorem exec_release {s : State} {p : Pos} {evs : List ButtonEvent} (h : Takes s .release)
    (he : s.scan.events = { isPress := false, pos := p } :: evs) : exec .release s = .next (releaseItem p s) := by
  show execRelease s = _
  rw [execRelease, if_pos (show nextItem s = some .release from h), he]

theorem exec_sustainOffWalkStep {s : State} (h : Takes s .sustainStep) :
    exec .sustainOffWalkStep s = .next (sustainStep s) :=
  if_pos h

theorem outsideKept_takeEvent (s : State) : OutsideKept s (takeEvent s) := by simp [OutsideKept, takeEvent]

theorem sameSlots_takeEvent (s : State) : SameSlots s (takeEvent s) := by constructor <;> simp [takeEvent]

/-- An item that changes records only, and ends. -/
theorem itemEnd_release_eng (p : Pos) {s : State} (h : s.eng.item = none) : (itemEnd (.release p) s).eng = s.eng := by
  rw [itemEnd_eng (by simp), ← h]
  rfl

section Release

variable {s : State} {p : Pos}

theorem releaseItem_new (h : findRec s.eng p = none) : releaseItem p s = itemEnd (.release p) (takeEvent s) := by
  unfold releaseItem
  dsimp only []
  rw [takeEvent_eng, h]

theorem releaseItem_sustained {r : HeldRec} (h : findRec s.eng p = some r) (hs : s.ctrl.sustain = true) :
    releaseItem p s = itemEnd (.release p)
      ((takeEvent s).setEng (updateRec p (fun r => { r with sustained := true }) s.eng)) := by
  have hs' : (takeEvent s).ctrl.sustain = true := by simpa [takeEvent] using hs
  unfold releaseItem
  dsimp only []
  rw [takeEvent_eng, h]
  dsimp only []
  rw [if_pos hs']

theorem releaseItem_released {r : HeldRec} (h : findRec s.eng p = some r) (hs : s.ctrl.sustain = false) :
    releaseItem p s = runJobs (.release p) (r.voices.map (Job.releaseSlot p) ++ [.removeRecord p]) (takeEvent s) := by
  have hs' : ¬(takeEvent s).ctrl.sustain = true := by simpa [takeEvent] using hs
  unfold releaseItem
  dsimp only []
  rw [takeEvent_eng, h]
  dsimp only [releaseJobs]
  rw [if_neg hs', findRec_pos h]

theorem sustainStep_ends (h : s.ctrl.sustain = true ∨ ∀ r ∈ s.eng.held, r.sustained = false) :
    sustainStep s = s.setEng { s.eng with sustainWalk := false } := by
  unfold sustainStep
  split
  · rfl
  · next hs =>
    have hnone : oldestSustained s.eng = none := List.find?_eq_none.mpr fun r hr => by
      simp [h.resolve_left hs r hr]
    rw [hnone]

theorem sustainStep_releases {r : HeldRec} (hs : s.ctrl.sustain = false)
    (h : s.eng.held.find? (·.sustained) = some r) : sustainStep s =
      runJobs (.sustainStep r.pos) (r.voices.map (Job.releaseSlot r.pos) ++ [.removeRecord r.pos]) s := by
  have hs' : ¬s.ctrl.sustain = true := by simp [hs]
  have h' : oldestSustained s.eng = some r := h
  unfold sustainStep
  rw [if_neg hs', h']
  rfl

end Release

/-- Settles O53: a release by the record of its position and by sustain, a sustain-off step by the oldest sustained
record. -/
theorem releasesFollowSustain : Obligations.ReleasesFollowSustain := by
  intro s
  refine ⟨fun p evs htakes he => ?_, fun htakes => ?_⟩
  · have hexec := exec_release htakes he
    have hidle : s.eng.item = none := item_of_takes htakes
    obtain ⟨hscan, -, -, -, -, -, hstatus⟩ := requestFrom_takeEvent he
    have hout := outsideKept_takeEvent s
    refine ⟨fun hf => ⟨_, hexec, ?_⟩, fun r hr hs => ⟨_, hexec, ?_⟩, fun r hr hs ho hroom => ⟨_, hexec, ?_⟩⟩
    · rw [releaseItem_new hf]
      refine ⟨(itemEnd_scan _ _).trans hscan, ?_, ?_, hout.trans (outsideKept_itemEnd _ _),
        hstatus.trans (.of_stat (itemEnd_stat (by simp) _))⟩
      · rw [itemEnd_release_eng p (by rwa [takeEvent_eng]), takeEvent_eng]
      · rw [itemEnd_queue, takeEvent_voice]
    · rw [releaseItem_sustained hr hs]
      refine ⟨(itemEnd_scan _ _).trans hscan, ?_, ?_, (hout.trans ?_).trans (outsideKept_itemEnd _ _),
        (hstatus.trans (.of_stat rfl)).trans (.of_stat (itemEnd_stat (by simp) _))⟩
      · rw [itemEnd_release_eng p (by exact hidle)]
        rfl
      · rw [itemEnd_queue, State.setEng_voice, takeEvent_voice]
      · simp [OutsideKept]
    · obtain ⟨hdone, -, hkept⟩ := runJobs_recordReleased (v := takeEvent s) (.inl rfl) (sameSlots_takeEvent s)
        (by rw [takeEvent_eng]) (by rw [takeEvent_eng]) ho hroom
      have hrun := outsideKept_runJobs (.release p) (r.voices.map (Job.releaseSlot p) ++ [.removeRecord p]) (takeEvent s)
      rw [releaseItem_released hr hs]
      exact ⟨(runJobs_scan _ _ _).trans hscan, hdone.released, hdone.held, hdone.revWalk, hdone.item, hout.trans hrun,
        hstatus.trans hkept⟩
  · refine ⟨fun h => (exec_sustainOffWalkStep htakes).trans (congrArg _ (sustainStep_ends h)),
      fun r hs hr ho hroom => ⟨_, exec_sustainOffWalkStep htakes, ?_⟩⟩
    obtain ⟨hdone, hwalk, hkept⟩ := runJobs_recordReleased (k := .sustainStep r.pos) (s := s) (.inr rfl)
      (by constructor <;> rfl) rfl rfl ho hroom
    rw [sustainStep_releases hs hr]
    exact ⟨hdone.released, hdone.held, hdone.revWalk, hdone.item, hwalk, runJobs_scan _ _ _,
      outsideKept_runJobs _ _ _, hkept⟩

end Sys2Proof.Machine
end

section
/-! PROOFS. REVERSAL_WALK_STEP (R136, R137, R138, R139). -/

namespace Sys2Proof.Machine

section Reversal

variable {s : State} {p : Pos} {r : HeldRec}

theorem exec_reversalWalkStep (h : Takes s .reversalStep) (hw : s.eng.revWalk = some p)
    (hr : findRec s.eng p = some r) : exec .reversalWalkStep s = .next (chooseFetch (reversalVisit r s)) := by
  show execReversalWalkStep s = _
  rw [execReversalWalkStep, if_pos (show nextItem s = some .reversalStep from h), hw]
  simp only [reversalStep, hr]

/-! ### What a visit does, by the record's policy (R136) -/

theorem reversalVisit_passes (h : r.sustained = true ∨ r.dir = s.eng.appliedDir) :
    reversalVisit r s = itemEnd (.reversalStep r.pos) s := if_pos h

section Turns

variable (hs : r.sustained = false) (hd : r.dir ≠ s.eng.appliedDir)
include hs hd

theorem reversalVisit_hold (h : r.snap.policy = .hold) :
    reversalVisit r s = itemEnd (.reversalStep r.pos) (turnRecord r.pos s) := by
  simp [reversalVisit, hs, hd, h]

theorem reversalVisit_cut (h : r.snap.policy = .cut) : reversalVisit r s =
    runJobs (.reversalStep r.pos) (r.voices.map (Job.releaseSlot r.pos) ++ []) (turnRecord r.pos s) := by
  simp [reversalVisit, hs, hd, h, releaseJobs]

theorem reversalVisit_repitch (h : r.snap.policy = .repitch) : reversalVisit r s =
    runJobs (.reversalStep r.pos) (r.voices.map (Job.releaseSlot r.pos) ++ [.voice r.pos]) (turnRecord r.pos s) := by
  simp [reversalVisit, hs, hd, h, releaseJobs]

end Turns

/-! ### The record has turned -/

/-- The table in which the record of `p` has the applied direction. -/
def turnedHeld (p : Pos) (s : State) : List HeldRec :=
  s.eng.held.map fun x => if x.pos = p then { x with dir := s.eng.appliedDir } else x

theorem turnRecord_eng (p : Pos) (s : State) : (turnRecord p s).eng = { s.eng with held := turnedHeld p s } := rfl

theorem sameSlots_turnRecord (p : Pos) (s : State) : SameSlots s (turnRecord p s) := by constructor <;> rfl

theorem map_pos_turnedHeld (p : Pos) (s : State) : (turnedHeld p s).map (·.pos) = s.eng.held.map (·.pos) := by
  rw [turnedHeld, List.map_map]
  refine List.map_congr_left fun x _ => ?_
  simp only [Function.comp_apply]
  split <;> rfl

/-- A step of the walk that has ended: the place moves on (R136). -/
theorem itemEnd_reversal_eng {t : State} (hw : t.eng.revWalk = some p) :
    (itemEnd (.reversalStep p) t).eng =
      { t.eng with item := none, revWalk := nextAfter p (t.eng.held.map (·.pos)) } := by
  rw [itemEnd_eng (by simp)]
  simp only [placeAfter, placeLeaving, hw, if_true]
  rfl

/-- The voices of the turned record have been released. -/
structure TurnedRun (p : Pos) (r : HeldRec) (s t : State) : Prop where
  run : ReleaseRun p r.voices (turnRecord p s) t
  revWalk : t.eng.revWalk = some p
  held : t.eng.held = withoutSlots r.voices (turnedHeld p s)
  places : t.eng.held.map (·.pos) = s.eng.held.map (·.pos)
  discard : t.eng.awaitDiscard = s.eng.awaitDiscard
  record : findRec t.eng p = some { r with
    dir := s.eng.appliedDir, voices := r.voices.filter fun i => !r.voices.contains i }

/-- With room a turned record has its voices released, and the step goes on (R137, R138). -/
theorem runJobs_turned (js : List Job) (hw : s.eng.revWalk = some p) (hr : findRec s.eng p = some r)
    (ho : Ordered s r.voices) (hroom : RoomFor s r.voices.length) :
    ∃ t, runJobs (.reversalStep p) (r.voices.map (Job.releaseSlot p) ++ js) (turnRecord p s) =
      runJobs (.reversalStep p) js t ∧ TurnedRun p r s t := by
  obtain ⟨t, hjobs, hrun⟩ := runJobs_releases (.reversalStep p) p js (s := turnRecord p s) (l := r.voices) ho hroom
  have hturned : findRec (turnRecord p s).eng p = some { r with dir := s.eng.appliedDir } := by
    rw [findRec_map (e := s.eng) (g := fun x => if x.pos = p then { x with dir := s.eng.appliedDir } else x)
      (fun x => by split <;> rfl) rfl, hr, Option.map_some, if_pos (findRec_pos hr)]
  refine ⟨t, hjobs, hrun, (congrArg Engine.revWalk hrun.eng).trans hw, hrun.held, ?_,
    (congrArg Engine.awaitDiscard hrun.eng).trans rfl, ?_⟩
  · rw [hrun.held, map_pos_withoutSlots]
    exact map_pos_turnedHeld p s
  · rw [findRec_map (g := fun x => { x with voices := x.voices.filter fun i => !r.voices.contains i }) (fun _ => rfl)
      hrun.held, hturned]
    rfl

/-- What a step leaves that has turned and released its record, and has ended. -/
structure TurnedEnded (p : Pos) (r : HeldRec) (s t : State) : Prop where
  released : Released s t p r.voices
  item : t.eng.item = none
  revWalk : t.eng.revWalk = nextAfter p (s.eng.held.map (·.pos))
  held : t.eng.held = withoutSlots r.voices (turnedHeld p s)
  status : StatusKept s t

theorem TurnedRun.ended {t : State} (h : TurnedRun p r s t) :
    TurnedEnded p r s (chooseFetch (itemEnd (.reversalStep p) t)) := by
  have heng := (chooseFetch_eng _).trans (itemEnd_reversal_eng h.revWalk)
  refine ⟨(sameSlots_turnRecord p s).released h.run ?_ ?_ ?_ ?_ ?_ ?_, ?_, ?_, ?_, ?_⟩
  · rw [heng]
  · rw [heng]
  · rw [heng]
  · rw [heng]
  · rw [chooseFetch_voice, itemEnd_queue]
  · rw [chooseFetch_voice, itemEnd_groups (by simp)]
  · rw [heng]
  · rw [heng, ← h.places]
  · rw [heng, ← h.held]
  · have hturn : StatusKept s (turnRecord p s) := .of_stat rfl
    exact ((hturn.trans h.run.status).trans (.of_stat (itemEnd_stat (by simp) t))).trans (statusKept_chooseFetch _)

/-- What a step leaves that has turned and released its record, and waits for its program. -/
structure TurnedWaits (p : Pos) (r : HeldRec) (n : ProgNo) (s t : State) : Prop where
  releasing : Releasing s t p r.voices
  revWalk : t.eng.revWalk = some p
  item : t.eng.item = some { kind := .reversalStep p, wait := programWait s p, jobs := [] }
  held : t.eng.held = withoutSlots r.voices (turnedHeld p s)
  chosen : s.eng.awaitDiscard = false → s.map.fetch = none → Chosen s t (.program n)
  status : StatusKept s t

theorem TurnedRun.waits {t : State} (h : TurnedRun p r s t) {n : ProgNo}
    (hn : r.snap.program s.eng.appliedDir = some n) (hop : s.ctrl.op = .performing) :
    TurnedWaits p r n s (chooseFetch (voiceRecord (.reversalStep p) p t)) := by
  have hwait : programWait t p = programWait s p := by simp [programWait, h.discard]
  rw [voiceRecord_waits h.record hn (by rw [h.run.ctrl]; exact hop), hwait]
  have heng : (chooseFetch (waitFor (.reversalStep p) (programWait s p) [] (asked n t))).eng = { t.eng with
      item := some { kind := .reversalStep p, wait := programWait s p, jobs := [] } } := by
    rw [chooseFetch_eng]
    unfold asked
    split <;> rfl
  have hvoice : (chooseFetch (waitFor (.reversalStep p) (programWait s p) [] (asked n t))).voice = t.voice := by simp
  have hsame := sameSlots_turnRecord p s
  refine ⟨hsame.releasedAs h.run (by rw [hvoice]) heng fun hl => ?_, ?_, ?_, ?_, fun hd hf => ?_, ?_⟩
  · rw [hvoice, h.run.groups, if_neg hl, openedGroup_congr hsame]
    exact List.mem_append_right _ (List.mem_singleton.mpr rfl)
  · rw [heng, ← h.revWalk]
  · rw [heng]
  · rw [heng, ← h.held]
  · rw [asked_of_free (h.discard.trans hd)]
    refine chosen_of_engReq (r := .program n) (h.run.ctrl.trans rfl) ?_ (h.run.player.trans rfl) ?_ rfl
    · exact (congrArg MapUnit.sects h.run.map).trans rfl
    · exact (congrArg MapUnit.fetch h.run.map).trans hf
  · have hturn : StatusKept s (turnRecord p s) := .of_stat rfl
    refine ((hturn.trans h.run.status).trans (.of_stat ?_)).trans (statusKept_chooseFetch _)
    unfold asked
    split <;> rfl

theorem outsideKept_reversalVisit (r : HeldRec) (s : State) : OutsideKept s (reversalVisit r s) := by
  have hturn : OutsideKept s (turnRecord r.pos s) := by simp [OutsideKept, turnRecord]
  unfold reversalVisit
  dsimp only []
  split
  · exact outsideKept_itemEnd _ s
  split
  · exact hturn.trans (outsideKept_itemEnd _ _)
  · exact hturn.trans (outsideKept_runJobs _ _ _)
  · exact hturn.trans (outsideKept_runJobs _ _ _)

end Reversal

/-- Settles O50: a visit of the walk by the record's marks, its policy, and its program in the new direction. -/
theorem theReversalWalkTurnsRecords : Obligations.TheReversalWalkTurnsRecords := by
  intro s p r htakes hw hr hop ho hroom
  have hexec := exec_reversalWalkStep htakes hw hr
  have hout := (outsideKept_reversalVisit r s).trans (outsideKept_chooseFetch _)
  obtain rfl := findRec_pos hr
  refine ⟨fun h => ⟨_, hexec, ?_⟩, fun hs hd hpol => ⟨_, hexec, ?_⟩, fun hs hd hpol => ⟨_, hexec, ?_⟩,
    fun n hs hd hpol hn => ⟨_, hexec, ?_⟩, fun hs hd hpol hn => ⟨_, hexec, ?_⟩⟩
  · rw [reversalVisit_passes h, chooseFetch_eng, chooseFetch_voice, itemEnd_reversal_eng hw, itemEnd_queue]
    exact ⟨rfl, rfl⟩
  · rw [reversalVisit_hold hs hd hpol, chooseFetch_eng, chooseFetch_voice, itemEnd_queue,
      itemEnd_reversal_eng (by exact hw), turnRecord_eng, map_pos_turnedHeld]
    exact ⟨rfl, rfl⟩
  · obtain ⟨t, hrun, hturned⟩ := runJobs_turned [] hw hr ho hroom
    rw [reversalVisit_cut hs hd hpol, hrun] at hout ⊢
    obtain ⟨hreleased, hitem, hwalk, hheld, hstatus⟩ := hturned.ended
    exact ⟨hreleased, hitem, hwalk, hheld, hout, hstatus⟩
  · obtain ⟨t, hrun, hturned⟩ := runJobs_turned [.voice r.pos] hw hr ho hroom
    rw [reversalVisit_repitch hs hd hpol, hrun] at hout ⊢
    obtain ⟨hreleasing, hwalk, hitem, hheld, hchosen, hstatus⟩ := hturned.waits hn hop
    exact ⟨hreleasing, hwalk, hitem, hheld, hchosen, hout, hstatus⟩
  · obtain ⟨t, hrun, hturned⟩ := runJobs_turned [.voice r.pos] hw hr ho hroom
    have hends : runJobs (.reversalStep r.pos) [.voice r.pos] t = itemEnd (.reversalStep r.pos) t :=
      voiceRecord_ends hturned.record (.inl hn)
    rw [reversalVisit_repitch hs hd hpol, hrun, hends] at hout ⊢
    obtain ⟨hreleased, hitem, hwalk, hheld, hstatus⟩ := hturned.ended
    exact ⟨hreleased, hitem, hwalk, hheld, hout, hstatus⟩

end Sys2Proof.Machine
end

section
/-! PROOFS. A run of FREE writes, in one group of their own or ungrouped (R96, R99, R108, R109, R117, R132). -/

namespace Sys2Proof.Machine

/-! ### One FREE write -/

/-- The FREE write of slot `i` (R99). -/
def freeWrite (s : State) (tag : Option Nat) (i : Slot) : VoiceWrite :=
  { slot := i, body := .state (voiceWord0 .free false 0 0 (s.eng.mirror.get i).gen 0), tag := tag }

/-- The mirror record of slot `i` after its FREE write (R90, R99). -/
def freedRec (s : State) (i : Slot) : SlotRec :=
  { s.eng.mirror.get i with state := .free, owner := none, countdown := none }

/-- Room for `n` FREE writes, grouped or not (R119). -/
def FreeRoom (grouped : Bool) (s : State) (n : Nat) : Prop :=
  s.voice.queue.length + n ≤ 32 ∧
  (grouped = true → s.voice.groups.length < 4 ∧ ∀ g ∈ s.voice.groups, g.filling = false)

theorem freeRoom_of_roomFor {s : State} {n : Nat} (h : RoomFor s n) : FreeRoom true s n := by
  obtain ⟨hq, hg, hf⟩ := h
  exact ⟨hq, fun _ => ⟨hg, hf⟩⟩

/-! ### The FREE writes of a list, one after another -/

/-- The slots of `l` have been written FREE, in a group that is filling or ungrouped. -/
structure FreeRun (grouped : Bool) (l : List Slot) (s t : State) : Prop where
  queue : t.voice.queue =
    s.voice.queue ++ l.map (freeWrite s (if grouped then some s.voice.nextTag else none))
  groups : t.voice.groups =
    if grouped = true ∧ l ≠ [] then s.voice.groups ++ [openedGroup s l] else s.voice.groups
  nextTag : l = [] → t.voice.nextTag = s.voice.nextTag
  eng : t.eng = { s.eng with
    mirror := t.eng.mirror, order := s.eng.order.filter fun i => !l.contains i, free := s.eng.free ++ l
    sweep := t.eng.sweep, counts := t.eng.counts, held := withoutSlots l s.eng.held }
  mirror : ∀ i, t.eng.mirror.get i = if i ∈ l then freedRec s i else s.eng.mirror.get i
  sweep : s.eng.order.Nodup → t.eng.sweep = sweepPassing l s.eng
  map : t.map = s.map
  ctrl : t.ctrl = s.ctrl
  timebase : t.timebase = s.timebase
  bellows : t.bellows = s.bellows
  player : t.player = s.player
  awaited : t.stat.awaited = s.stat.awaited
  status : StatusKept s t

namespace FreeRun

variable {grouped : Bool} {l : List Slot} {s t : State}

theorem nil (grouped : Bool) (s : State) : FreeRun grouped [] s s where
  queue := by simp
  groups := by simp
  nextTag _ := rfl
  eng := by simp [withoutSlots_nil]
  mirror _ := rfl
  sweep _ := (sweepPassing_nil _).symm
  map := rfl
  ctrl := rfl
  timebase := rfl
  bellows := rfl
  player := rfl
  awaited := rfl
  status := .refl s

variable (h : FreeRun grouped l s t)
include h

theorem order : t.eng.order = s.eng.order.filter fun i => !l.contains i := by rw [h.eng]

theorem same_slot {i : Slot} (hi : i ∉ l) : t.eng.mirror.get i = s.eng.mirror.get i := by rw [h.mirror, if_neg hi]

theorem mem_order {i : Slot} (hi : i ∉ l) (ho : i ∈ s.eng.order) : i ∈ t.eng.order := by
  rw [h.order, List.mem_filter]
  exact ⟨ho, by simpa using hi⟩

section Grouped

variable (hg : grouped = true) (hf : ∀ g ∈ s.voice.groups, g.filling = false)
include hg hf

/-- A grouped run is in the group that its first write has opened. -/
theorem tag : pushTag t.voice = s.voice.nextTag := by
  unfold pushTag
  by_cases hl : l = []
  · rw [fillingGroup_eq_none (by rw [h.groups, if_neg (by simp [hl])]; exact hf)]
    exact h.nextTag hl
  · rw [fillingGroup_last (by rw [h.groups, if_pos ⟨hg, hl⟩]) hf rfl]
    rfl

/-- The group of the run after one more write. -/
theorem joined {i : Slot} (hi : i ∉ l) :
    (joinGroup i false t.timebase t.voice).groups = s.voice.groups ++ [openedGroup s (l ++ [i])] := by
  by_cases hl : l = []
  · have hgroups : t.voice.groups = s.voice.groups := by rw [h.groups, if_neg (by simp [hl])]
    unfold joinGroup
    rw [fillingGroup_eq_none (by rw [hgroups]; exact hf)]
    simp [hgroups, hl, h.nextTag hl, h.timebase, openedGroup]
  · rw [joinGroup_last (by rw [h.groups, if_pos ⟨hg, hl⟩]) hf rfl (by simpa [openedGroup] using hi)]
    simp [openedGroup]

end Grouped

/-- With room one more FREE write need not wait. -/
theorem canPush {n : Nat} (hroom : FreeRoom grouped s n) (hn : l.length < n) (i : Slot) :
    canPush t (.freeing i grouped) = true := by
  obtain ⟨hq, hgroup⟩ := hroom
  have hlen : t.voice.queue.length < 32 := by
    rw [h.queue, List.length_append, List.length_map]
    omega
  cases grouped with
  | false => rw [canPush_of_ungrouped rfl]; exact decide_eq_true hlen
  | true =>
    obtain ⟨hg, hf⟩ := hgroup rfl
    refine canPush_of_room _ ⟨hlen, ?_⟩
    by_cases hl : l = []
    · rw [h.groups, if_neg (by simp [hl])]
      exact .inl hg
    · rw [fillingGroup_last (by rw [h.groups, if_pos ⟨rfl, hl⟩]) hf rfl]
      exact .inr rfl

/-- One more FREE write. -/
theorem step (hf : grouped = true → ∀ g ∈ s.voice.groups, g.filling = false) {i : Slot} (hi : i ∉ l)
    (ho : i ∈ s.eng.order) : FreeRun grouped (l ++ [i]) s (doPush (.freeing i grouped) t) := by
  have heng : (doPush (.freeing i grouped) t).eng = _ :=
    (doPush_eng _ t).trans (freeSlot_eq (h.mem_order hi ho))
  constructor
  case queue =>
    have htag : (if grouped then some (pushTag t.voice) else none) =
        if grouped then some s.voice.nextTag else none := by
      split
      · next hg => rw [h.tag hg (hf hg)]
      · rfl
    have hwrite : pushedWrite t (.freeing i grouped) =
        freeWrite s (if grouped then some s.voice.nextTag else none) i := by
      rw [← htag, freeWrite, ← h.same_slot hi]
      rfl
    rw [doPush_voice, pushWriter_queue, hwrite, h.queue]
    simp
  case groups =>
    rw [doPush_voice]
    by_cases hg : grouped = true
    · subst hg
      exact (h.joined rfl (hf rfl) hi).trans (if_pos ⟨rfl, by simp⟩).symm
    · have hgroups := h.groups
      rw [if_neg (by simp [hg])] at hgroups ⊢
      simpa [pushWriter, Push.grouped, hg] using hgroups
  case nextTag => simp
  case eng =>
    rw [heng, h.eng, withoutSlots_append]
    simp only [List.filter_filter, List.append_assoc]
    congr 1
    refine List.filter_congr fun j _ => ?_
    simp [Bool.and_comm]
  case mirror =>
    intro j
    rw [heng]
    dsimp only []
    by_cases hj : j = i
    · rw [hj, Tbl.get_set_same, if_pos (by simp), h.same_slot hi]
      rfl
    · rw [Tbl.get_set_other _ _ (Ne.symm hj), h.mirror]
      simp [hj]
  case sweep =>
    intro hn
    rw [heng]
    exact sweepPassing_append hn hi h.order (h.sweep hn)
  case map => simp [h.map]
  case ctrl => simp [h.ctrl]
  case timebase => simp [h.timebase]
  case bellows => simp [h.bellows]
  case player => simp [h.player]
  case awaited => simp [doPush, Push.steals, h.awaited]
  case status => exact h.status.trans (doPush_statusKept rfl t)

end FreeRun

/-- Where there is room, the run makes all its FREE writes and goes on with the jobs after them. -/
theorem runJobs_frees (k : ItemKind) (grouped : Bool) (js : List Job) {s : State} {l : List Slot} (ho : Ordered s l)
    (hroom : FreeRoom grouped s l.length) :
    ∃ t, runJobs k (l.map (fun i => Job.free i grouped) ++ js) s = runJobs k js t ∧ FreeRun grouped l s t := by
  obtain ⟨hn, hmem⟩ := ho
  have key : ∀ after before t, before ++ after = l → FreeRun grouped before s t →
      ∃ u, runJobs k (after.map (fun i => Job.free i grouped) ++ js) t = runJobs k js u ∧ FreeRun grouped l s u := by
    intro after
    induction after with
    | nil =>
      intro before t hl h
      rw [List.append_nil] at hl
      exact ⟨t, rfl, hl ▸ h⟩
    | cons i after ih =>
      intro before t hl h
      have hi : i ∉ before := fun hm => by
        rw [← hl] at hn
        exact (List.nodup_append.mp hn).2.2 i hm i (.head _) rfl
      have hshort : before.length < l.length := by
        rw [← hl, List.length_append, List.length_cons]
        omega
      obtain ⟨u, hu, hrun⟩ := ih (before ++ [i]) _ (by simpa using hl)
        (h.step (fun hg => (hroom.2 hg).2) hi (hmem i (hl ▸ by simp)))
      refine ⟨u, hu ▸ ?_, hrun⟩
      simp only [List.map_cons, List.cons_append, runJobs]
      rw [if_pos (h.canPush hroom hshort i)]
  exact key l [] s rfl (.nil grouped s)

/-- The end of an item that is no hush leaves the control unit, the map unit and the tracker alone. -/
theorem itemEnd_beside {k : ItemKind} (hk : k ≠ .hush) (s : State) :
    (itemEnd k s).ctrl = s.ctrl ∧ (itemEnd k s).map = s.map ∧ (itemEnd k s).bellows = s.bellows := by
  obtain ⟨hctrl, hmap, hbel⟩ := afterItem_beside hk (endFilling (s.setEng { s.eng with item := none }))
  exact ⟨hctrl.trans (by simp), hmap.trans (by simp), hbel.trans (by simp)⟩

theorem SlotLaw.order_nodup {s : State} (h : SlotLaw s) : s.eng.order.Nodup := by
  obtain ⟨⟨-, hn, -, -⟩, -, -⟩ := (slotsPartitioned_iff _).mp h.1
  exact hn

end Sys2Proof.Machine
end

section
/-! PROOFS. FRAME_EXPIRY (R94, R108, R132). -/

namespace Sys2Proof.Machine

section Expiry

variable (s : State)

/-- The pending frames have been taken off every RELEASING countdown (R108). -/
def lowered : State :=
  s.setEng { s.eng with mirror := s.eng.mirror.map (lowerCountdown s.eng.pendingFrames), pendingFrames := 0 }

/-- The slots whose countdown the pending frames bring to 0, in sounding order (R108). -/
def expiring : List Slot :=
  s.eng.order.filter fun i => decide ((s.eng.mirror.get i).state = .releasing ∧
    ∃ c ∈ (s.eng.mirror.get i).countdown, c ≤ s.eng.pendingFrames)

theorem lowerCountdown_of_releasing {n : Nat} {x : SlotRec} (h : x.state = .releasing) :
    lowerCountdown n x = { x with countdown := x.countdown.map (· - n) } := by
  unfold lowerCountdown
  rw [h]

theorem lowerCountdown_of_ne {n : Nat} {x : SlotRec} (h : x.state ≠ .releasing) : lowerCountdown n x = x := by
  unfold lowerCountdown
  split
  · next hx => exact absurd hx h
  all_goals rfl

theorem lowered_get (i : Slot) :
    (lowered s).eng.mirror.get i = lowerCountdown s.eng.pendingFrames (s.eng.mirror.get i) := by
  rw [lowered, State.setEng_eng, Tbl.get_map]

theorem expired_iff (i : Slot) : expired (lowered s).eng.mirror i = true ↔
    (s.eng.mirror.get i).state = .releasing ∧
      ∃ c ∈ (s.eng.mirror.get i).countdown, c ≤ s.eng.pendingFrames := by
  rw [expired, decide_eq_true_eq, lowered_get]
  by_cases h : (s.eng.mirror.get i).state = .releasing
  · rw [lowerCountdown_of_releasing h]
    simp [h, Nat.sub_eq_zero_iff_le]
  · rw [lowerCountdown_of_ne h]
    simp [h]

theorem frameExpiry_eq :
    frameExpiry s = runJobs .expiry ((expiring s).map (fun i => Job.free i false) ++ []) (lowered s) := by
  have hgone : (lowered s).eng.order.filter (expired (lowered s).eng.mirror) = expiring s :=
    List.filter_congr fun i _ => Bool.eq_iff_iff.mpr ((expired_iff s i).trans decide_eq_true_iff.symm)
  rw [List.append_nil, ← hgone]
  rfl

theorem exec_frameExpiry (h : Takes s .expiry) : exec .frameExpiry s = .next (frameExpiry s) := if_pos h

variable {s}

theorem mem_expiring_releasing {i : Slot} (hi : i ∈ expiring s) : (s.eng.mirror.get i).state = .releasing := by
  obtain ⟨-, h⟩ := List.mem_filter.mp hi
  exact (of_decide_eq_true h).1

/-- No record lists a slot that expires (R92). -/
theorem withoutSlots_expiring (h : HeldLaw s) : withoutSlots (expiring s) s.eng.held = s.eng.held := by
  obtain ⟨-, -, -, hown⟩ := h
  refine (List.map_congr_left fun r hr => ?_).trans (List.map_id' s.eng.held)
  rw [List.filter_eq_self.mpr fun i hi => ?_]
  have hsound := (hown r hr i hi).1
  simp only [Bool.not_eq_true', Bool.eq_false_iff, ne_eq, List.contains_iff_mem]
  intro hmem
  rw [mem_expiring_releasing hmem] at hsound
  cases hsound

/-- The writes of the slots that expire are told of the state before the frames were taken off. -/
theorem freeWrite_lowered (tag : Option Nat) (i : Slot) : freeWrite (lowered s) tag i = freeWrite s tag i := by
  have hgen : ((lowered s).eng.mirror.get i).gen = (s.eng.mirror.get i).gen := by
    rw [lowered_get]
    unfold lowerCountdown
    split <;> rfl
  rw [freeWrite, hgen]
  rfl

theorem freedRec_lowered {i : Slot} (hi : i ∈ expiring s) : freedRec (lowered s) i = freedRec s i := by
  rw [freedRec, lowered_get, lowerCountdown_of_releasing (mem_expiring_releasing hi)]
  rfl

end Expiry

/-- Settles O51: the frames come off first, and then the slots that they bring to 0 are written FREE. -/
theorem frameExpiryFreesTheExpired : Obligations.FrameExpiryFreesTheExpired := by
  intro s htakes hslot gone hroom
  have hgone : gone = expiring s := rfl
  clear_value gone
  subst hgone
  obtain ⟨t, hrun, hfree⟩ := runJobs_frees .expiry false [] (s := lowered s) (l := expiring s)
    ⟨hslot.order_nodup.filter _, fun i hi => List.mem_of_mem_filter hi⟩ ⟨hroom, by simp⟩
  have hexec := exec_frameExpiry s htakes
  have hout : OutsideKept s (frameExpiry s) :=
    .trans (t := lowered s) (by simp [OutsideKept, lowered]) (outsideKept_runJobs _ _ _)
  have hscan : (frameExpiry s).scan = s.scan := runJobs_scan _ _ _
  rw [frameExpiry_eq, hrun, runJobs] at hexec hout hscan
  obtain ⟨hctrl, hmap, hbellows⟩ := itemEnd_beside (k := .expiry) (by simp) t
  have heng : (itemEnd .expiry t).eng = { t.eng with item := none } := itemEnd_eng (by simp) t
  refine ⟨_, hexec, ?_, ?_, ?_, ?_, ?_, ?_, ?_, fun hheld => ?_, fun i => ?_,
    hbellows.trans hfree.bellows, hscan, hctrl.trans hfree.ctrl, hmap.trans hfree.map, hout,
    hfree.status.trans (.of_stat (itemEnd_stat (by simp) t))⟩
  · rw [heng, hfree.eng]
    rfl
  · rw [heng]
  · rw [itemEnd_queue, hfree.queue]
    exact congrArg _ (List.map_congr_left fun i _ => freeWrite_lowered none i)
  · rw [heng, hfree.eng]
    rfl
  · rw [heng, hfree.eng]
    rfl
  · rw [heng]
    exact hfree.sweep hslot.order_nodup
  · rw [heng, hfree.eng]
    rfl
  · rw [heng, hfree.eng]
    exact withoutSlots_expiring hheld
  · rw [heng]
    refine (hfree.mirror i).trans ?_
    split
    · next hi => exact freedRec_lowered hi
    · rw [lowered_get]
      split
      · next h => exact lowerCountdown_of_releasing h
      · next h => exact lowerCountdown_of_ne h

end Sys2Proof.Machine
end


section
/-! PROOFS. HUSH_ITEM and the end of a settle cut (R109, R133, R153, R173, R174, R175). -/

namespace Sys2Proof.Machine

/-! ### The test of a pending swap outside PERFORMING (R153, R154) -/

/-- Outside PERFORMING no test of a swap starts a restrike walk. -/
theorem testSwap_eng_of_ne {s : State} (h : s.ctrl.op ≠ .performing) : (testSwap s).eng = s.eng := by
  by_cases hw : SwapWaits s
  · rw [testSwap_waits hw]
  simp only [SwapWaits, not_forall, not_or, Bool.not_eq_true] at hw
  obtain ⟨x, hx, ht, hh⟩ := hw
  rw [testSwap_completes hx ht hh fun hm => h hm.2]
  simp

/-- A test of a swap raises no flag but SWAP_DONE. -/
theorem testSwap_flag (s : State) {i : Nat} (hi : (2 : BitVec 7).getLsbD i = false) :
    (testSwap s).stat.flags.getLsbD i = s.stat.flags.getLsbD i := by
  unfold testSwap takeSwap
  repeat' split
  all_goals simp only [completeSwap_stat_flags, report_stat_flags, State.setCtrl_stat, State.setEng_stat,
    BitVec.getLsbD_or, hi, Bool.or_false]

/-- A swap that completes ends no STANDBY (R154, R166). -/
theorem completeSwap_awaited_settle {s : State} (h : s.stat.awaited = .settle) :
    (completeSwap s).stat.awaited = .settle := by
  simp [completeSwap, finish_stat_awaited, h]

theorem testSwap_awaited_settle {s : State} (h : s.stat.awaited = .settle) : (testSwap s).stat.awaited = .settle := by
  unfold testSwap takeSwap
  repeat' split
  · simp [h]
  · exact completeSwap_awaited_settle (by simp [h])
  · exact h
  · exact h

theorem endRestrike_awaited_settle {s : State} (h : s.stat.awaited = .settle) :
    (endRestrike s).stat.awaited = .settle := by
  unfold endRestrike
  split
  · exact completeSwap_awaited_settle h
  · exact h

/-! ### The end of SETTLING when no item is running (R173, R175) -/

/-- The state at the end of SETTLING in which a pending swap is tested: TRANSPARENT, with the table empty. -/
def settleEntered (s : State) : State :=
  let t := workOut (setOp .transparent
    (settledEngine (s.setCtrl { s.ctrl with settleTimer := none, settleCut := false })))
  t.setBellows { t.bellows with levelNotice := none }

theorem settleKept_setTransparent (s : State) : SettleKept s (setOp .transparent s) :=
  (settleKept_setCtrl rfl).trans (settleKept_report _ _)

theorem settleKept_workOut (s : State) : SettleKept s (workOut s) :=
  (settleKept_setCtrl rfl).trans (settleKept_report _ _)

section SettleEntered

variable (s : State)

theorem endSettling_of_idle (h : s.eng.item = none) :
    endSettling s = finish .settle .done (raiseFlag flagSettled (testSwap (settleEntered s))) := by
  have hitem : settledItem (s.setCtrl { s.ctrl with settleTimer := none, settleCut := false }) =
      s.setCtrl { s.ctrl with settleTimer := none, settleCut := false } := by
    simp [settledItem, h]
  rw [endSettling_eq, hitem]
  rfl

theorem settleKept_settleEntered : SettleKept s (settleEntered s) := by
  have hctrl : SettleKept s (s.setCtrl { s.ctrl with settleTimer := none, settleCut := false }) :=
    settleKept_setCtrl rfl
  exact (((hctrl.trans (settleKept_settledEngine _)).trans (settleKept_setTransparent _)).trans
    (settleKept_workOut _)).trans (settleKept_dropLevelNotice _)

theorem settleEntered_ctrl : (settleEntered s).ctrl = { s.ctrl with
    op := .transparent, settleTimer := none, settleCut := false
    sustain := sustainValue { s.ctrl with op := .transparent }
    hushEffective := hushValue { s.ctrl with op := .transparent } } := by
  simp only [settleEntered, settledEngine, State.setBellows_ctrl, workOut_ctrl, setOp_ctrl, report_ctrl,
    State.setEng_ctrl, State.setCtrl_ctrl]
  rfl

theorem settleEntered_eng :
    (settleEntered s).eng = { s.eng with releaseAll := false, held := [], revWalk := none } := by
  simp [settleEntered, settledEngine]

theorem settleEntered_bellows : (settleEntered s).bellows = { s.bellows with levelNotice := none } := by
  simp [settleEntered, settledEngine]

theorem settleEntered_stat : (settleEntered s).stat.flags = s.stat.flags ∧
    (settleEntered s).stat.awaited = s.stat.awaited := by
  simp [settleEntered, settledEngine]

end SettleEntered

/-- What the end of SETTLING leaves when no item is running (R173, R175). -/
structure SettleEnded (s t : State) : Prop where
  eng : t.eng = { s.eng with releaseAll := false, held := [], revWalk := none }
  op : t.ctrl.op = .transparent
  settleTimer : t.ctrl.settleTimer = none
  settleCut : t.ctrl.settleCut = false
  sustain : t.ctrl.sustain = ((s.ctrl.valid && s.ctrl.copy.sustEnable && s.ctrl.sustReading) || s.ctrl.sustainFlag)
  bellows : t.bellows = { s.bellows with levelNotice := none }
  map : t.map = s.map
  result : s.stat.awaited = .settle → t.stat.result = .done
  settled : t.stat.flags.getLsbD 2 = true
  flags : ∀ i ∈ [0, 3, 4, 5, 6], t.stat.flags.getLsbD i = s.stat.flags.getLsbD i
  waits : SwapWaits s → t.ctrl.bank = s.ctrl.bank ∧ t.ctrl.swap = s.ctrl.swap ∧
    t.stat.flags.getLsbD 1 = s.stat.flags.getLsbD 1
  takes : ∀ x, s.ctrl.swap = some x → x.taken = false → holdsBank s x.incoming = false →
    t.ctrl.bank = x.incoming ∧ t.ctrl.swap = none ∧ t.stat.flags.getLsbD 1 = true

theorem settleEnded_endSettling {s : State} (h : s.eng.item = none) : SettleEnded s (endSettling s) := by
  have hkept := settleKept_settleEntered s
  have hctrl := settleEntered_ctrl s
  obtain ⟨hflags, hawaited⟩ := settleEntered_stat s
  have hop : (settleEntered s).ctrl.op ≠ .performing := by simp [hctrl]
  rw [endSettling_of_idle s h]
  constructor
  case eng => simp [testSwap_eng_of_ne hop, settleEntered_eng]
  case op => simp [hctrl]
  case settleTimer => simp [hctrl]
  case settleCut => simp [hctrl]
  case sustain =>
    simp only [finish_ctrl, raiseFlag_ctrl, testSwap_ctrl_sustain, hctrl]
    rfl
  case bellows => simp [settleEntered_bellows]
  case map => simp [settleEntered, settledEngine]
  case result =>
    intro hs
    rw [finish_stat_result, if_pos]
    simpa using testSwap_awaited_settle (hawaited.trans hs)
  case settled => simp [flagSettled]
  case flags =>
    intro i hi
    have hbits : ∀ j ∈ [0, 3, 4, 5, 6], flagSettled.getLsbD j = false ∧ (2 : BitVec 7).getLsbD j = false := by
      decide
    obtain ⟨hsettled, hdone⟩ := hbits i hi
    rw [finish_stat_flags, raiseFlag_stat_flags, BitVec.getLsbD_or, testSwap_flag _ hdone, hflags, hsettled,
      Bool.or_false]
  case waits =>
    intro hw
    rw [testSwap_waits (hw.of_kept hkept)]
    simp [flagSettled, hctrl, hflags]
  case takes =>
    intro x hx ht hh
    have hheld : holdsBank (settleEntered s) x.incoming = false := by
      rw [holdsBank_congr hkept.kept.player hkept.kept.desc]
      exact hh
    rw [testSwap_completes (hkept.swap.trans hx) ht hheld fun hm => hop hm.2]
    simp

/-! ### The beginning of a hush (R109, R133) -/

/-- HUSHED is raised for a hush source (R109, R174). -/
def hushRaised (s : State) : State := if s.eng.hushPending = .source then raiseFlag flagHushed s else s

/-- The state in which a hush frees the slots: what it clears has been cleared, and a restrike walk has stopped. -/
def hushBegun (s : State) : State :=
  endRestrike ((hushRaised s).setEng { (hushRaised s).eng with
    hushPending := .clear, releaseAll := false, pendingFrames := 0, revWalk := none, sustainWalk := false,
    sweep := none })

section Begun

variable (s : State)

theorem hushItem_eq : hushItem s =
    runJobs .hush ((hushBegun s).eng.order.map (fun i => Job.free i true) ++ [.clearTable]) (hushBegun s) := rfl

/-- Nothing but the status unit shows that HUSHED was raised. -/
theorem hushRaised_eq : ∃ st, hushRaised s = s.setStat st ∧ st.awaited = s.stat.awaited ∧
    st.flags = if s.eng.hushPending = .source then s.stat.flags ||| 64 else s.stat.flags := by
  unfold hushRaised raiseFlag report
  split
  · split
    · exact ⟨_, rfl, rfl, rfl⟩
    · exact ⟨_, rfl, rfl, rfl⟩
  · exact ⟨s.stat, rfl, rfl, rfl⟩

theorem hushBegun_eng : (hushBegun s).eng = { s.eng with
    hushPending := .clear, releaseAll := false, pendingFrames := 0, revWalk := none, sustainWalk := false,
    restrikeWalk := false, sweep := none } := by
  obtain ⟨st, hst, -, -⟩ := hushRaised_eq s
  rw [hushBegun, endRestrike_eng, hst]
  rfl

theorem hushBegun_ctrl : (hushBegun s).ctrl =
    { s.ctrl with swap := if s.eng.restrikeWalk then none else s.ctrl.swap } := by
  obtain ⟨st, hst, -, -⟩ := hushRaised_eq s
  rw [hushBegun, endRestrike_ctrl, hst]
  rfl

theorem hushBegun_flags : (hushBegun s).stat.flags =
    (if s.eng.hushPending = .source then s.stat.flags ||| 64 else s.stat.flags) |||
      (if s.eng.restrikeWalk then 2 else 0) := by
  obtain ⟨st, hst, -, hflags⟩ := hushRaised_eq s
  rw [hushBegun, endRestrike_stat_flags, hst]
  simp only [State.setEng_eng, State.setEng_stat, State.setStat_eng, State.setStat_stat, hflags]
  split <;> simp

theorem hushBegun_awaited (h : s.stat.awaited = .settle) : (hushBegun s).stat.awaited = .settle := by
  obtain ⟨st, hst, hawaited, -⟩ := hushRaised_eq s
  exact endRestrike_awaited_settle (by rw [hst]; exact hawaited.trans h)

/-- What the beginning of a hush leaves alone. -/
theorem hushBegun_beside : (hushBegun s).voice = s.voice ∧ (hushBegun s).map = s.map ∧
    (hushBegun s).bellows = s.bellows ∧ (hushBegun s).player = s.player ∧ (hushBegun s).scan = s.scan ∧
    OutsideKept s (hushBegun s) := by
  obtain ⟨st, hst, -, -⟩ := hushRaised_eq s
  simp [OutsideKept, hushBegun, hst]

end Begun

/-! ### The hush itself (R109, R133) -/

/-- A hush has ended, but for the end of SETTLING that may follow it. -/
structure HushEnded (s t : State) : Prop where
  eng : t.eng = { s.eng with
    mirror := t.eng.mirror, counts := t.eng.counts, order := [], free := s.eng.free ++ s.eng.order, held := []
    item := none, hushPending := .clear, releaseAll := false, pendingFrames := 0, revWalk := none
    sustainWalk := false, restrikeWalk := false, sweep := none }
  mirror : ∀ i, t.eng.mirror.get i = if i ∈ s.eng.order then freedRec s i else s.eng.mirror.get i
  queue : t.voice.queue = s.voice.queue ++ s.eng.order.map (freeWrite s (some s.voice.nextTag))
  ctrl : t.ctrl = { s.ctrl with swap := if s.eng.restrikeWalk then none else s.ctrl.swap }
  flags : t.stat.flags = (if s.eng.hushPending = .source then s.stat.flags ||| 64 else s.stat.flags) |||
    (if s.eng.restrikeWalk then 2 else 0)
  awaited : s.stat.awaited = .settle → t.stat.awaited = .settle
  map : t.map = s.map
  bellows : t.bellows = s.bellows
  player : t.player = s.player

/-- The held-button table has been emptied (R109). -/
def tableCleared (s : State) : State := report s (s.setEng { s.eng with held := [], revWalk := none })

theorem hushItem_ended {s : State} (hl : SlotLaw s) (hr : RoomFor s s.eng.order.length) :
    ∃ t, hushItem s = afterItem .hush t ∧ HushEnded s t := by
  obtain ⟨hvoice, hmap, hbellows, hplayer, -, -⟩ := hushBegun_beside s
  have heng := hushBegun_eng s
  have horder : (hushBegun s).eng.order = s.eng.order := by rw [heng]
  have hmirror : (hushBegun s).eng.mirror = s.eng.mirror := by rw [heng]
  have hroom : RoomFor (hushBegun s) (hushBegun s).eng.order.length := by
    rw [RoomFor, hvoice, horder]
    exact hr
  obtain ⟨u, hrun, hfree⟩ := runJobs_frees .hush true [.clearTable] (s := hushBegun s)
    (l := (hushBegun s).eng.order) ⟨horder ▸ hl.order_nodup, fun _ => id⟩ (freeRoom_of_roomFor hroom)
  refine ⟨endFilling ((tableCleared u).setEng { (tableCleared u).eng with item := none }), ?_, ?_⟩
  · rw [hushItem_eq, hrun]
    rfl
  constructor
  case eng =>
    have hsweep : u.eng.sweep = none := by
      rw [hfree.sweep (horder ▸ hl.order_nodup)]
      exact sweepPassing_of_none (by rw [heng])
    simp only [tableCleared, endFilling_eng, State.setEng_eng, report_eng]
    rw [hfree.eng, hsweep]
    simp [heng]
  case mirror =>
    intro i
    simp only [tableCleared, endFilling_eng, State.setEng_eng, report_eng]
    rw [hfree.mirror, horder, hmirror, freedRec, hmirror]
    rfl
  case queue =>
    have hwrite : u.voice.queue = s.voice.queue ++ s.eng.order.map (freeWrite s (some s.voice.nextTag)) := by
      rw [hfree.queue, hvoice, horder]
      exact congrArg _ (List.map_congr_left fun i _ => by rw [freeWrite, hmirror]; rfl)
    simp [tableCleared, hwrite]
  case ctrl => simp [tableCleared, hfree.ctrl, hushBegun_ctrl]
  case flags =>
    obtain ⟨-, -, -, hflags, -⟩ := hfree.status
    simp [tableCleared, hflags, hushBegun_flags]
  case awaited =>
    intro h
    simp [tableCleared, hfree.awaited, hushBegun_awaited s h]
  case map => simp [tableCleared, hfree.map, hmap]
  case bellows => simp [tableCleared, hfree.bellows, hbellows]
  case player => simp [tableCleared, hfree.player, hplayer]

theorem afterItem_hush (s : State) : afterItem .hush s = if s.ctrl.settleCut then endSettling s else s := rfl

theorem exec_hushItem {s : State} (h : Takes s .hush) : exec .hushItem s = .next (hushItem s) := if_pos h

theorem outsideKept_hushItem (s : State) : OutsideKept s (hushItem s) := by
  obtain ⟨-, -, -, -, -, hkept⟩ := hushBegun_beside s
  exact hkept.trans (outsideKept_runJobs _ _ _)

section Ended

variable {s t : State} (h : HushEnded s t)
include h

theorem HushEnded.settle_flags {i : Nat} (hi : (2 : BitVec 7).getLsbD i = false) : t.stat.flags.getLsbD i =
    (s.stat.flags.getLsbD i || (decide (s.eng.hushPending = .source) && flagHushed.getLsbD i)) := by
  have hwalk : (if s.eng.restrikeWalk then 2 else 0 : BitVec 7).getLsbD i = false := by
    split
    · exact hi
    · simp
  rw [h.flags, BitVec.getLsbD_or, hwalk]
  by_cases hs : s.eng.hushPending = .source <;> simp [hs, flagHushed]

/-- A restrike walk that a hush has stopped completed its swap, and none is left to test. -/
theorem HushEnded.stopped (hw : s.eng.restrikeWalk = true) : t.ctrl.swap = none ∧ t.stat.flags.getLsbD 1 = true := by
  rw [h.ctrl, h.flags]
  simp [hw]

/-- With no restrike walk a hush leaves the swap as it was. -/
theorem HushEnded.unstopped (hw : s.eng.restrikeWalk = false) : t.ctrl.swap = s.ctrl.swap ∧
    t.stat.flags.getLsbD 1 = s.stat.flags.getLsbD 1 ∧ ∀ b, holdsBank t b = holdsBank s b := by
  refine ⟨by simp [h.ctrl, hw], ?_, holdsBank_congr h.player (by rw [h.ctrl])⟩
  rw [h.flags]
  by_cases hs : s.eng.hushPending = .source <;> simp [hs, hw]

/-- The end of SETTLING after the hush of a settle cut leaves what the hush has made of the engine. -/
theorem HushEnded.afterItem : (afterItem .hush t).eng = t.eng ∧
    (Machine.afterItem .hush t).voice.queue = t.voice.queue ∧ (Machine.afterItem .hush t).map = t.map := by
  rw [afterItem_hush]
  split
  · have hset := settleEnded_endSettling (s := t) (by rw [h.eng])
    exact ⟨by rw [hset.eng, h.eng], endSettling_queue t, hset.map⟩
  · exact ⟨rfl, rfl, rfl⟩

end Ended

/-- Settles O47: the slots are freed and the table is emptied, and a settle cut then ends SETTLING. -/
theorem aHushFreesEverySlot : Obligations.AHushFreesEverySlot := by
  intro s htakes hslot hroom
  have hexec := exec_hushItem htakes
  have hout := outsideKept_hushItem s
  have hscan : (hushItem s).scan = s.scan := by
    obtain ⟨-, -, -, -, hscan, -⟩ := hushBegun_beside s
    exact (runJobs_scan _ _ _).trans hscan
  have hfree : ∀ i ∈ s.eng.free, i ∉ s.eng.order := by
    obtain ⟨⟨-, hf, ho⟩, -⟩ := hslot
    exact fun i hi hm => ho i hm (hf i hi)
  obtain ⟨v, hv, hended⟩ := hushItem_ended hslot hroom
  obtain ⟨heng, hqueue, hmap⟩ := hended.afterItem
  have hafter := afterItem_hush v
  have hcut : v.ctrl.settleCut = s.ctrl.settleCut := by rw [hended.ctrl]
  rw [hv] at hexec hout hscan
  rw [hcut] at hafter
  refine ⟨_, hexec, by rw [heng, hended.eng], by rw [heng, hended.eng], by rw [heng, hended.eng],
    fun i hi => by rw [heng, hended.mirror, if_pos hi]; rfl,
    fun i hi => by rw [heng, hended.mirror, if_neg (hfree i hi)],
    hqueue.trans hended.queue, by rw [heng, hended.eng], by rw [heng, hended.eng], by rw [heng, hended.eng],
    by rw [heng, hended.eng], by rw [heng, hended.eng], by rw [heng, hended.eng], by rw [heng, hended.eng],
    by rw [heng, hended.eng], hscan, hout, hmap.trans hended.map, fun hc => ?_, fun hc => ?_⟩
  · rw [hafter, hc]
    exact ⟨hended.bellows, hended.ctrl, hended.flags⟩
  · rw [hafter, if_pos hc]
    have hset := settleEnded_endSettling (s := v) (by rw [hended.eng])
    refine ⟨hset.op, hset.settleTimer, hset.settleCut, by rw [hset.sustain, hended.ctrl]; rfl,
      by rw [hset.bellows, hended.bellows], fun hs => hset.result (hended.awaited hs), hset.settled, ?_, fun i hi => ?_,
      fun hw => ?_, fun hw x hx => ⟨fun ht hh => ?_, fun hwait => ?_⟩, fun hw hx => ?_⟩
    · rw [hset.flags 6 (by simp), hended.settle_flags (by decide)]
      simp [flagHushed]
    · have hbits : ∀ j ∈ [0, 3, 4, 5], j ∈ [0, 3, 4, 5, 6] ∧ (2 : BitVec 7).getLsbD j = false ∧
          flagHushed.getLsbD j = false := by decide
      obtain ⟨hmem, hdone, hhushed⟩ := hbits i hi
      rw [hset.flags i hmem, hended.settle_flags hdone, hhushed, Bool.and_false, Bool.or_false]
    · obtain ⟨hswap, hflag⟩ := hended.stopped hw
      obtain ⟨hbank, hkept, hdone⟩ := hset.waits fun y hy => by rw [hswap] at hy; cases hy
      exact ⟨hkept.trans hswap, hbank.trans (by rw [hended.ctrl]), hdone.trans hflag⟩
    · obtain ⟨hswap, hflag, hbanks⟩ := hended.unstopped hw
      exact hset.takes x (hswap.trans hx) ht ((hbanks _).trans hh)
    · obtain ⟨hswap, hflag, hbanks⟩ := hended.unstopped hw
      obtain ⟨hbank, hkept, hdone⟩ := hset.waits fun y hy => by
        obtain rfl := Option.some.inj ((hswap.trans hx).symm.trans hy)
        rw [hbanks]
        exact hwait
      exact ⟨hbank.trans (by rw [hended.ctrl]), hkept.trans (hswap.trans hx), hdone.trans hflag⟩
    · obtain ⟨hswap, hflag, -⟩ := hended.unstopped hw
      obtain ⟨hbank, hkept, hdone⟩ := hset.waits fun y hy => by rw [hswap, hx] at hy; cases hy
      exact ⟨hbank.trans (by rw [hended.ctrl]), hkept.trans (hswap.trans hx), hdone.trans hflag⟩

end Sys2Proof.Machine
end

section
/-! PROOFS. RELEASE_ALL (R107, R110, R119, R132). -/

namespace Sys2Proof.Machine

/-! ### A release-all in any state (R110, R119) -/

theorem takes_releaseAll_iff (s : State) : Takes s .releaseAll ↔ s.eng.item = none ∧ s.ctrl.op.working = true ∧
    s.eng.hushPending = .clear ∧ s.eng.releaseAll = true := by
  rw [takes_iff, Selects]
  constructor
  · rintro ⟨⟨hitem, hop⟩, ha, hfirst⟩
    exact ⟨hitem, hop, not_not.mp (hfirst .hush (by decide)), ha⟩
  · rintro ⟨hitem, hop, hhush, ha⟩
    refine ⟨⟨hitem, hop⟩, ha, fun y hy => ?_⟩
    obtain rfl : y = .hush := by
      cases y with
      | hush => rfl
      | _ => exact absurd hy (by decide)
    exact not_not.mpr hhush

/-- What a release-all leaves alone. -/
structure ReleaseAllKept (s t : State) : Prop where
  releaseAll : t.eng.releaseAll = s.eng.releaseAll
  ctrl : t.ctrl = s.ctrl
  map : t.map = s.map
  bellows : t.bellows = s.bellows
  status : StatusKept s t

namespace ReleaseAllKept

variable {s t u : State}

theorem trans (h : ReleaseAllKept s t) (k : ReleaseAllKept t u) : ReleaseAllKept s u where
  releaseAll := k.releaseAll.trans h.releaseAll
  ctrl := k.ctrl.trans h.ctrl
  map := k.map.trans h.map
  bellows := k.bellows.trans h.bellows
  status := h.status.trans k.status

theorem itemEnd (s : State) : ReleaseAllKept s (itemEnd .releaseAll s) := by
  obtain ⟨hctrl, hmap, hbellows⟩ := itemEnd_beside (k := .releaseAll) (by simp) s
  exact ⟨by rw [itemEnd_eng (by simp)], hctrl, hmap, hbellows, .of_stat (itemEnd_stat (by simp) s)⟩

theorem waitFor (w : Wait) (js : List Job) (s : State) : ReleaseAllKept s (waitFor .releaseAll w js s) :=
  ⟨rfl, rfl, rfl, rfl, .refl s⟩

theorem endFilling (s : State) : ReleaseAllKept s (endFilling s) :=
  ⟨by simp, by simp, by simp, by simp, .of_stat (by simp)⟩

theorem recordRemoved (p : Pos) (s : State) : ReleaseAllKept s (recordRemoved p s) := by
  exact ⟨by simp [Machine.recordRemoved, removeRec], by simp [Machine.recordRemoved], by simp [Machine.recordRemoved],
    by simp [Machine.recordRemoved], by simp [Machine.recordRemoved, StatusKept]⟩

end ReleaseAllKept

/-- A release changes no position of the table, whatever the slot. -/
theorem doPush_release_table (p : Pos) (i : Slot) (s : State) :
    (doPush (releasePush s p i) s).eng.held.map (·.pos) = s.eng.held.map (·.pos) ∧
    (doPush (releasePush s p i) s).eng.releaseAll = s.eng.releaseAll := by
  cases h : latchZero s i with
  | true =>
    rw [doPush_eng, releasePush_freeing h]
    simp only [pushEngine, freeSlot]
    split <;> simp [unlist_eq, map_pos_withoutSlots]
  | false =>
    rw [doPush_eng, releasePush_releasing h]
    simp only [pushEngine, releaseSlot]
    split <;> simp [unlist_eq, map_pos_withoutSlots]

theorem releaseAllKept_release (p : Pos) (i : Slot) (s : State) :
    ReleaseAllKept s (doPush (releasePush s p i) s) where
  releaseAll := (doPush_release_table p i s).2
  ctrl := doPush_ctrl _ _
  map := doPush_map _ _
  bellows := doPush_bellows _ _
  status := doPush_statusKept (releasePush_grouped s p i).2.2.2 s

/-- The jobs of a release-all. -/
def ReleaseAllJob : Job → Prop
  | .releaseSlot _ _ | .finishGroup | .removeRecord _ => True
  | .free _ _ | .blank _ | .clearTable | .pressEntry _ | .voice _ | .layer _ _ _ => False

/-- The item waits for room to push. -/
def WaitsToPush (s : State) : Prop :=
  ∃ it pu, s.eng.item = some it ∧ it.kind = .releaseAll ∧ it.wait = .push pu ∧ canPush s pu = false

/-- How the jobs of a release-all leave `s`: in `t` the item waits for room, or it has ended with no record of a
position that the jobs remove. -/
def ReleaseAllEnds (js : List Job) (s t : State) : Prop :=
  WaitsToPush t ∨ (t.eng.item = none ∧
    ∀ p ∈ t.eng.held.map (·.pos), p ∈ s.eng.held.map (·.pos) ∧ .removeRecord p ∉ js)

theorem ReleaseAllEnds.after {j : Job} {js : List Job} {s u t : State} (h : ReleaseAllEnds js u t)
    (hpos : ∀ p ∈ u.eng.held.map (·.pos), p ∈ s.eng.held.map (·.pos) ∧ .removeRecord p ≠ j) :
    ReleaseAllEnds (j :: js) s t := by
  refine h.imp_right fun ⟨hitem, hheld⟩ => ⟨hitem, fun p hp => ?_⟩
  obtain ⟨hmem, hnot⟩ := hheld p hp
  obtain ⟨hmem, hne⟩ := hpos p hmem
  exact ⟨hmem, by simp [hne, hnot]⟩

/-- A release-all runs until it has to wait, or to its end. -/
theorem runJobs_releaseAll (js : List Job) (hjs : ∀ j ∈ js, ReleaseAllJob j) (s : State) :
    ReleaseAllKept s (runJobs .releaseAll js s) ∧ ReleaseAllEnds js s (runJobs .releaseAll js s) := by
  induction js generalizing s with
  | nil =>
    refine ⟨.itemEnd s, .inr ?_⟩
    rw [runJobs, itemEnd_eng (by simp)]
    exact ⟨rfl, fun p hp => ⟨hp, by simp⟩⟩
  | cons j js ih =>
    replace ih := ih fun j hj => hjs j (.tail _ hj)
    have hjob := hjs j (.head _)
    cases j with
    | releaseSlot p i =>
      simp only [runJobs]
      split
      · obtain ⟨hkept, hends⟩ := ih (doPush (releasePush s p i) s)
        exact ⟨(releaseAllKept_release p i s).trans hkept,
          hends.after fun q hq => ⟨(doPush_release_table p i s).1 ▸ hq, by simp⟩⟩
      · next hfull =>
        exact ⟨.waitFor _ _ s, .inl ⟨_, _, rfl, rfl, rfl, Bool.eq_false_iff.mpr hfull⟩⟩
    | finishGroup =>
      obtain ⟨hkept, hends⟩ := ih (endFilling s)
      exact ⟨(ReleaseAllKept.endFilling s).trans hkept, hends.after fun q hq => ⟨by simpa using hq, by simp⟩⟩
    | removeRecord p =>
      obtain ⟨hkept, hends⟩ := ih (recordRemoved p s)
      refine ⟨(ReleaseAllKept.recordRemoved p s).trans hkept, hends.after fun q hq => ?_⟩
      rw [recordRemoved_eng] at hq
      obtain ⟨r, hr, rfl⟩ := List.mem_map.mp hq
      obtain ⟨hr, hp⟩ := List.mem_filter.mp hr
      exact ⟨List.mem_map_of_mem hr, by simpa using hp⟩
    | free | blank | clearTable | pressEntry | voice | layer => exact hjob.elim

/-- A release-all has been taken (R110). -/
def releaseAllBegun (s : State) : State := s.setEng { s.eng with releaseAll := false }

theorem exec_releaseAll {s : State} (h : Takes s .releaseAll) : exec .releaseAll s =
    .next (runJobs .releaseAll (s.eng.held.flatMap releaseAllJobs) (releaseAllBegun s)) :=
  if_pos h

theorem releaseAllJob_of_mem {held : List HeldRec} {j : Job} (hj : j ∈ held.flatMap releaseAllJobs) :
    ReleaseAllJob j := by
  obtain ⟨r, -, hj⟩ := List.mem_flatMap.mp hj
  simp only [releaseAllJobs, releaseJobs, List.mem_append, List.mem_map, List.mem_cons, List.not_mem_nil,
    or_false] at hj
  rcases hj with ⟨i, -, rfl⟩ | rfl | rfl
  all_goals trivial

theorem removeRecord_mem {held : List HeldRec} {p : Pos} (hp : p ∈ held.map (·.pos)) :
    .removeRecord p ∈ held.flatMap releaseAllJobs := by
  obtain ⟨r, hr, rfl⟩ := List.mem_map.mp hp
  exact List.mem_flatMap.mpr ⟨r, hr, by simp [releaseAllJobs]⟩

theorem outsideKept_releaseAll (js : List Job) (s : State) :
    OutsideKept s (runJobs .releaseAll js (releaseAllBegun s)) :=
  .trans (t := releaseAllBegun s) (by simp [OutsideKept, releaseAllBegun]) (outsideKept_runJobs _ _ _)

/-- A release-all ends with an empty table or waits for room to push; with no record it does nothing. -/
theorem releaseAll_ends_or_waits {s : State} (h : Takes s .releaseAll) :
    ∃ t, exec .releaseAll s = .next t ∧ t.eng.releaseAll = false ∧ t.bellows = s.bellows ∧ t.scan = s.scan ∧
      t.ctrl = s.ctrl ∧ t.map = s.map ∧ OutsideKept s t ∧ StatusKept s t ∧
      ((t.eng.item = none ∧ t.eng.held = []) ∨ WaitsToPush t) ∧
      (s.eng.held = [] → t.eng = { s.eng with releaseAll := false } ∧ t.voice.queue = s.voice.queue) := by
  obtain ⟨hkept, hrun⟩ := runJobs_releaseAll _ (fun _ => releaseAllJob_of_mem) (releaseAllBegun s)
  refine ⟨_, exec_releaseAll h, hkept.releaseAll, hkept.bellows, runJobs_scan _ _ _, hkept.ctrl, hkept.map,
    outsideKept_releaseAll _ s, hkept.status, ?_, fun hnil => ?_⟩
  · refine hrun.symm.imp_left fun ⟨hitem, hheld⟩ => ⟨hitem, ?_⟩
    refine List.eq_nil_iff_forall_not_mem.mpr fun r hr => ?_
    obtain ⟨hmem, hnot⟩ := hheld r.pos (List.mem_map_of_mem hr)
    exact hnot (removeRecord_mem hmem)
  · obtain ⟨hitem, -⟩ := (takes_releaseAll_iff s).mp h
    rw [hnil, List.flatMap_nil, runJobs, itemEnd_eng (by simp), itemEnd_queue, releaseAllBegun]
    exact ⟨by simp [placeAfter, sweepAfter, hitem], rfl⟩

/-! ### The tag of a run of releases (R117) -/

theorem joinGroup_nextTag (i : Slot) (starts : Bool) (now : Nat) (v : VoiceWriter) :
    (joinGroup i starts now v).nextTag = if (fillingGroup v).isSome then v.nextTag else tagAfter v.nextTag := by
  unfold joinGroup
  split
  · next h => rw [h]; rfl
  · next h => rw [h]; rfl

/-- The tag that is next after a run of releases: a run that releases a slot has taken one for its group. -/
def nextTagAfter (s : State) (l : List Slot) : Nat :=
  if l = [] then s.voice.nextTag else tagAfter s.voice.nextTag

/-- A run of releases, with the tag that is next after it and what it leaves of the blocks beside the engine. -/
structure TaggedRun (p : Pos) (l : List Slot) (s t : State) : Prop where
  run : ReleaseRun p l s t
  nextTag : t.voice.nextTag = nextTagAfter s l
  outside : OutsideKept s t

theorem TaggedRun.nil (p : Pos) (s : State) : TaggedRun p [] s s := ⟨.nil p s, rfl, .refl s⟩

theorem TaggedRun.step {p : Pos} {l : List Slot} {s t : State} (h : TaggedRun p l s t)
    (hf : ∀ g ∈ s.voice.groups, g.filling = false) {i : Slot} (hi : i ∉ l) (ho : i ∈ s.eng.order) :
    TaggedRun p (l ++ [i]) s (doPush (releasePush t p i) t) := by
  refine ⟨h.run.step hf hi ho, ?_, h.outside.trans (outsideKept_doPush _ t)⟩
  obtain ⟨hgrouped, hslot, hstarts, -⟩ := releasePush_grouped t p i
  rw [doPush_voice]
  unfold pushWriter
  simp only [hgrouped, if_true, hslot, hstarts, joinGroup_nextTag, h.nextTag, nextTagAfter]
  by_cases hl : l = []
  · rw [fillingGroup_eq_none (by rw [h.run.groups, if_pos hl]; exact hf)]
    simp [hl]
  · rw [fillingGroup_last (by rw [h.run.groups, if_neg hl]) hf rfl]
    simp [hl]

/-- Where there is room, the run makes all its releases under one tag, and goes on with the jobs after them. -/
theorem runJobs_releases_tagged (k : ItemKind) (p : Pos) (js : List Job) {s : State} {l : List Slot}
    (ho : Ordered s l) (hr : l = [] ∨ RoomFor s l.length) :
    ∃ t, runJobs k (l.map (Job.releaseSlot p) ++ js) s = runJobs k js t ∧ TaggedRun p l s t := by
  obtain ⟨hn, hmem⟩ := ho
  rcases hr with rfl | ⟨hq, hg, hf⟩
  · exact ⟨s, rfl, .nil p s⟩
  have key : ∀ after before t, before ++ after = l → TaggedRun p before s t →
      ∃ u, runJobs k (after.map (Job.releaseSlot p) ++ js) t = runJobs k js u ∧ TaggedRun p l s u := by
    intro after
    induction after with
    | nil =>
      intro before t hl h
      rw [List.append_nil] at hl
      exact ⟨t, rfl, hl ▸ h⟩
    | cons i after ih =>
      intro before t hl h
      have hi : i ∉ before := fun hm => by
        rw [← hl] at hn
        exact (List.nodup_append.mp hn).2.2 i hm i (.head _) rfl
      have hroom : GroupRoom t := h.run.room hf hg (by
        rw [← hl, List.length_append, List.length_cons] at hq
        omega)
      obtain ⟨u, hu, hrun⟩ := ih (before ++ [i]) _ (by simpa using hl) (h.step hf hi (hmem i (hl ▸ by simp)))
      refine ⟨u, hu ▸ ?_, hrun⟩
      simp only [List.map_cons, List.cons_append, runJobs]
      rw [if_pos (canPush_of_room _ hroom)]
  exact key l [] s rfl (.nil p s)

/-! ### The oldest record goes (R107, R110, R132) -/

section Oldest

variable {s : State} {r : HeldRec} {rest : List HeldRec} (hheld : s.eng.held = r :: rest) (hlaw : HeldLaw s)
include hheld hlaw

theorem HeldLaw.rest_pos {x : HeldRec} (hx : x ∈ rest) : x.pos ≠ r.pos := by
  obtain ⟨-, hpos, -, -⟩ := hlaw
  rw [hheld, List.map_cons, List.nodup_cons] at hpos
  exact fun h => hpos.1 (h ▸ List.mem_map_of_mem hx)

theorem HeldLaw.rest_voices {i : Slot} (hi : i ∈ rest.flatMap (·.voices)) : i ∉ r.voices := by
  obtain ⟨-, -, hvoices, -⟩ := hlaw
  rw [hheld, List.flatMap_cons, List.nodup_append] at hvoices
  exact fun hr => hvoices.2.2 i hr i hi rfl

/-- What is left of the table when the oldest record's voices and then the record have gone. -/
theorem HeldLaw.rest_left : (withoutSlots r.voices s.eng.held).filter (fun x => decide (x.pos ≠ r.pos)) = rest := by
  have hkept : withoutSlots r.voices rest = rest := by
    refine (List.map_congr_left fun x hx => ?_).trans (List.map_id' rest)
    rw [List.filter_eq_self.mpr fun i hi => ?_]
    simpa using HeldLaw.rest_voices hheld hlaw (List.mem_flatMap.mpr ⟨x, hx, hi⟩)
  have hcons : withoutSlots r.voices (r :: rest) =
      { r with voices := r.voices.filter fun i => !r.voices.contains i } :: withoutSlots r.voices rest := rfl
  rw [hheld, hcons, hkept, List.filter_cons_of_neg (by simp)]
  exact List.filter_eq_self.mpr fun x hx => decide_eq_true (HeldLaw.rest_pos hheld hlaw hx)

end Oldest

/-- What stands when a release-all has released the oldest record `r` and taken it out of the table: a release-all of
the records that are left. -/
structure OldestGone (r : HeldRec) (rest : List HeldRec) (s u : State) : Prop where
  released : Released s u r.pos r.voices
  exec : exec .releaseAll s = exec .releaseAll u
  takes : Takes u .releaseAll
  eng : u.eng = { s.eng with
    mirror := u.eng.mirror, free := u.eng.free, order := u.eng.order, counts := u.eng.counts
    held := rest, revWalk := placeLeaving r.pos s.eng, sweep := u.eng.sweep }
  nextTag : u.voice.nextTag = nextTagAfter s r.voices
  groups : u.voice.groups.length ≤ s.voice.groups.length + if r.voices = [] then 0 else 1
  closed : ∀ g ∈ u.voice.groups, g.filling = false
  kept : ReleaseAllKept s u
  scan : u.scan = s.scan
  outside : OutsideKept s u

/-- A release-all that is taken up again where it stands. -/
theorem releaseAllBegun_again {u : State} (h : u.eng.releaseAll = false) :
    releaseAllBegun (u.setEng { u.eng with releaseAll := true }) = u := by
  have heng : { u.eng with releaseAll := false } = u.eng := by rw [← h]
  show u.setEng { u.eng with releaseAll := false } = u
  rw [heng]
  rfl

theorem sameSlots_releaseAllBegun (s : State) : SameSlots s (releaseAllBegun s) := by constructor <;> rfl

/-- The releases of the oldest record by a run from the beginning of a release-all, and its removal. -/
def oldestGone (r : HeldRec) (t : State) : State :=
  let u := recordRemoved r.pos (endFilling t)
  u.setEng { u.eng with releaseAll := true }

theorem releaseAll_oldestGone {s : State} {r : HeldRec} {rest : List HeldRec} (htakes : Takes s .releaseAll)
    (hheld : s.eng.held = r :: rest) (hlaw : HeldLaw s) (ho : Ordered s r.voices)
    (hroom : r.voices = [] ∨ RoomFor s r.voices.length) : ∃ u, OldestGone r rest s u := by
  obtain ⟨hitem, hop, hhush, hall⟩ := (takes_releaseAll_iff s).mp htakes
  obtain ⟨t, hrun, hrel, htag, hout⟩ := runJobs_releases_tagged .releaseAll r.pos
    (.finishGroup :: .removeRecord r.pos :: rest.flatMap releaseAllJobs) (s := releaseAllBegun s) ho hroom
  have heng : (oldestGone r t).eng = { removeRec r.pos t.eng with releaseAll := true } := by
    simp [oldestGone, recordRemoved_eng]
  have hleft : (oldestGone r t).eng.held = rest := by
    rw [heng]
    refine Eq.trans ?_ (HeldLaw.rest_left hheld hlaw)
    rw [removeRec, hrel.held]
    rfl
  have hwalk : (oldestGone r t).eng.revWalk = placeLeaving r.pos s.eng := by
    rw [heng]
    exact placeAfter_of_pos (.reversalStep r.pos) ((congrArg Engine.revWalk hrel.eng).trans rfl)
      (by rw [hrel.held, map_pos_withoutSlots]; rfl)
  have hengine : (oldestGone r t).eng = { s.eng with
      mirror := t.eng.mirror, free := t.eng.free, order := t.eng.order, counts := t.eng.counts
      held := rest, revWalk := placeLeaving r.pos s.eng, sweep := t.eng.sweep } := by
    rw [← hleft, ← hwalk, heng, hrel.eng]
    simp [removeRec, releaseAllBegun, hall]
  have hctrl : (oldestGone r t).ctrl = s.ctrl := by
    exact (by simp [oldestGone, recordRemoved] : (oldestGone r t).ctrl = t.ctrl).trans hrel.ctrl
  have hvoice : (oldestGone r t).voice = { t.voice with
      groups := (t.voice.groups.map fun g => { g with filling := false }).filter fun g => !g.closable } := by
    simp [oldestGone, recordRemoved]
  have htakes' : Takes (oldestGone r t) .releaseAll := by
    rw [takes_releaseAll_iff, hengine, hctrl]
    exact ⟨hitem, hop, hhush, hall⟩
  refine ⟨oldestGone r t, ?_⟩
  constructor
  case released =>
    refine (sameSlots_releaseAllBegun s).released hrel ?_ ?_ ?_ ?_ ?_ ?_
    · rw [hengine]
    · rw [hengine]
    · rw [hengine]
    · rw [hengine]
    · rw [hvoice]
    · rw [hvoice]
  case exec =>
    have hagain : releaseAllBegun (oldestGone r t) = recordRemoved r.pos (endFilling t) :=
      releaseAllBegun_again (by rw [recordRemoved_eng, endFilling_eng, removeRec, hrel.eng]; rfl)
    rw [exec_releaseAll htakes, exec_releaseAll htakes', hleft, hagain, hheld, List.flatMap_cons, releaseAllJobs,
      releaseJobs, List.append_assoc]
    exact congrArg _ hrun
  case takes => exact htakes'
  case eng => rw [hengine]
  case nextTag => rw [hvoice]; exact htag
  case groups =>
    rw [hvoice]
    refine (List.length_filter_le _ _).trans ?_
    rw [List.length_map, hrel.groups]
    split <;> simp [releaseAllBegun]
  case closed =>
    rw [hvoice]
    intro g hg
    obtain ⟨hg, -⟩ := List.mem_filter.mp hg
    obtain ⟨x, -, rfl⟩ := List.mem_map.mp hg
    rfl
  case kept =>
    refine ⟨by rw [hengine], hctrl, ?_, ?_, ?_⟩
    · exact (by simp [oldestGone, recordRemoved] : (oldestGone r t).map = t.map).trans hrel.map
    · exact (by simp [oldestGone, recordRemoved] : (oldestGone r t).bellows = t.bellows).trans hrel.bellows
    · refine hrel.status.trans ?_
      simp [StatusKept, oldestGone, recordRemoved]
  case scan => exact (by simp [oldestGone, recordRemoved] : (oldestGone r t).scan = t.scan).trans hrel.scan
  case outside =>
    refine .trans (t := t) (.trans (t := releaseAllBegun s) ?_ hout) ?_
    · simp [OutsideKept, releaseAllBegun]
    · simp [OutsideKept, oldestGone, recordRemoved]

/-! ### With room for all of it every record goes, oldest first (R110) -/

/-- The slots that the table lists, record after record. -/
def listedSlots (s : State) : List Slot := s.eng.held.flatMap (·.voices)

/-- Room for the releases of every record, each in a group of its own (R110, R119). -/
def RoomForTable (s : State) : Prop :=
  s.voice.queue.length + (listedSlots s).length ≤ 32 ∧
  s.voice.groups.length + (s.eng.held.filter fun r => decide (r.voices ≠ [])).length ≤ 4 ∧
  ∀ g ∈ s.voice.groups, g.filling = false

/-- A release-all that has released every record. -/
structure TableReleased (s t : State) : Prop where
  item : t.eng.item = none
  held : t.eng.held = []
  queue : t.voice.queue.map (·.slot) = s.voice.queue.map (·.slot) ++ listedSlots s
  mirror : ∀ i, t.eng.mirror.get i = if i ∈ listedSlots s then releasedRec s i else s.eng.mirror.get i
  free : t.eng.free = s.eng.free ++ freed s (listedSlots s)
  order : t.eng.order = s.eng.order.filter fun i => !((listedSlots s).contains i && latchZero s i)
  revWalk : s.eng.revWalk = none ∨ s.eng.revWalk ∈ s.eng.held.map (some ·.pos) → t.eng.revWalk = none

theorem tableReleased_of_nil {s : State} (htakes : Takes s .releaseAll) (hnil : s.eng.held = []) :
    ∃ t, exec .releaseAll s = .next t ∧ TableReleased s t := by
  obtain ⟨hitem, -⟩ := (takes_releaseAll_iff s).mp htakes
  obtain ⟨t, hexec, -, -, -, -, -, -, -, -, hdone⟩ := releaseAll_ends_or_waits htakes
  obtain ⟨heng, hqueue⟩ := hdone hnil
  have hlisted : listedSlots s = [] := by simp [listedSlots, hnil]
  refine ⟨t, hexec, ?_⟩
  constructor
  case item => rw [heng]; exact hitem
  case held => rw [heng]; exact hnil
  case queue => simp [hqueue, hlisted]
  case mirror => simp [heng, hlisted]
  case free => simp [heng, hlisted, freed]
  case order => simp [heng, hlisted]
  case revWalk => simp [heng, hnil]

theorem releasedRec_sect (s : State) (i : Slot) : (releasedRec s i).sect = (s.eng.mirror.get i).sect := by
  unfold releasedRec
  dsimp only []
  split <;> rfl

section Step

variable {r : HeldRec} {rest : List HeldRec} {s u t : State}

theorem RoomForTable.oldest (hheld : s.eng.held = r :: rest) (h : RoomForTable s) :
    r.voices = [] ∨ RoomFor s r.voices.length := by
  obtain ⟨hq, hg, hf⟩ := h
  rw [listedSlots, hheld, List.flatMap_cons, List.length_append] at hq
  by_cases hr : r.voices = []
  · exact .inl hr
  · rw [hheld, List.filter_cons_of_pos (by simpa using hr), List.length_cons] at hg
    exact .inr ⟨by omega, by omega, hf⟩

variable (h : OldestGone r rest s u) (hheld : s.eng.held = r :: rest)
include h

namespace OldestGone

theorem left : u.eng.held = rest := by rw [h.eng]

theorem same_slot {i : Slot} (hi : i ∉ r.voices) : u.eng.mirror.get i = s.eng.mirror.get i := by
  obtain ⟨-, hmirror, -⟩ := h.released
  rw [hmirror, if_neg hi]

theorem same_latchZero (i : Slot) : latchZero u i = latchZero s i := by
  obtain ⟨-, hmirror, -⟩ := h.released
  have hsect : (u.eng.mirror.get i).sect = (s.eng.mirror.get i).sect := by
    rw [hmirror]
    split
    · exact releasedRec_sect s i
    · rfl
  rw [latchZero, h.kept.map, hsect]
  rfl

theorem same_releasedRec {i : Slot} (hi : i ∉ r.voices) : releasedRec u i = releasedRec s i := by
  unfold releasedRec
  rw [h.kept.map, h.same_slot hi]

theorem stays {i : Slot} (hi : i ∉ r.voices) (ho : i ∈ s.eng.order) : i ∈ u.eng.order := by
  obtain ⟨-, -, horder, -⟩ := h.released
  rw [horder, List.mem_filter]
  exact ⟨ho, by simp [hi]⟩

include hheld

theorem listed : listedSlots s = r.voices ++ listedSlots u := by
  rw [listedSlots, hheld, List.flatMap_cons, listedSlots, h.left]

theorem listed_not_mem (hlaw : HeldLaw s) {i : Slot} (hi : i ∈ listedSlots u) : i ∉ r.voices := by
  rw [listedSlots, h.left] at hi
  exact HeldLaw.rest_voices hheld hlaw hi

theorem heldLaw (hlaw : HeldLaw s) : HeldLaw u := by
  have hvoices : ∀ x ∈ rest, ∀ i ∈ x.voices, i ∉ r.voices := fun x hx i hi =>
    HeldLaw.rest_voices hheld hlaw (List.mem_flatMap.mpr ⟨x, hx, hi⟩)
  obtain ⟨hlen, hpos, hnodup, hown⟩ := hlaw
  rw [hheld] at hlen hpos hnodup hown
  rw [HeldLaw, h.left]
  refine ⟨Nat.le_of_succ_le hlen, (List.nodup_cons.mp hpos).2, (List.nodup_append.mp hnodup).2.1,
    fun x hx i hi => ?_⟩
  rw [h.same_slot (hvoices x hx i hi)]
  exact hown x (.tail _ hx) i hi

theorem room (hroom : RoomForTable s) : RoomForTable u := by
  obtain ⟨hq, hg, -⟩ := hroom
  obtain ⟨hqueue, -⟩ := h.released
  have hgroups := h.groups
  rw [h.listed hheld, List.length_append] at hq
  refine ⟨?_, ?_, h.closed⟩
  · rw [hqueue, List.length_append, List.length_map]
    omega
  · rw [h.left]
    by_cases hr : r.voices = []
    · rw [hheld, List.filter_cons_of_neg (by simpa using hr)] at hg
      rw [if_pos hr] at hgroups
      omega
    · rw [hheld, List.filter_cons_of_pos (by simpa using hr), List.length_cons] at hg
      rw [if_neg hr] at hgroups
      omega

/-- A reversal walk that stands at a record stands at one that is left, or has ended (R132). -/
theorem revWalk (hw : s.eng.revWalk = none ∨ s.eng.revWalk ∈ s.eng.held.map (some ·.pos)) :
    u.eng.revWalk = none ∨ u.eng.revWalk ∈ u.eng.held.map (some ·.pos) := by
  have hwalk : u.eng.revWalk = placeLeaving r.pos s.eng := by rw [h.eng]
  rw [hwalk, h.left, placeLeaving]
  by_cases hp : s.eng.revWalk = some r.pos
  · rw [if_pos hp, hheld, List.map_cons, nextAfter_cons_self]
    cases rest with
    | nil => exact .inl rfl
    | cons x rest => exact .inr (.head _)
  · rw [if_neg hp]
    rw [hheld, List.map_cons, List.mem_cons] at hw
    exact hw.imp_right (Or.resolve_left · hp)

/-- The records that are left go after the oldest. -/
theorem tableReleased (hlaw : HeldLaw s) (ht : TableReleased u t) : TableReleased s t := by
  obtain ⟨hqueue, hmirror, horder, hfree, -, -⟩ := h.released
  have hlisted := h.listed hheld
  constructor
  case item => exact ht.item
  case held => exact ht.held
  case queue =>
    rw [ht.queue, hqueue, hlisted, List.map_append, List.map_map, List.append_assoc]
    congr 2
    exact List.map_id' _
  case mirror =>
    intro i
    rw [ht.mirror, hlisted]
    by_cases hi : i ∈ listedSlots u
    · rw [if_pos hi, if_pos (List.mem_append_right _ hi), h.same_releasedRec (h.listed_not_mem hheld hlaw hi)]
    · rw [if_neg hi, hmirror]
      simp [hi]
  case free =>
    have hrest : freed u (listedSlots u) = freed s (listedSlots u) :=
      List.filter_congr fun i _ => h.same_latchZero i
    rw [ht.free, hfree, hrest, hlisted, List.append_assoc, freed, freed, List.filter_append]
    rfl
  case order =>
    rw [ht.order, horder, hlisted, List.filter_filter]
    refine List.filter_congr fun i _ => ?_
    rw [h.same_latchZero]
    have hzero : decide ((s.map.sects.get (s.eng.mirror.get i).sect).latch = 0) = latchZero s i := rfl
    rw [hzero]
    cases latchZero s i <;> simp [Bool.and_comm]
  case revWalk => exact fun hw => ht.revWalk (h.revWalk hheld hw)

end OldestGone

end Step

theorem releaseAll_releasesTable {s : State} (htakes : Takes s .releaseAll) (hlaw : HeldLaw s)
    (ho : ∀ i ∈ listedSlots s, i ∈ s.eng.order) (hroom : RoomForTable s) :
    ∃ t, exec .releaseAll s = .next t ∧ TableReleased s t := by
  generalize hheld : s.eng.held = held
  induction held generalizing s with
  | nil => exact tableReleased_of_nil htakes hheld
  | cons r rest ih =>
    have hvoices : Ordered s r.voices := by
      obtain ⟨-, -, hnodup, -⟩ := hlaw
      rw [hheld, List.flatMap_cons, List.nodup_append] at hnodup
      refine ⟨hnodup.1, fun i hi => ho i ?_⟩
      rw [listedSlots, hheld]
      exact List.mem_append_left _ hi
    obtain ⟨u, hu⟩ := releaseAll_oldestGone htakes hheld hlaw hvoices (hroom.oldest hheld)
    obtain ⟨t, hexec, ht⟩ := ih hu.takes (hu.heldLaw hheld hlaw)
      (fun i hi => hu.stays (hu.listed_not_mem hheld hlaw hi) (ho i (hu.listed hheld ▸ List.mem_append_right _ hi)))
      (hu.room hheld hroom) hu.left
    exact ⟨t, hu.exec.trans hexec, hu.tableReleased hheld hlaw ht⟩

/-- Settles O48, by induction on the table: the oldest record goes, and a release-all of the others is left. -/
theorem releaseAllReleasesAndRemovesRecords : Obligations.ReleaseAllReleasesAndRemovesRecords := by
  intro s htakes
  refine ⟨releaseAll_ends_or_waits htakes, fun r rest hheld hlaw ho hroom => ?_, ?_⟩
  · obtain ⟨u, hu⟩ := releaseAll_oldestGone htakes hheld hlaw ho hroom
    exact ⟨u, hu.released, hu.exec, hu.takes, hu.eng, hu.nextTag, hu.kept.bellows, hu.scan, hu.kept.ctrl, hu.kept.map,
      hu.outside, hu.kept.status⟩
  · intro hlaw hslot hf hq hg all
    have hsounding : ∀ i ∈ listedSlots s, i ∈ s.eng.order := by
      obtain ⟨-, -, -, hown⟩ := hlaw
      intro i hi
      obtain ⟨r, hr, hi⟩ := List.mem_flatMap.mp hi
      exact hslot.mem_order (hown r hr i hi).1
    obtain ⟨t, hexec, ht⟩ := releaseAll_releasesTable htakes hlaw hsounding ⟨hq, hg, hf⟩
    exact ⟨t, hexec, ht.item, ht.held, ht.queue, ht.mirror, ht.free, ht.order, fun _ hw => ht.revWalk (.inr hw)⟩

end Sys2Proof.Machine
end

section
/-! PROOFS. The held read's fill that lands, and its discard timer (R123, R124, R125, R126). -/

namespace Sys2Proof.Machine

/-! ### The fill that lands (R124, R125) -/

/-- A WAITING slot with no fill under way begins one where no OPEN group touches its read (R124). -/
theorem tryFill_waiting {s : State} {r : ReadReq} (hs : s.tone.slot = .waiting r) (hf : s.tone.fill = .none) :
    tryFill s = if touchesOpen s r then s
      else s.setTone { s.tone with slot := .filling r, fill := .live, turns := s.tone.turns ++ [.fill] } := by
  cases ht : touchesOpen s r <;> simp [tryFill, hs, hf, ht]

/-- The state in which a discarded fill has been answered and a new one may begin. -/
def fillDropped (s : State) : State := s.setTone { s.tone with turns := s.tone.turns.tail, fill := .none }

theorem touchesOpen_fillDropped (s : State) (r : ReadReq) : touchesOpen (fillDropped s) r = touchesOpen s r :=
  touchesOpen_congr rfl rfl r

section Fill

variable {s : State} {r : ReadReq}

theorem fillLanded_done (hs : s.tone.slot = .filling r) (w : Tbl 8 Word) : fillLanded (.done w) s =
    s.setTone { s.tone with turns := s.tone.turns.tail, fill := .none, slot := .ready r w s.timebase } := by
  simp [fillLanded, hs]

theorem fillLanded_error (hs : s.tone.slot = .filling r) : fillLanded .error s =
    s.setTone { s.tone with turns := s.tone.turns.tail, fill := .none, slot := .vacant } := by
  simp [fillLanded, hs]

/-- A WAITING slot makes the answer that of a discarded fill: its words are not used (R125). -/
theorem fillLanded_discarded (hs : s.tone.slot = .waiting r) (x : RamAnswer) : fillLanded x s = tryFill (fillDropped s) := by
  simp [fillLanded, fillDropped, hs]

theorem fillLanded_discarded_tone (hs : s.tone.slot = .waiting r) (x : RamAnswer) : (fillLanded x s).tone =
    if touchesOpen s r then { s.tone with turns := s.tone.turns.tail, fill := .none }
    else { s.tone with turns := s.tone.turns.tail ++ [.fill], fill := .live, slot := .filling r } := by
  rw [fillLanded_discarded hs, tryFill_waiting (s := fillDropped s) hs rfl, touchesOpen_fillDropped]
  split <;> rfl

end Fill

theorem exec_heldReadFillLands {s : State} {a : Access} (h : Carries s .fill a) (x : RamAnswer) :
    exec (.heldReadFillLands x) s = .next (fillLanded x (landed s a x.failed)) :=
  congrArg Host.Outcome.next (landing_of_carries h rfl _ _)

/-! ### The discard (R126) -/

theorem exec_heldReadDiscard {s : State} {r : ReadReq} {w : Tbl 8 Word} {t₀ : Nat}
    (h : s.tone.slot = .ready r w t₀) : exec .heldReadDiscard s =
      .next (setCounters (fun c => { c with discards := bump c.discards })
        ((reachTime (t₀ + 200) s).setTone { s.tone with slot := .vacant })) := by
  show execHeldReadDiscard s = _
  rw [execHeldReadDiscard, h]
  rfl

/-- Settles O39, by the slot that the answer or the timer finds: FILLING, WAITING behind a discarded fill, READY. -/
theorem theHeldReadFillsAndIsDiscarded : Obligations.TheHeldReadFillsAndIsDiscarded := by
  refine fun s => ⟨fun a r w h hs => ⟨?_, ?_⟩, fun a r w h hs => ?_, fun r w t₀ hs => ?_⟩
  · rw [exec_heldReadFillLands h, fillLanded_done (r := r) (by simpa using hs)]
    rfl
  · have hport : ownPort a.owner = .portT := by rw [h.2.1]; rfl
    have hlog := landed_faultLogged s hport
    refine ⟨_, exec_heldReadFillLands h _, hlog.trans_kept (.of_stat (fillLanded_stat _ _)), ?_⟩
    rw [fillLanded_error (s := landed s a _) (r := r) (by simpa using hs)]
    simp [landed, freePort]
  · have htouch : touchesOpen (landed s a false) r = touchesOpen s r := touchesOpen_congr (by simp) (by simp) r
    refine ⟨_, exec_heldReadFillLands h _, by simp [landed, RamAnswer.failed], by simp, by simp, by simp,
      by simp [landed], ?_⟩
    rw [fillLanded_discarded_tone (s := landed s a _) (r := r) (by simpa using hs)]
    simp [RamAnswer.failed, htouch]
  · refine ⟨_, exec_heldReadDiscard hs, by simp, by simp [reachTime],
      setCounters_stat_counters _ _, ?_⟩
    simp [reachTime]

end Sys2Proof.Machine
end

section
/-! PROOFS. SUSTAIN: the flag, effective sustain that follows it, and the sustain-off walk (R143, R156, R157). -/

namespace Sys2Proof.Machine

/-! ### The command with its argument -/

/-- The two legal arguments of SUSTAIN are the two values of its flag (R169). -/
theorem actWith_sustain {x : Word} (hx : fieldAt x 0 2 ≤ 1) (s : State) :
    actWith .sustain x s = actSustain (decide (fieldAt x 0 2 = 1)) s := by
  unfold actWith
  dsimp only []
  generalize fieldAt x 0 2 = n at hx ⊢
  match n with
  | 0 => rfl
  | 1 => rfl
  | _ + 2 => omega

/-! ### What it does to the control unit and to the engine -/

/-- The table of R156 in the working states: sustain is off in SETTLING, and otherwise by pin and flag. -/
theorem sustainValue_working {c : Control} (hw : c.op.working = true) (hv : c.valid = true) :
    sustainValue c = (decide (c.op ≠ .settling) && ((c.copy.sustEnable && c.sustReading) || c.sustainFlag)) := by
  rw [sustainValue_eq, hv, Bool.true_and]
  congr 1
  cases hop : c.op with
  | held | init => simp [hop, OpState.working] at hw
  | transparent | performing | settling => rfl

/-- HUSH effective in the working states hangs on the pin alone (R158). -/
theorem hushValue_working {c : Control} (hw : c.op.working = true) (hv : c.valid = true) :
    hushValue c = (c.copy.hushEnable && c.hushReading) := by
  simp [hushValue, hushPinActive, hushEnable, hw, hv]

/-- In a working state with a valid descriptor both values follow the new flag at once (R157, R158). -/
theorem actSustain_ctrl {s : State} (hw : s.ctrl.op.working = true) (hv : s.ctrl.valid = true) (on : Bool) :
    (actSustain on s).ctrl = { s.ctrl with
      sustainFlag := on
      sustain := decide (s.ctrl.op ≠ .settling) && ((s.ctrl.copy.sustEnable && s.ctrl.sustReading) || on)
      hushEffective := s.ctrl.copy.hushEnable && s.ctrl.hushReading } := by
  have hsustain := sustainValue_working (c := { s.ctrl with sustainFlag := on }) hw hv
  have hhush := hushValue_working (c := { s.ctrl with sustainFlag := on }) hw hv
  simp only [actSustain, answer_ctrl, workOutSustain_ctrl, workOut_ctrl, State.setCtrl_ctrl, hsustain, hhush]
  rfl

/-- The sustain-off walk starts when the flag takes effective sustain from on to off in PERFORMING (R143). -/
theorem actSustain_eng (on : Bool) (s : State) : (actSustain on s).eng = { s.eng with
    sustainWalk := s.eng.sustainWalk ||
      (s.ctrl.sustain && !(actSustain on s).ctrl.sustain && decide (s.ctrl.op = .performing)) } := by
  simp only [actSustain, answer_eng, answer_ctrl, workOutSustain_eng, workOutSustain_ctrl, workOut_ctrl]
  rfl

/-! ### The taking -/

/-- Settles O18: the taking of the command, and then the flag, whose new value sustain is worked out from. -/
theorem sustainSetsItsFlag : Obligations.SustainSetsItsFlag := by
  rintro s c x ⟨h, hfree⟩ hv hc hx
  have hexec := exec_argument_command (i := .sustain c) h rfl (show opcodeOf 5 = some .sustain by decide) (.inl hfree)
    (.inl hv) rfl hc
  rw [actWith_sustain hx] at hexec
  obtain ⟨hw, -, -⟩ := h
  refine ⟨_, hexec, ?_, ?_, ?_, by simp, by simp, by simp [PortsKept], by simp [CachesKept], ?_⟩
  · refine commandTaken_of_posted (by simp) (by simp) (actSustain_count _) (answer_stat_result (by simp)) ?_
    exact finish_stale (workOutSustain_stale (posted_stale 5 c s))
  · rw [chooseFetch_ctrl, actSustain_ctrl (by simpa using hw) (by simpa using hv), posted_ctrl]
  · rw [chooseFetch_eng, chooseFetch_ctrl_sustain, actSustain_eng, posted_eng, posted_ctrl]
  · simp [StatusKept, actSustain, answer]

end Sys2Proof.Machine
end

section
/-! PROOFS. Commands that are answered without acting (R152, R161, R169, R170), and GUARD and GUARD_LOCK (R161,
R162). -/

namespace Sys2Proof.Machine

/-! ### A command that is answered at its taking -/

section Answered

variable {s : State} {i : Instr} {op : Byte} {c : CmdWrite} {o : Opcode} {r : CmdResult}
  (h : CommandAccepted s) (hi : commandOf i = some (op, c)) (ho : opcodeOf op = some o)
  (hfree : s.ctrl.command = none ∨ o = .panic ∨ o = .reinit) (hdesc : s.ctrl.valid = true ∨ o.anyDescriptor = true)
include h hi ho hfree hdesc

/-- A command without an argument whose action is an answer alone does not act. -/
theorem turnedAway_of_plain (ha : o.hasArg = false) (hact : actPlain o (posted op c s) = answer r (posted op c s)) :
    ∃ t, exec i s = .next t ∧ TurnedAway op c r s t := by
  refine ⟨_, exec_plain_command h hi ho hfree hdesc ha, ?_⟩
  rw [hact]
  exact answer_posted_turnedAway op c r s

/-- A command whose argument is answered alone does not act. -/
theorem turnedAway_of_argument {a : Word} (ha : o.hasArg = true) (hc : c.arg = some a)
    (hact : actWith o a (posted op c s) = answer r (posted op c s)) :
    ∃ t, exec i s = .next t ∧ TurnedAway op c r s t := by
  refine ⟨_, exec_argument_command h hi ho hfree hdesc ha hc, ?_⟩
  rw [hact]
  exact answer_posted_turnedAway op c r s

end Answered

/-! ### The rows of R170 for PERFORM and STANDBY -/

section Rows

variable {s : State}

theorem actPerform_of_performing (ho : s.ctrl.op = .performing) : actPerform s = answer .refused s := by
  simp [actPerform, ho]

theorem actPerform_of_settling (ho : s.ctrl.op = .settling) : actPerform s = answer .busy s := by
  simp [actPerform, ho]

/-- A hush that is pending or running holds PERFORM back. -/
theorem actPerform_of_hush (ho : s.ctrl.op = .transparent)
    (hh : s.eng.hushPending ≠ .clear ∨ itemIsHush s.eng = true) : actPerform s = answer .busy s := by
  simp only [actPerform, ho]
  exact if_pos hh

theorem actSettle_of_transparent (ho : s.ctrl.op = .transparent) : actSettle s = answer .refused s := by
  simp [actSettle, ho]

theorem actSettle_of_settling (ho : s.ctrl.op = .settling) : actSettle s = answer .busy s := by
  simp [actSettle, ho]

theorem actCut_of_transparent (ho : s.ctrl.op = .transparent) : actCut s = answer .refused s := by
  simp [actCut, ho]

theorem actCut_of_settling (ho : s.ctrl.op = .settling) : actCut s = answer .busy s := by
  simp [actCut, ho]

theorem actWith_standby_settle (h : BitVec 30) (s : State) :
    actWith .standby (h ++ (1 : BitVec 2)) s = actSettle s := by
  simp [actWith, fieldAt_mode]

theorem actWith_standby_cut (h : BitVec 30) (s : State) :
    actWith .standby (h ++ (2 : BitVec 2)) s = actCut s := by
  simp [actWith, fieldAt_mode]

/-- Outside PERFORMING the two STANDBY commands are answered alike (R170). -/
theorem standby_answered {i : Instr} {high : BitVec 24} {a : BitVec 30} {w : CmdWrite}
    (hi : i = .standbySettle high a ∨ i = .standbyCut high a) (hw : commandOf i = some (2, w)) :
    ∃ x, w.arg = some x ∧ ∀ u : State, (u.ctrl.op = .transparent → actWith .standby x u = answer .refused u) ∧
      (u.ctrl.op = .settling → actWith .standby x u = answer .busy u) := by
  rcases hi with rfl | rfl
  · obtain ⟨-, rfl⟩ := Prod.mk.inj (Option.some.inj hw)
    refine ⟨_, rfl, fun u => ?_⟩
    rw [actWith_standby_settle]
    exact ⟨actSettle_of_transparent, actSettle_of_settling⟩
  · obtain ⟨-, rfl⟩ := Prod.mk.inj (Option.some.inj hw)
    refine ⟨_, rfl, fun u => ?_⟩
    rw [actWith_standby_cut]
    exact ⟨actCut_of_transparent, actCut_of_settling⟩

end Rows

/-! ### The arguments of SWAP, SUSTAIN and GUARD (R169) -/

section Arguments

variable {s : State} {x : Word}

theorem actWith_swap {m : SwapMode} (hm : swapModeOf x = some m) : actWith .swap x s = actSwap m s := by
  simp [actWith, hm]

theorem actWith_swap_bad (hx : fieldAt x 0 2 = 0 ∨ fieldAt x 0 2 = 3) : actWith .swap x s = answer .bad s := by
  have hm : swapModeOf x = none := by rcases hx with hx | hx <;> simp [swapModeOf, hx]
  simp [actWith, hm]

/-- A swap that is pending, or a restrike walk that runs, holds a second SWAP back (R152). -/
theorem actSwap_of_busy (m : SwapMode) (h : s.ctrl.swap ≠ none ∨ s.eng.restrikeWalk = true) :
    actSwap m s = answer .busy s := by
  refine if_pos ?_
  simpa [Option.isSome_iff_ne_none] using h

theorem actWith_sustain_bad (hx : 2 ≤ fieldAt x 0 2) : actWith .sustain x s = answer .bad s := by
  unfold actWith
  dsimp only []
  generalize fieldAt x 0 2 = n at hx ⊢
  match n with
  | 0 | 1 => omega
  | _ + 2 => rfl

theorem actGuard_of_locked (hl : s.ctrl.guard.lock = true) : actGuard x s = answer .refused s := if_pos hl

/-- With the guard unlocked a mode that names none, or a span that ends before it begins, is illegal (R161). -/
theorem actGuard_bad (hl : s.ctrl.guard.lock = false) (hx : fieldAt x 16 2 = 3 ∨ fieldAt x 8 8 < fieldAt x 0 8) :
    actGuard x s = answer .bad s := by
  rcases hx with hx | hx
  · simp [actGuard, hl, guardModeOf, hx]
  · cases hm : guardModeOf x <;> simp [actGuard, hl, hm, hx]

end Arguments

/-- Settles O12: each row is answered at the taking of the command, and nothing else comes of it. -/
theorem commandsOutOfPlaceDoNotAct : Obligations.CommandsOutOfPlaceDoNotAct := by
  have hone : opcodeOf 1 = some .perform := by decide
  have htwo : opcodeOf 2 = some .standby := by decide
  have hthree : opcodeOf 3 = some .swap := by decide
  have hfive : opcodeOf 5 = some .sustain := by decide
  have hsix : opcodeOf 6 = some .guard := by decide
  refine ⟨?_, ?_⟩
  · rintro s c high a i w ⟨h, hfree⟩ hv
    have hperform {r : CmdResult} (hact : actPerform (posted 1 c s) = answer r (posted 1 c s)) :
        ∃ t, exec (.perform c) s = .next t ∧ TurnedAway 1 c r s t :=
      turnedAway_of_plain h rfl hone (.inl hfree) (.inl hv) rfl hact
    refine ⟨fun ho => hperform (actPerform_of_performing (by simpa using ho)),
      fun ho => hperform (actPerform_of_settling (by simpa using ho)),
      fun ho hh => hperform (actPerform_of_hush (by simpa using ho) (by simpa using hh)), fun hi hw => ?_,
      fun x m hc hm hb => ?_⟩
    · obtain ⟨x, hx, hact⟩ := standby_answered hi hw
      obtain ⟨hrefused, hbusy⟩ := hact (posted 2 w s)
      exact ⟨fun ho => turnedAway_of_argument h hw htwo (.inl hfree) (.inl hv) rfl hx (hrefused (by simpa using ho)),
        fun ho => turnedAway_of_argument h hw htwo (.inl hfree) (.inl hv) rfl hx (hbusy (by simpa using ho))⟩
    · exact turnedAway_of_argument h rfl hthree (.inl hfree) (.inl hv) rfl hc
        ((actWith_swap hm).trans (actSwap_of_busy m (by simpa using hb)))
  · rintro s c x ⟨h, hfree⟩ hc
    have hguard {r : CmdResult} (hact : actGuard x (posted 6 c s) = answer r (posted 6 c s)) :
        ∃ t, exec (.guard c) s = .next t ∧ TurnedAway 6 c r s t :=
      turnedAway_of_argument h rfl hsix (.inl hfree) (.inr rfl) rfl hc hact
    exact ⟨fun hv hx => turnedAway_of_argument h rfl hthree (.inl hfree) (.inl hv) rfl hc (actWith_swap_bad hx),
      fun hv hx => turnedAway_of_argument h rfl hfive (.inl hfree) (.inl hv) rfl hc (actWith_sustain_bad hx),
      fun hl hx => hguard (actGuard_bad (by simpa using hl) hx),
      fun hl => hguard (actGuard_of_locked (by simpa using hl))⟩

/-! ### GUARD and GUARD_LOCK act (R161, R162) -/

/-- The unlocked guard whose span the argument gives (12.3). -/
def guardOf (x : Word) (m : GuardMode) : Guard :=
  { first := Fin.ofNat 256 (fieldAt x 0 8), last := Fin.ofNat 256 (fieldAt x 8 8), mode := m, lock := false }

/-- The span of the guard goes from the lowest byte of the argument to the next one. -/
theorem guardOf_span (x : Word) (m : GuardMode) :
    (guardOf x m).first.val = fieldAt x 0 8 ∧ (guardOf x m).last.val = fieldAt x 8 8 :=
  ⟨Nat.mod_eq_of_lt (bitsAt x 0 8).isLt, Nat.mod_eq_of_lt (bitsAt x 8 8).isLt⟩

/-- With the guard unlocked a legal argument sets span and mode (R161). -/
theorem actGuard_sets {s : State} {x : Word} {m : GuardMode} (hl : s.ctrl.guard.lock = false)
    (hm : guardModeOf x = some m) (hx : fieldAt x 0 8 ≤ fieldAt x 8 8) :
    actGuard x s = answer .done (s.setCtrl { s.ctrl with guard := guardOf x m }) := by
  simp [actGuard, guardOf, hl, hm, Nat.not_lt.mpr hx]

/-- A command that sets the guard and is done leaves every other block and the logs as they are. -/
theorem guardSet_taken (op : Byte) (c : CmdWrite) (g : Guard) (s : State) :
    let t := chooseFetch (answer .done ((posted op c s).setCtrl { s.ctrl with guard := g }))
    CommandTaken op c .done s t ∧ t.ctrl = { s.ctrl with argRead := t.ctrl.argRead, guard := g } ∧
      t.eng = s.eng ∧ t.scan = s.scan ∧ t.bellows = s.bellows ∧ PortsKept s t ∧ CachesKept s t ∧ StatusKept s t := by
  refine ⟨?_, ?_, ?_, ?_, ?_, ?_, ?_, ?_⟩
  · refine commandTaken_of_posted (by simp) (by simp) ?_ (answer_stat_result (by simp)) ?_
    · simp [CommandCountKept, answer]
    · exact finish_stale (posted_stale op c s)
  · rw [chooseFetch_ctrl, answer_ctrl, State.setCtrl_ctrl]
  · simp
  · simp
  · simp
  · simp [PortsKept]
  · simp [CachesKept]
  · simp [StatusKept, answer]

/-- Settles O19: both commands act with either descriptor, and what they set is the guard. -/
theorem guardAndGuardLockSetTheGuard : Obligations.GuardAndGuardLockSetTheGuard := by
  rintro s c ⟨h, hfree⟩
  refine ⟨fun x m hc hl hm hx => ?_, ?_⟩
  · have hexec := exec_argument_command (i := .guard c) h rfl (show opcodeOf 6 = some .guard by decide) (.inl hfree)
      (.inr rfl) rfl hc
    have hact : actWith .guard x (posted 6 c s) =
        answer .done ((posted 6 c s).setCtrl { s.ctrl with guard := guardOf x m }) := by
      rw [← posted_ctrl 6 c s]
      exact actGuard_sets (by simpa using hl) hm hx
    rw [hact] at hexec
    obtain ⟨htaken, hctrl, hkept⟩ := guardSet_taken 6 c (guardOf x m) s
    have hguard := congrArg Control.guard hctrl
    obtain ⟨hfirst, hlast⟩ := guardOf_span x m
    refine ⟨_, hexec, htaken, ?_, (congrArg (·.first.val) hguard).trans hfirst,
      (congrArg (·.last.val) hguard).trans hlast, hkept⟩
    rw [hguard]
    exact hctrl
  · have hexec := exec_plain_command (i := .guardLock c) h rfl (show opcodeOf 7 = some .guardLock by decide)
      (.inl hfree) (.inr rfl) rfl
    have hact : actPlain .guardLock (posted 7 c s) =
        answer .done ((posted 7 c s).setCtrl { s.ctrl with guard := { s.ctrl.guard with lock := true } }) := by
      simp only [actPlain, actGuardLock, posted_ctrl]
    rw [hact] at hexec
    exact ⟨_, hexec, guardSet_taken 7 c { s.ctrl.guard with lock := true } s⟩

end Sys2Proof.Machine
end

section
/-! PROOFS. SWAP and STANDBY CUT: a swap waits or takes effect, at its taking or at the entry to TRANSPARENT (R152 to
R154, R159, R175). -/

namespace Sys2Proof.Machine

/-! ### SWAP (R152) -/

/-- The other bank is named incoming, and the command stays PENDING until the swap completes. -/
def swapNamed (m : SwapMode) (s : State) : State :=
  leavePending .swap (report s (s.setCtrl { s.ctrl with
    swap := some { mode := m, incoming := s.ctrl.bank.other, taken := false } }))

section Named

variable (m : SwapMode) (s : State)

theorem swapNamed_ctrl : (swapNamed m s).ctrl = { s.ctrl with
    swap := some { mode := m, incoming := s.ctrl.bank.other, taken := false } } := by
  simp [swapNamed]

@[simp] theorem swapNamed_player : (swapNamed m s).player = s.player := by simp [swapNamed]
@[simp] theorem swapNamed_ports : (swapNamed m s).ports = s.ports := by simp [swapNamed]
@[simp] theorem swapNamed_eng : (swapNamed m s).eng = s.eng := by simp [swapNamed]
@[simp] theorem swapNamed_stat_flags : (swapNamed m s).stat.flags = s.stat.flags := by simp [swapNamed]
@[simp] theorem swapNamed_stat_counters : (swapNamed m s).stat.counters = s.stat.counters := by simp [swapNamed]
@[simp] theorem swapNamed_stat_faultLog : (swapNamed m s).stat.faultLog = s.stat.faultLog := by simp [swapNamed]
@[simp] theorem swapNamed_stat_result : (swapNamed m s).stat.result = s.stat.result := by simp [swapNamed]

theorem swapNamed_stale {s : State} (h : s.stat.stale = true) : (swapNamed m s).stat.stale = true := by
  rw [swapNamed, leavePending_stat_stale]
  exact report_stale h

/-- From now on the result is the SWAP's (R166). -/
theorem swapNamed_awaited {s : State} (h : s.stat.awaited = .command) : (swapNamed m s).stat.awaited = .swap := by
  simp [swapNamed, leavePending_stat_awaited, h]

theorem holdsBank_swapNamed (b : Bank) : holdsBank (swapNamed m s) b = holdsBank s b :=
  holdsBank_congr (by simp) (by simp [swapNamed_ctrl]) b

/-- A SWAP that takes effect at its taking: the bank named incoming becomes active, and the swap completes (R154). -/
def swapAtOnce (m : SwapMode) (s : State) : State :=
  let t := swapNamed m s
  completeSwap (report t (t.setCtrl { t.ctrl with bank := s.ctrl.bank.other }))

@[simp] theorem swapAtOnce_player : (swapAtOnce m s).player = s.player := by simp [swapAtOnce]
@[simp] theorem swapAtOnce_ports : (swapAtOnce m s).ports = s.ports := by simp [swapAtOnce]
@[simp] theorem swapAtOnce_eng : (swapAtOnce m s).eng = s.eng := by simp [swapAtOnce]
@[simp] theorem swapAtOnce_stat_flags : (swapAtOnce m s).stat.flags = s.stat.flags ||| 2 := by simp [swapAtOnce]
@[simp] theorem swapAtOnce_stat_counters : (swapAtOnce m s).stat.counters = s.stat.counters := by simp [swapAtOnce]
@[simp] theorem swapAtOnce_stat_faultLog : (swapAtOnce m s).stat.faultLog = s.stat.faultLog := by simp [swapAtOnce]

/-- The other bank is active then, and no swap is pending. -/
theorem swapAtOnce_ctrl : (swapAtOnce m s).ctrl = { s.ctrl with bank := s.ctrl.bank.other, swap := none } := by
  simp [swapAtOnce, swapNamed_ctrl]

theorem swapAtOnce_stale {s : State} (h : s.stat.stale = true) : (swapAtOnce m s).stat.stale = true :=
  completeSwap_stale (report_stale (swapNamed_stale m h))

/-- The command that was left PENDING is the one that the completed swap ends (R166). -/
theorem swapAtOnce_result {s : State} (h : s.stat.awaited = .command) : (swapAtOnce m s).stat.result = .done := by
  rw [swapAtOnce, completeSwap_stat_result, if_pos]
  simpa using swapNamed_awaited m h

end Named

section Swap

variable {s : State} (m : SwapMode) (hs : s.ctrl.swap = none) (hr : s.eng.restrikeWalk = false)
include hs hr

/-- A SWAP that need not wait for another is tested at once in TRANSPARENT alone (R153). -/
theorem actSwap_names :
    actSwap m s = if s.ctrl.op = .transparent then testSwap (swapNamed m s) else swapNamed m s := by
  simp only [actSwap, hs, hr]
  rfl

theorem actSwap_waits (h : s.ctrl.op ≠ .transparent ∨ holdsBank s s.ctrl.bank.other = true) :
    actSwap m s = swapNamed m s := by
  rw [actSwap_names m hs hr]
  split
  · next ho =>
    have hh : holdsBank s s.ctrl.bank.other = true := h.resolve_left (not_not.mpr ho)
    exact testSwap_waits (swapWaits_of_held (by rw [swapNamed_ctrl]) ((holdsBank_swapNamed m s _).trans hh))
  · rfl

theorem actSwap_completes (ho : s.ctrl.op = .transparent) (hh : holdsBank s s.ctrl.bank.other = false) :
    actSwap m s = swapAtOnce m s := by
  rw [actSwap_names m hs hr, if_pos ho]
  refine testSwap_completes (x := { mode := m, incoming := s.ctrl.bank.other, taken := false })
    (by rw [swapNamed_ctrl]) rfl ((holdsBank_swapNamed m s _).trans hh) ?_
  rintro ⟨-, hp⟩
  simp [swapNamed_ctrl, ho] at hp

/-- A SWAP leaves the engine, the counters, the fault log and the descriptor as they are, whether it waits or not. -/
theorem actSwap_kept : (actSwap m s).eng = s.eng ∧ (actSwap m s).stat.counters = s.stat.counters ∧
    (actSwap m s).stat.faultLog = s.stat.faultLog ∧ (actSwap m s).ctrl.desc = s.ctrl.desc := by
  by_cases h : s.ctrl.op ≠ .transparent ∨ holdsBank s s.ctrl.bank.other = true
  · simp [actSwap_waits m hs hr h, swapNamed_ctrl]
  · simp only [ne_eq, not_or, not_not, Bool.not_eq_true] at h
    obtain ⟨ho, hh⟩ := h
    simp [actSwap_completes m hs hr ho hh, swapAtOnce_ctrl]

end Swap

/-- Settles O16: the swap is named at the taking, and in TRANSPARENT it is tested there. -/
theorem swapWaitsOrTakesEffect : Obligations.SwapWaitsOrTakesEffect := by
  rintro s c x m ⟨h, hfree⟩ hv hc hm hs hr
  have hexec := exec_argument_command (i := .swap c) h rfl (show opcodeOf 3 = some .swap by decide) (.inl hfree)
    (.inl hv) rfl hc
  rw [actWith_swap hm] at hexec
  have hs' : (posted 3 c s).ctrl.swap = none := by simpa using hs
  have hr' : (posted 3 c s).eng.restrikeWalk = false := by simpa using hr
  obtain ⟨heng, hcounters, hlog, hdesc⟩ := actSwap_kept m hs' hr'
  have hholds : holdsBank (chooseFetch (actSwap m (posted 3 c s))) s.ctrl.bank.other =
      holdsBank (posted 3 c s) s.ctrl.bank.other := holdsBank_congr (by simp) (by simpa using hdesc) _
  refine ⟨_, hexec, by simpa using heng, by simp, by simp, by simp [PortsKept], by simp [CachesKept],
    by simpa using hcounters, by simpa using hlog, fun hw => ?_, fun ho hh => ?_⟩
  · rw [hholds] at hw
    have hact := actSwap_waits m hs' hr' (by simpa using hw)
    rw [hact]
    refine ⟨?_, ?_, by simp⟩
    · exact commandTaken_of_posted (by simp) (by simp) (hact ▸ actSwap_count m) (by simp)
        (swapNamed_stale m (posted_stale 3 c s))
    · rw [chooseFetch_ctrl, swapNamed_ctrl, posted_ctrl]
  · rw [hholds] at hh
    have hact := actSwap_completes m hs' hr' (by simpa using ho) (by simpa using hh)
    rw [hact]
    refine ⟨?_, ?_, by simp⟩
    · exact commandTaken_of_posted (by simp) (by simp) (hact ▸ actSwap_count m)
        (swapAtOnce_result m (posted_stat_awaited 3 c s)) (swapAtOnce_stale m (posted_stale 3 c s))
    · rw [chooseFetch_ctrl, swapAtOnce_ctrl, posted_ctrl, ← hs]

/-! ### The entry to TRANSPARENT (R153, R175) -/

/-- TRANSPARENT as it is entered, before the pending swap is tested there. -/
def transparentEntered (s : State) : State :=
  (workOut (setOp .transparent s)).setBellows { s.bellows with levelNotice := none }

section Transparent

variable {s : State}

theorem enterTransparent_eq (s : State) : enterTransparent s = testSwap (transparentEntered s) := by
  simp [enterTransparent, transparentEntered]

theorem transparentEntered_op (s : State) : (transparentEntered s).ctrl.op = .transparent := by
  simp [transparentEntered]

theorem transparentEntered_swap (s : State) : (transparentEntered s).ctrl.swap = s.ctrl.swap := by
  simp [transparentEntered]

theorem transparentEntered_bank (s : State) : (transparentEntered s).ctrl.bank = s.ctrl.bank := by
  simp [transparentEntered]

theorem transparentEntered_stat_flags (s : State) : (transparentEntered s).stat.flags = s.stat.flags := by
  simp [transparentEntered]

theorem holdsBank_transparentEntered (s : State) (b : Bank) :
    holdsBank (transparentEntered s) b = holdsBank s b :=
  holdsBank_congr (by simp [transparentEntered]) (by simp [transparentEntered]) b

/-- No restrike walk starts at the entry to TRANSPARENT. -/
theorem enterTransparent_eng (s : State) : (enterTransparent s).eng = s.eng := by
  rw [enterTransparent_eq, testSwap_eng_of_ne (by simp [transparentEntered_op])]
  simp [transparentEntered]

/-- A swap that has to wait is pending in TRANSPARENT as it was before. -/
theorem enterTransparent_waits (h : SwapWaits s) : (enterTransparent s).ctrl.bank = s.ctrl.bank ∧
    (enterTransparent s).ctrl.swap = s.ctrl.swap ∧ (enterTransparent s).stat.flags = s.stat.flags := by
  have hw : SwapWaits (transparentEntered s) := fun x hx =>
    (h x ((transparentEntered_swap s).symm.trans hx)).imp_right (holdsBank_transparentEntered s _).trans
  rw [enterTransparent_eq, testSwap_waits hw]
  exact ⟨transparentEntered_bank s, transparentEntered_swap s, transparentEntered_stat_flags s⟩

/-- A swap that need not wait takes effect and completes at the entry, a RESTRIKE too. -/
theorem enterTransparent_takes {x : Swap} (hx : s.ctrl.swap = some x) (ht : x.taken = false)
    (hh : holdsBank s x.incoming = false) : (enterTransparent s).ctrl.bank = x.incoming ∧
    (enterTransparent s).ctrl.swap = none ∧ (enterTransparent s).stat.flags = s.stat.flags ||| 2 := by
  rw [enterTransparent_eq, testSwap_completes ((transparentEntered_swap s).trans hx) ht
    ((holdsBank_transparentEntered s _).trans hh) (by simp [transparentEntered_op])]
  simp [transparentEntered_stat_flags]

/-- The test of a swap answers no command that is being taken (R166). -/
theorem testSwap_awaited_command (h : s.stat.awaited = .command) : (testSwap s).stat.awaited = .command := by
  unfold testSwap takeSwap
  repeat' split
  all_goals simp [h, completeSwap, finish_stat_awaited]

theorem enterTransparent_awaited (h : s.stat.awaited = .command) :
    (enterTransparent s).stat.awaited = .command := by
  rw [enterTransparent_eq]
  exact testSwap_awaited_command (by simpa [transparentEntered] using h)

/-- What a hush has left is left so by the entry to TRANSPARENT, which drops the level notice once more (R65). -/
theorem hushed_enterTransparent {t : State} (h : Hushed s t) : Hushed s (enterTransparent t) := by
  obtain ⟨hevents, hdown, hsilence, hbellows, heng, hrest⟩ := h
  refine ⟨by simpa using hevents, by simpa using hdown, by simpa using hsilence, ?_, ?_, by simpa using hrest⟩
  · rw [enterTransparent_bellows, hbellows]
  · rw [enterTransparent_eng]
    exact heng

end Transparent

/-! ### STANDBY CUT (R170, R175) -/

theorem actCut_of_performing {s : State} (ho : s.ctrl.op = .performing) :
    actCut s = answer .done (enterTransparent (announceHush s)) := by
  simp [actCut, ho]

/-- Settles O15: the hush is announced, and then TRANSPARENT is entered, where the pending swap is tested. -/
theorem standbyCutHushesAndEntersTransparent : Obligations.StandbyCutHushesAndEntersTransparent := by
  rintro s high a w ⟨h, hfree⟩ hv ho hw
  have harg : w.arg = some (a ++ (2 : BitVec 2)) := by
    obtain ⟨-, rfl⟩ := Prod.mk.inj (Option.some.inj hw)
    rfl
  have hexec := exec_argument_command h hw (show opcodeOf 2 = some .standby by decide) (.inl hfree) (.inl hv) rfl harg
  rw [actWith_standby_cut, actCut_of_performing (by simpa using ho)] at hexec
  have hholds (b : Bank) : holdsBank (announceHush (posted 2 w s)) b =
      holdsBank (chooseFetch (answer .done (enterTransparent (announceHush (posted 2 w s))))) b :=
    holdsBank_congr (by simp) (by simp) b
  refine ⟨_, hexec, ?_, by simp, ?_, ?_, ?_, fun hn => ?_, fun x hx ht hh => ?_, fun x hx ht => ?_, by simp, by simp,
    by simp [answer], by simp [answer], by simp [CachesKept]⟩
  · refine commandTaken_of_posted (by simp) (by simp) ?_
      (answer_stat_result (enterTransparent_awaited (by simp))) ?_
    · simp [CommandCountKept, answer]
    · exact finish_stale (enterTransparent_stale (announceHush_stale (posted_stale 2 w s)))
  · rw [chooseFetch_ctrl_sustain, answer_ctrl, enterTransparent_ctrl_sustain, announceHush_ctrl, posted_ctrl]
    simp [sustainValue_working (c := { s.ctrl with op := .transparent }) rfl hv, Control.copy]
  · rw [chooseFetch_ctrl_hushEffective, answer_ctrl, enterTransparent_ctrl_hushEffective, announceHush_ctrl,
      posted_ctrl]
    exact hushValue_working (c := { s.ctrl with op := .transparent }) rfl hv
  · simpa [Hushed] using hushed_enterTransparent (announceHush_hushed (posted 2 w s))
  · have hkept := enterTransparent_waits (s := announceHush (posted 2 w s)) (fun x hx => by simp [hn] at hx)
    simpa [answer, hn] using hkept
  · have htakes := enterTransparent_takes (s := announceHush (posted 2 w s)) (by simpa using hx) ht
      ((hholds _).trans hh)
    simpa [answer] using htakes
  · have hkept := enterTransparent_waits (s := announceHush (posted 2 w s)) fun y hy => by
      obtain rfl : x = y := by simpa [hx] using hy
      exact ht.imp_right (hholds _).trans
    simpa [answer] using hkept

end Sys2Proof.Machine
end

section
/-! PROOFS. The judgement of a command at its taking: BAD, BUSY, REFUSED, in this order (R165, R166, R167). -/

namespace Sys2Proof.Machine

/-! ### Opcodes and descriptors (12.3, R167) -/

/-- The ten commands are the opcodes 1 to 10. -/
theorem opcodeOf_eq_none {op : Byte} (h : namesNoCommand op = true) : opcodeOf op = none := by
  have hrange : op.toNat = 0 ∨ 10 < op.toNat := by simpa [namesNoCommand] using h
  unfold opcodeOf
  split
  case h_11 => rfl
  all_goals omega

/-- Every command but the five that work with either descriptor needs a valid one. -/
theorem anyDescriptor_eq_false {o : Opcode} (hreinit : o ≠ .reinit) (hack : o ≠ .ack) (hguard : o ≠ .guard)
    (hlock : o ≠ .guardLock) (hflush : o ≠ .flush) : o.anyDescriptor = false := by
  cases o with
  | perform | standby | swap | panic | sustain => rfl
  | reinit | ack | guard | guardLock | flush => contradiction

/-! ### The three steps of R167 -/

section Judged

variable {s : State} {op : Byte} {c : CmdWrite} (h : CommandAccepted s)
include h

/-- Step 1: an opcode that names no command is answered BAD, whatever else stands (R167). -/
theorem unknownOpcode_turnedAway (hop : opcodeOf op = none) :
    ∃ t, exec (.unknownOpcode op c) s = .next t ∧ TurnedAway op c .bad s t := by
  refine ⟨_, ?_, answer_posted_turnedAway op c .bad s⟩
  rw [exec_commandOf rfl, commandWrite_posted h, hop]

variable {i : Instr} {o : Opcode} (hi : commandOf i = some (op, c)) (ho : opcodeOf op = some o)
include hi ho

/-- Step 2: a command in progress makes every other one but PANIC and REINIT BUSY (R167). -/
theorem turnedAway_of_inProgress (hc : s.ctrl.command ≠ none) (hp : o ≠ .panic) (hr : o ≠ .reinit) :
    ∃ t, exec i s = .next t ∧ TurnedAway op c .busy s t := by
  refine ⟨_, ?_, answer_posted_turnedAway op c .busy s⟩
  rw [exec_commandOf hi, commandWrite_posted h, ho]
  exact congrArg (fun u => Host.Outcome.next (chooseFetch u)) (if_pos ⟨Option.isSome_iff_ne_none.mpr hc, hp, hr⟩)

/-- Step 3: with no command in progress, one that needs a valid descriptor is REFUSED without it (R167). -/
theorem turnedAway_of_noDescriptor (hc : s.ctrl.command = none) (hv : s.ctrl.valid = false)
    (hd : o.anyDescriptor = false) : ∃ t, exec i s = .next t ∧ TurnedAway op c .refused s t := by
  have hfree : ¬(s.ctrl.command.isSome = true ∧ o ≠ .panic ∧ o ≠ .reinit) := by simp [hc]
  refine ⟨_, ?_, answer_posted_turnedAway op c .refused s⟩
  rw [exec_commandOf hi, commandWrite_posted h, ho]
  exact congrArg (fun u => Host.Outcome.next (chooseFetch u)) ((if_neg hfree).trans (if_pos ⟨hv, hd⟩))

end Judged

/-- Settles O11: each step of R167 decides before the next one is asked. -/
theorem commandsAreJudgedInOrder : Obligations.CommandsAreJudgedInOrder := by
  refine ⟨fun s op c h hn => unknownOpcode_turnedAway h (opcodeOf_eq_none hn), fun s i op c o h hi ho => ⟨?_, ?_⟩⟩
  · exact turnedAway_of_inProgress h hi ho
  · intro hc hv hreinit hack hguard hlock hflush
    exact turnedAway_of_noDescriptor h hi ho hc hv (anyDescriptor_eq_false hreinit hack hguard hlock hflush)

end Sys2Proof.Machine
end

section
/-! PROOFS. The argument that is read from the command slot, and ACK, with its argument in hand or read (R166, R167,
R168, R169, R183). -/

namespace Sys2Proof.Machine

/-! ### The argument is asked for (R168) -/

theorem requestArgument_ctrl (o : Opcode) (n : Nat) (s : State) : (requestArgument o n s).ctrl = { s.ctrl with
    command := some o, argAhead := n, argRead := if n = 0 then .requested else .none } := rfl

/-- The read waits exactly while P writes are queued before the command's own. -/
theorem requestArgument_waits (o : Opcode) (n : Nat) (s : State) :
    (chooseFetch (requestArgument o n s)).ctrl.argRead = .none ↔ n ≠ 0 := by
  rw [chooseFetch_argRead_eq_none, requestArgument_ctrl]
  by_cases hn : n = 0 <;> simp [hn]

/-- ACK and GUARD are the commands with an argument that work with either descriptor (R167). -/
theorem descriptor_of_argument {c : Control} {o : Opcode} (h : c.valid = true ∨ o = .ack ∨ o = .guard) :
    c.valid = true ∨ o.anyDescriptor = true := by
  refine h.imp_right ?_
  rintro (rfl | rfl) <;> rfl

/-- A command that is judged to act and lacks its argument asks for it (R168). -/
theorem exec_command_asks {s : State} {i : Instr} {op : Byte} {c : CmdWrite} {o : Opcode} (h : CommandReady s)
    (hi : commandOf i = some (op, c)) (ho : opcodeOf op = some o) (hd : s.ctrl.valid = true ∨ o.anyDescriptor = true)
    (ha : o.hasArg = true) (hn : c.arg = none) :
    exec i s = .next (chooseFetch (requestArgument o s.player.writes.length (posted op c s))) := by
  obtain ⟨hacc, hfree⟩ := h
  rw [exec_command_judged hacc hi ho (.inl hfree) hd, ha, hn]
  rfl

/-! ### The argument has been read (R168, R169) -/

/-- The argument read has been answered, and the command that waited for it is in progress no longer. -/
def argumentRead (s : State) : State :=
  (endFetch s).setCtrl { s.ctrl with command := none, argRead := .none, argAhead := 0 }

section Read

variable (s : State)

@[simp] theorem argumentRead_ctrl :
    (argumentRead s).ctrl = { s.ctrl with command := none, argRead := .none, argAhead := 0 } := rfl

@[simp] theorem argumentRead_eng : (argumentRead s).eng = s.eng := by simp [argumentRead]
@[simp] theorem argumentRead_scan : (argumentRead s).scan = s.scan := by simp [argumentRead]
@[simp] theorem argumentRead_bellows : (argumentRead s).bellows = s.bellows := by simp [argumentRead]
@[simp] theorem argumentRead_stat : (argumentRead s).stat = s.stat := by simp [argumentRead]

end Read

/-- An answer without an error does not show in the status unit. -/
theorem landed_stat_done (s : State) (a : Access) : (landed s a false).stat = s.stat := by simp [landed, freePort]

/-- An error that is logged leaves the command's result to be given (R166). -/
theorem landed_stat_result (s : State) (a : Access) : (landed s a true).stat.result = s.stat.result ∧
    (landed s a true).stat.awaited = s.stat.awaited := by
  simp [landed, freePort]

/-- Where no argument read is asked for, the fetcher's choice leaves the control unit as it is. -/
theorem chooseFetch_ctrl_of_argRead {s : State} (h : s.ctrl.argRead = .none) : (chooseFetch s).ctrl = s.ctrl := by
  rw [chooseFetch_ctrl, (chooseFetch_argRead_eq_none s).mpr h, ← h]

theorem argumentLanded_done {s : State} {o : Opcode} (hc : s.ctrl.command = some o) (w : Tbl 8 Word) :
    argumentLanded (.done w) s = chooseFetch (actWith o (w.get 0) (argumentRead s)) := by
  simp [argumentLanded, argumentRead, hc]

theorem argumentLanded_error {s : State} {o : Opcode} (hc : s.ctrl.command = some o) :
    argumentLanded .error s = chooseFetch (answer .bad (argumentRead s)) := by
  simp [argumentLanded, argumentRead, hc]

section Lands

variable {s : State} {a : Access} {o : Opcode} (h : Carries s (.fetch .argument) a) (hc : s.ctrl.command = some o)
include h hc

/-- The command acts with the word that the read has brought. -/
theorem exec_argumentReadLands_done (w : Tbl 8 Word) : exec (.argumentReadLands (.done w)) s =
    .next (chooseFetch (actWith o (w.get 0) (argumentRead (landed s a false)))) :=
  congrArg Host.Outcome.next ((landing_of_carries h rfl _ _).trans (argumentLanded_done (by simpa using hc) w))

/-- After an error the command does not act (R169). -/
theorem exec_argumentReadLands_error : exec (.argumentReadLands .error) s =
    .next (chooseFetch (answer .bad (argumentRead (landed s a true)))) :=
  congrArg Host.Outcome.next ((landing_of_carries h rfl _ _).trans (argumentLanded_error (by simpa using hc)))

end Lands

/-! ### A SUSTAIN whose argument has been read (R156, R157) -/

/-- Effective sustain hangs neither on its own last value, nor on HUSH effective, nor on the argument read. -/
theorem sustainValue_congr {c c' : Control} (h : c' = { c with
    sustain := c'.sustain, hushEffective := c'.hushEffective, argRead := c'.argRead }) :
    sustainValue c' = sustainValue c := by
  rw [h]
  rfl

/-- In every state sustain is worked out from the new flag. -/
theorem actSustain_workedOut (on : Bool) (s : State) : (actSustain on s).ctrl = { s.ctrl with
    sustainFlag := on, sustain := sustainValue { s.ctrl with sustainFlag := on }
    hushEffective := hushValue { s.ctrl with sustainFlag := on } } := by
  simp [actSustain]

/-- Settles O43: the read is asked for, and its answer is an error or hands the argument over. -/
theorem argumentsAreReadFromTheCommandSlot : Obligations.ArgumentsAreReadFromTheCommandSlot := by
  refine ⟨?_, fun s a o h hc => ?_, fun s a w h hc hx _ => ?_⟩
  · intro s i op c o h hi ho hn ha hd
    refine ⟨_, exec_command_asks h hi ho (descriptor_of_argument hd) ha hn, ?_, ?_, ?_, by simp, by simp,
      by simp, by simp [PortsKept], by simp [CachesKept], by simp [StatusKept]⟩
    · exact commandTaken_of_posted (by simp) (by simp) (by simp [CommandCountKept]) (by simp) (by simp)
    · rw [chooseFetch_ctrl, requestArgument_ctrl, posted_ctrl]
    · exact (requestArgument_waits o _ _).trans (not_congr List.length_eq_zero_iff)
  · obtain ⟨hresult, hawaited⟩ := landed_stat_result s a
    have hexec := exec_argumentReadLands_error h hc
    obtain ⟨-, howner, -⟩ := h
    have hlogged : FaultLogged .memoryError .bridge a.req.start s (argumentRead (landed s a true)) :=
      (landed_logged s howner).trans_kept (.of_stat (by simp))
    refine ⟨_, hexec, hlogged.trans_kept (by simp [StatusKept, answer]), ?_, ?_, by simp⟩
    · rw [chooseFetch_ctrl_of_argRead (by simp)]
      simp
    · simp [answer, finish_stat_result, hresult, hawaited]
  · have hexec := exec_argumentReadLands_done h hc w
    rw [actWith_sustain hx] at hexec
    have hctrl := actSustain_workedOut (decide (fieldAt (w.get 0) 0 2 = 1)) (argumentRead (landed s a false))
    have hkept := chooseFetch_ctrl_of_argRead (congrArg Control.argRead hctrl)
    refine ⟨_, hexec, ?_, ?_, ?_, ?_, ?_, ?_, by simp, by simp,
      by simp [StatusKept, actSustain, answer, landed_stat_done]⟩
    · rw [hkept, hctrl]
      rfl
    · rw [hkept, hctrl]
      rfl
    · rw [hkept, hctrl]
    · rw [hkept, hctrl]
      exact (sustainValue_congr rfl).symm
    · simp [actSustain, answer, finish_stat_result, landed_stat_done]
    · rw [hkept, hctrl]
      rfl

/-! ### ACK (R183) -/

/-- A report changes the two marks of the status unit at most (R179, R180). -/
theorem report_stat (a b : State) : (report a b).stat =
    { b.stat with stale := (report a b).stat.stale, changed := (report a b).stat.changed } := by
  unfold report
  split <;> rfl

/-- The FAULT bit of a mask is its lowest bit (12.1). -/
theorem and_flagFault_eq_zero_iff (m : BitVec 7) : m &&& flagFault = 0 ↔ m.getLsbD 0 = false := by
  revert m
  decide

/-- What ACK does to the status unit: the flags of the mask go, and with the FAULT bit the fault log (R183). -/
theorem ackFlags_stat (m : BitVec 7) (s : State) : (ackFlags m s).stat = { s.stat with
    flags := s.stat.flags &&& ~~~m
    faultLog := if m.getLsbD 0 then none else s.stat.faultLog
    moreFaults := if m.getLsbD 0 then false else s.stat.moreFaults
    stale := (ackFlags m s).stat.stale, changed := (ackFlags m s).stat.changed } := by
  cases hm : m.getLsbD 0 with
  | false =>
    rw [ackFlags, if_pos ((and_flagFault_eq_zero_iff m).mpr hm), report_stat]
    rfl
  | true =>
    have hfault : m &&& flagFault ≠ 0 := fun h₀ => by
      rw [(and_flagFault_eq_zero_iff m).mp h₀] at hm
      cases hm
    rw [ackFlags, if_neg hfault, report_stat]
    rfl

@[simp] theorem ackFlags_stat_awaited (m : BitVec 7) (s : State) : (ackFlags m s).stat.awaited = s.stat.awaited := by
  rw [ackFlags_stat]

@[simp] theorem ackFlags_stat_result (m : BitVec 7) (s : State) : (ackFlags m s).stat.result = s.stat.result := by
  rw [ackFlags_stat]

/-- The mask's bit for each flag is the argument's. -/
theorem bitsAt_flag (x : Word) {i : Nat} (hi : i < 7) : (bitsAt x 0 7).getLsbD i = x.getLsbD i := by
  simp [bitsAt, hi]

theorem flagsAcked_ackFlags (x : Word) (s : State) : FlagsAcked x s (ackFlags (bitsAt x 0 7) s) := by
  rw [FlagsAcked, ackFlags_stat, bitsAt_flag x (by decide : 0 < 7)]
  refine ⟨fun i => ?_, fun h => ⟨if_pos h, if_pos h⟩, fun h => ?_, rfl, rfl⟩
  · rw [BitVec.getLsbD_and, BitVec.getLsbD_not, bitsAt_flag x i.isLt, decide_eq_true i.isLt, Bool.true_and]
  · rw [h]
    exact ⟨rfl, rfl⟩

/-- What comes before and after ACK and keeps the flags and the logs does not matter. -/
theorem FlagsAcked.of_kept {x : Word} {s u v t : State} (hs : StatusKept s u) (h : FlagsAcked x u v)
    (ht : StatusKept v t) : FlagsAcked x s t := by
  obtain ⟨hcount, hlog, hmore, hflags, hcounters⟩ := hs
  obtain ⟨hcount', hlog', hmore', hflags', hcounters'⟩ := ht
  rw [FlagsAcked, hcount', hlog', hmore', hflags', hcounters', ← hcount, ← hlog, ← hmore, ← hflags, ← hcounters]
  exact h

/-- Settles O20: ACK acts when it is taken with its argument, or when that has been read. -/
theorem ackClearsTheFlagsOfItsMask : Obligations.AckClearsTheFlagsOfItsMask := by
  refine ⟨?_, fun s a w h hc => ?_, raiseFlag_stat_flags⟩
  · rintro s c x ⟨h, hfree⟩ hc
    have hexec := exec_argument_command (i := .ack c) h rfl (show opcodeOf 8 = some .ack by decide) (.inl hfree)
      (.inr rfl) rfl hc
    have hact : actWith .ack x (posted 8 c s) = answer .done (ackFlags (bitsAt x 0 7) (posted 8 c s)) := rfl
    rw [hact] at hexec
    refine ⟨_, hexec, ?_, ?_, controlKept_chooseFetch (by simp), by simp, by simp, by simp, by simp [PortsKept],
      by simp [CachesKept]⟩
    · refine commandTaken_of_posted (by simp) (by simp) ?_ (answer_stat_result (by simp)) ?_
      · simpa [CommandCountKept, answer] using ackFlags_count (s := posted 8 c s) (bitsAt x 0 7)
      · exact finish_stale (ackFlags_stale (posted_stale 8 c s))
    · exact .of_kept (by simp [StatusKept]) (flagsAcked_ackFlags x (posted 8 c s)) (by simp [StatusKept, answer])
  · have hact : actWith .ack (w.get 0) (argumentRead (landed s a false)) =
        answer .done (ackFlags (bitsAt (w.get 0) 0 7) (argumentRead (landed s a false))) := rfl
    have hexec := exec_argumentReadLands_done h hc w
    rw [hact] at hexec
    refine ⟨_, hexec, ?_, ?_, ?_, by simp, by simp, by simp⟩
    · exact .of_kept (.of_stat (by simp [landed_stat_done]))
        (flagsAcked_ackFlags (w.get 0) (argumentRead (landed s a false))) (by simp [StatusKept, answer])
    · rw [chooseFetch_ctrl_of_argRead (by simp)]
      simp
    · simp [answer, finish_stat_result, landed_stat_done]

end Sys2Proof.Machine
end

section
/-! PROOFS. SETTLING at a frame start and at the end of its timer: it ends, or a settle cut begins (R173, R174,
R175). -/

namespace Sys2Proof.Machine

/-! ### The frame start in SETTLING (R173) -/

/-- Settle frames have risen. -/
def settleCounted (s : State) : State :=
  s.setCtrl { s.ctrl with settleFrames := nextSettleFrame s.ctrl.settleFrames }

section FrameSettle

variable {s : State}

/-- The watchdog counts in PERFORMING alone (R52). -/
theorem frameScan_settling (ho : s.ctrl.op = .settling) : frameScan s = s := by
  have hcounts : s.scan.counts s.ctrl.copy s.ctrl.op = false := by
    rw [← Bool.not_eq_true, counts_iff, ho]
    exact fun ⟨hp, _⟩ => by cases hp
  rw [frameScan_untripped (by rw [Scan.trips, hcounts, Bool.false_and]), tick_still hcounts]
  rfl

theorem frameSettle_ends (hc : s.ctrl.settleCut = false) (he : s.eng.order = []) :
    frameSettle s = endSettling (settleCounted s) := by
  simp [frameSettle, settleCounted, hc, he]

theorem frameSettle_cuts (hc : s.ctrl.settleCut = false) (he : s.eng.order ≠ [])
    (hn : s.ctrl.copy.settleFrames.toNat ≤ nextSettleFrame s.ctrl.settleFrames) :
    frameSettle s = beginSettleCut (settleCounted s) := by
  simp [frameSettle, settleCounted, hc, he, hn]

end FrameSettle

/-- With no swap pending a frame start in SETTLING comes to what SETTLING makes of it. -/
theorem frameEnded_settling {s v : State} (h : FrameBegun s v) (ho : s.ctrl.op = .settling)
    (hs : s.ctrl.swap = none) : frameEnded v = frameSettle v := by
  have hop : v.ctrl.op = .settling := by rw [h.ctrl, ho]
  rw [frameEnded, frameScan_settling hop, frameControl_settling hop, testSwap_none (by rw [h.ctrl, hs])]

section FrameAnswer

variable {s : State} {f : FrameCause} (hf : wouldFrame s f = true) (ho : s.ctrl.op = .settling)
  (hs : s.ctrl.swap = none) (hc : s.ctrl.settleCut = false)
include hf ho hs hc

/-- The frame start that finds the sounding order empty ends SETTLING. -/
theorem frameAnswer_ends (he : s.eng.order = []) :
    ∃ v, FrameBegun s v ∧ frameAnswer f s = endSettling (settleCounted v) := by
  obtain ⟨v, h, heq⟩ := frameAnswer_begun hf
  refine ⟨v, h, heq.trans ((frameEnded_settling h ho hs).trans (frameSettle_ends ?_ ?_))⟩
  · rw [h.ctrl, hc]
  · rw [h.eng, he]

/-- The frame start that brings settle frames to SETTLE_FRAMES with voices in the order begins a cut. -/
theorem frameAnswer_cuts (he : s.eng.order ≠ [])
    (hn : s.ctrl.copy.settleFrames.toNat ≤ nextSettleFrame s.ctrl.settleFrames) :
    ∃ v, FrameBegun s v ∧ frameAnswer f s = beginSettleCut (settleCounted v) := by
  obtain ⟨v, h, heq⟩ := frameAnswer_begun hf
  refine ⟨v, h, heq.trans ((frameEnded_settling h ho hs).trans (frameSettle_cuts ?_ ?_ ?_))⟩
  · rw [h.ctrl, hc]
  · rwa [h.eng]
  · rwa [h.ctrl]

end FrameAnswer

/-! ### The end of SETTLING with no swap pending (R173, R175) -/

section SettledItem

variable (s : State)

@[simp] theorem settledItem_ctrl : (settledItem s).ctrl = s.ctrl := by
  unfold settledItem
  split
  · split <;> simp
  · rfl

@[simp] theorem settledItem_stat : (settledItem s).stat = s.stat := by
  unfold settledItem
  split
  · split <;> simp
  · rfl

@[simp] theorem settledItem_scan : (settledItem s).scan = s.scan := by
  unfold settledItem
  split
  · split <;> simp
  · rfl

/-- Of the engine the end of the item changes the item and what its end awaits, no more. -/
theorem settledItem_eng : (settledItem s).eng = { s.eng with
    item := (settledItem s).eng.item, awaitDiscard := (settledItem s).eng.awaitDiscard } := by
  unfold settledItem
  split
  · split
    · rw [endItem_eng]
    · rfl
  · rfl

end SettledItem

/-- What the end of SETTLING leaves with no swap pending, whatever item is running. -/
structure SettleOver (s t : State) : Prop where
  op : t.ctrl.op = .transparent
  settleTimer : t.ctrl.settleTimer = none
  settleCut : t.ctrl.settleCut = false
  sustain : t.ctrl.sustain = ((s.ctrl.valid && s.ctrl.copy.sustEnable && s.ctrl.sustReading) || s.ctrl.sustainFlag)
  eng : t.eng = { s.eng with
    item := t.eng.item, awaitDiscard := t.eng.awaitDiscard, releaseAll := false, held := [], revWalk := none }
  levelNotice : t.bellows.levelNotice = none
  flags : t.stat.flags = s.stat.flags ||| 4
  result : t.stat.result = if s.stat.awaited = .settle then .done else s.stat.result
  counters : t.stat.counters = s.stat.counters
  faultLog : t.stat.faultLog = s.stat.faultLog
  scan : t.scan = s.scan
  queue : t.voice.queue = s.voice.queue
  frame : t.tone.frame = s.tone.frame

theorem endSettling_swapless {s : State} (h : s.ctrl.swap = none) : endSettling s =
    finish .settle .done (raiseFlag flagSettled (transparentEntered
      (settledEngine (settledItem (s.setCtrl { s.ctrl with settleTimer := none, settleCut := false }))))) := by
  rw [endSettling_eq, enterTransparent_eq, testSwap_none]
  simpa [transparentEntered, settledEngine] using h

theorem settleOver_endSettling {s : State} (h : s.ctrl.swap = none) : SettleOver s (endSettling s) := by
  have hkept := settleKept_endSettling (s := s) fun x hx => by simp [h] at hx
  rw [endSettling_swapless h] at hkept ⊢
  constructor
  case queue => exact hkept.kept.queue
  case frame => exact hkept.kept.frame
  case sustain =>
    simp only [finish_ctrl, raiseFlag_ctrl, transparentEntered, State.setBellows_ctrl, workOut_ctrl, setOp_ctrl,
      settledEngine, report_ctrl, State.setEng_ctrl, settledItem_ctrl, State.setCtrl_ctrl, sustainValue_eq]
    rfl
  case eng =>
    simp only [finish_eng, raiseFlag_eng, transparentEntered, State.setBellows_eng, workOut_eng, setOp_eng,
      settledEngine, report_eng, State.setEng_eng]
    rw [settledItem_eng]
    rfl
  case result => simp [finish_stat_result, transparentEntered, settledEngine]
  all_goals simp [transparentEntered, settledEngine, flagSettled]

/-! ### The beginning of a settle cut (R174) -/

/-- A settle cut has begun: its hush is pending and has ended the current item, unless one was pending or running. -/
structure CutBegun (s t : State) : Prop where
  ctrl : t.ctrl = { s.ctrl with settleCut := true, settleTimer := none }
  hushes : itemIsHush s.eng = false ∧ s.eng.hushPending = .clear → t.eng.hushPending = .cutOnly ∧ t.eng.item = none
  hushed : itemIsHush s.eng = true ∨ s.eng.hushPending ≠ .clear →
    t.eng.hushPending = s.eng.hushPending ∧ t.eng.item = s.eng.item
  mirror : t.eng.mirror = s.eng.mirror
  order : t.eng.order = s.eng.order
  held : t.eng.held = s.eng.held

section Cut

variable {s : State}

theorem beginSettleCut_hushes (hi : itemIsHush s.eng = false) (hp : s.eng.hushPending = .clear) :
    beginSettleCut s = endItem ((s.setCtrl { s.ctrl with settleCut := true, settleTimer := none }).setEng
      { s.eng with hushPending := .cutOnly }) := by
  simp [beginSettleCut, hi, hp]

theorem beginSettleCut_hushed (h : itemIsHush s.eng = true ∨ s.eng.hushPending ≠ .clear) :
    beginSettleCut s = s.setCtrl { s.ctrl with settleCut := true, settleTimer := none } := by
  unfold beginSettleCut
  dsimp only []
  split
  · rfl
  · next hi =>
    have hp := h.resolve_left hi
    cases hc : s.eng.hushPending with
    | clear => exact absurd hc hp
    | cutOnly | source => simp [hc]

end Cut

theorem cutBegun_beginSettleCut (s : State) : CutBegun s (beginSettleCut s) := by
  by_cases h : itemIsHush s.eng = true ∨ s.eng.hushPending ≠ .clear
  · rw [beginSettleCut_hushed h]
    refine ⟨rfl, fun ⟨hi, hp⟩ => ?_, fun _ => ⟨rfl, rfl⟩, rfl, rfl, rfl⟩
    exact absurd h (by simp [hi, hp])
  · obtain ⟨hi, hp⟩ : itemIsHush s.eng = false ∧ s.eng.hushPending = .clear := by simpa using h
    rw [beginSettleCut_hushes hi hp]
    constructor
    case ctrl => simp
    case hushed => exact fun hn => absurd hn h
    all_goals
      rw [endItem_eng]
      simp

/-! ### The two ways to a cut -/

/-- SETTLE_CUT stands for the frame start that brings settle frames to SETTLE_FRAMES (assumption 4). -/
theorem exec_settleCut {s : State} {f : FrameCause} (hf : wouldFrame s f = true) (hc : wouldCut s = true) :
    exec (.settleCut f) s = .next (frameAnswer f s) :=
  if_pos (by rw [hf, hc]; rfl)

theorem exec_settleTimerEnd {s : State} {t₀ : Nat} (ho : s.ctrl.op = .settling) (ht : s.ctrl.settleTimer = some t₀) :
    exec .settleTimerEnd s = .next (beginSettleCut (reachTime (t₀ + 100000) s)) := by
  show execSettleTimerEnd s = _
  rw [execSettleTimerEnd, ht]
  exact if_pos ho

/-- Settles O45: the frame start that finds no voice, the one that is the last, and the timer. -/
theorem settlingEndsByFramesOrByACut : Obligations.SettlingEndsByFramesOrByACut := by
  refine ⟨fun s f hf ho hs he hc => ?_, fun s ho => ⟨fun f hf hs he hc hlt hn => ?_, fun t₀ ht => ?_⟩⟩
  · obtain ⟨v, h, hends⟩ := frameAnswer_ends hf ho hs hc he
    have hover := settleOver_endSettling (s := settleCounted v) (by simpa [settleCounted, h.ctrl] using hs)
    obtain ⟨-, hlog, -, hflags, hcounters⟩ := h.status
    refine ⟨_, (exec_frameAnswer f s).trans (congrArg _ hends), hover.op, hover.settleTimer, hover.settleCut, ?_, ?_,
      ?_, ?_, hover.levelNotice, ?_, ?_, ?_, ?_, ?_, ?_, ?_, ?_, ?_⟩
    · rw [hover.sustain, settleCounted, h.ctrl]
      rfl
    · rw [hover.eng]
    · rw [hover.eng]
    · rw [hover.eng]
    · exact hover.flags.trans (by rw [settleCounted, State.setCtrl_stat, hflags])
    · rw [hover.result, settleCounted, State.setCtrl_stat, h.awaited, h.result]
    · exact hover.frame.trans h.frame
    · rw [hover.eng, settleCounted, State.setCtrl_eng, h.eng]
    · rw [hover.eng, settleCounted, State.setCtrl_eng, h.eng]
    · rw [hover.queue, settleCounted, State.setCtrl_voice, h.voice]
    · exact hover.scan.trans h.scan
    · exact hover.counters.trans hcounters
    · exact hover.faultLog.trans hlog
  · have hnext : nextSettleFrame s.ctrl.settleFrames = s.ctrl.settleFrames + 1 := if_pos hlt
    obtain ⟨v, h, hcuts⟩ := frameAnswer_cuts hf ho hs hc he (by rwa [hnext])
    have hwould : wouldCut s = true := by simp [wouldCut, ho, he, hc, hnext, hn]
    have hcut := cutBegun_beginSettleCut (settleCounted v)
    have heng : (settleCounted v).eng = _ := h.eng
    refine ⟨_, (exec_settleCut hf hwould).trans (congrArg _ hcuts), ?_, fun hi => hcut.hushes (by rwa [heng]),
      fun hi => ?_, ?_, ?_, ?_, ?_, ?_, ?_⟩
    · rw [hcut.ctrl, settleCounted, h.ctrl, hnext]
      rfl
    · simpa [heng] using hcut.hushed (by rwa [heng])
    · rw [hcut.mirror, heng]
    · rw [hcut.order, heng]
    · rw [hcut.held, heng]
    · exact (beginSettleCut_scan _).trans h.scan
    · exact (settleKept_beginSettleCut _).kept.frame.trans h.frame
    · exact h.status.trans (.of_stat (beginSettleCut_stat _))
  · have hcut := cutBegun_beginSettleCut (reachTime (t₀ + 100000) s)
    exact ⟨_, exec_settleTimerEnd ho ht, beginSettleCut_timebase _, hcut.ctrl, hcut.hushes, hcut.hushed, hcut.mirror,
      hcut.order, hcut.held, beginSettleCut_scan _, beginSettleCut_bellows _, .of_stat (beginSettleCut_stat _)⟩

end Sys2Proof.Machine
end

section
/-! PROOFS. A step takes the front command, and every command is answered by a next state that keeps the queue and does
not turn the timebase back (2.8, 95, assumptions 2, 7, 19, 20). -/

namespace Sys2Proof.Machine

/-! ### The step -/

theorem step_front (c : Instr) (rest : List Instr) (s : State) :
    step { s with pending := c :: rest } = exec c { s with pending := rest } := rfl

theorem step_idle {s : State} (h : s.pending = []) : step s = .next s := by simp [step, h]

/-- Settles O1: the two cases of the queue. -/
theorem stepRunsTheFrontCommand : Obligations.StepRunsTheFrontCommand :=
  ⟨step_front, fun _ => step_idle⟩

/-! ### Going onward -/

/-- The commands that wait are kept, and the timebase has not gone back (assumption 7). -/
structure Onward (s t : State) : Prop where
  pending : t.pending = s.pending
  timebase : s.timebase ≤ t.timebase

namespace Onward

theorem refl (s : State) : Onward s s := ⟨rfl, Nat.le_refl _⟩

variable {s t u : State}

theorem trans (h : Onward s t) (k : Onward t u) : Onward s u :=
  ⟨k.pending.trans h.pending, h.timebase.trans k.timebase⟩

/-- Only the timers' ends carry the timebase forward: every other operation leaves it and the queue as they are. -/
theorem of_eq (hp : t.pending = s.pending := by simp) (ht : t.timebase = s.timebase := by simp) : Onward s t :=
  ⟨hp, ht.ge⟩

theorem ite {c : Prop} [Decidable c] (h : Onward s t) (k : Onward s u) : Onward s (if c then t else u) := by
  split
  · exact h
  · exact k

end Onward

/-! ### Resets and pins -/

theorem onward_setPins (x : Pins) (s : State) : Onward s (s.setPins x) := .of_eq

theorem onward_enterHeld (b : Bool) (s : State) : Onward s (enterHeld b s) := .of_eq rfl rfl

theorem onward_releaseHeld (d : BitVec 2) (b : Bool) (s : State) : Onward s (releaseHeld d b s) :=
  .of_eq (by simp [releaseHeld]) (by simp [releaseHeld])

theorem onward_readHush (b : Bool) (s : State) : Onward s (readHush b s) := by
  unfold readHush
  dsimp only []
  exact .ite .of_eq .of_eq

/-! ### The answers of RAM and the ports -/

/-- RAM's answer goes onward when its effect does. -/
theorem onward_landing {isMine : Owner → Bool} {e : Bool} {effect : Access → State → State}
    (he : ∀ a t, Onward t (effect a t)) (s : State) : Onward s (landing isMine e effect s) :=
  landing_keeps (fun h => h.trans .of_eq) (fun _ _ h => h.trans .of_eq) (fun a t _ _ h => h.trans (he a t)) (.refl s)

theorem onward_tReadCompletes (x : RamAnswer) (s : State) : Onward s (tReadCompletes x s) :=
  onward_landing (fun a t => .of_eq (tReadDone_pending x a t) (tReadDone_timebase x a t)) s

theorem onward_frameAnswer (f : FrameCause) (s : State) : Onward s (frameAnswer f s) := by
  cases f with
  | completes words => exact onward_tReadCompletes _ s
  | heldRead r => exact .of_eq (tRead_pending r s) (tRead_timebase r s)

/-! ### The timers' ends (assumption 7) -/

theorem onward_reachTime (n : Nat) (s : State) : Onward s (reachTime n s) := ⟨rfl, Nat.le_max_left _ _⟩

theorem onward_groupLate (g : Group) (s : State) : Onward s (groupLate g s) :=
  (onward_reachTime (g.openedAt + s.ctrl.copy.holdLimit.toNat) s).trans
    (.of_eq (by simp [groupLate]) (by simp [groupLate]))

/-! ### The items of the voicing engine -/

theorem onward_hushItem (s : State) : Onward s (hushItem s) :=
  .trans (t := if s.eng.hushPending = .source then raiseFlag flagHushed s else s) (.ite .of_eq (.refl s))
    (.of_eq (by simp [hushItem]) (by simp [hushItem]))

theorem onward_takeEvent (s : State) : Onward s (takeEvent s) := .of_eq (by simp [takeEvent]) (by simp [takeEvent])

theorem onward_reversalVisit (r : HeldRec) (s : State) : Onward s (reversalVisit r s) := by
  have hturn : Onward s (turnRecord r.pos s) := .of_eq (by simp [turnRecord]) (by simp [turnRecord])
  unfold reversalVisit
  refine .ite .of_eq ?_
  cases r.snap.policy with
  | hold | repitch | cut => exact hturn.trans .of_eq

theorem onward_reversalStep (p : Pos) (s : State) : Onward s (reversalStep p s) := by
  unfold reversalStep
  split
  · next r _ => exact (onward_reversalVisit r s).trans .of_eq
  · exact .of_eq

theorem onward_pressItem (p : Pos) (s : State) : Onward s (pressItem p s) := by
  unfold pressItem
  dsimp only []
  split
  · exact (onward_takeEvent s).trans .of_eq
  · exact (onward_takeEvent s).trans .of_eq

theorem onward_releaseItem (p : Pos) (s : State) : Onward s (releaseItem p s) := by
  unfold releaseItem
  dsimp only []
  split
  · exact (onward_takeEvent s).trans .of_eq
  · exact (onward_takeEvent s).trans (.ite .of_eq .of_eq)

theorem onward_sustainStep (s : State) : Onward s (sustainStep s) := by
  unfold sustainStep
  refine .ite .of_eq ?_
  split
  · exact .of_eq
  · exact .of_eq

theorem onward_restrikeStep (s : State) : Onward s (restrikeStep s) := by
  unfold restrikeStep
  split
  · exact .of_eq
  · exact .of_eq

theorem onward_sweepStep (i : Slot) (s : State) : Onward s (sweepStep i s) := .ite .of_eq (.ite .of_eq .of_eq)

/-! ### The commands -/

/-- The outcome of a command in `s` is a next state, and it is onward from `s`. -/
def RunsOn (s : State) (o : Host.Outcome State Fault Refusal) : Prop := ∃ t, o = .next t ∧ Onward s t

namespace RunsOn

variable {s t : State}

theorem next (h : Onward s t) : RunsOn s (.next t) := ⟨t, rfl, h⟩

/-- An event that cannot come about leaves the state as it is (assumption 2). -/
theorem idle (s : State) : RunsOn s (.next s) := next (.refl s)

theorem guarded {c : Prop} [Decidable c] {o : Host.Outcome State Fault Refusal} (h : RunsOn s o) :
    RunsOn s (if c then o else .next s) := by
  split
  · exact h
  · exact idle s

theorem heldRelease (x y : Bool) (d : BitVec 2) (b : Bool) (s : State) : RunsOn s (execHeldRelease x y d b s) :=
  guarded (next (.trans (onward_setPins _ s)
    (.ite (onward_releaseHeld _ _ _) (.ite (onward_enterHeld _ _) (.refl _)))))

theorem settleTimerEnd (s : State) : RunsOn s (execSettleTimerEnd s) := by
  unfold execSettleTimerEnd
  split
  · next t₀ _ => exact guarded (next ((onward_reachTime (t₀ + Config.settleMicros) s).trans .of_eq))
  · exact idle s

theorem groupLate (s : State) : RunsOn s (execGroupLate s) := by
  unfold execGroupLate
  split
  · exact next (onward_groupLate _ s)
  · exact idle s

theorem heldReadDiscard (s : State) : RunsOn s (execHeldReadDiscard s) := by
  unfold execHeldReadDiscard
  split
  · next t₀ _ => exact next ((onward_reachTime (t₀ + Config.discardMicros) s).trans .of_eq)
  all_goals exact idle s

theorem pushWaitEnd (s : State) : RunsOn s (execPushWaitEnd s) := by
  unfold execPushWaitEnd
  split
  · split
    · exact next .of_eq
    all_goals exact idle s
  · exact idle s

/-- Every command is answered by a next state that is onward. -/
theorem exec (c : Instr) (s : State) : RunsOn s (Machine.exec c s) := by
  cases c with
  | powerOnDetect => exact next ((onward_setPins _ s).trans (onward_enterHeld _ _))
  | resetLow => exact next ((onward_setPins _ s).trans (.ite (.refl _) (onward_enterHeld _ _)))
  | heldRelease x y d b => exact heldRelease x y d b s
  | drainPhaseEnd | voiceTablePhaseEnd | initEnd => exact guarded (next .of_eq)
  | hushPinChange high => exact next ((onward_setPins _ s).trans (.ite (.refl _) (onward_readHush _ _)))
  | sustPinChange high => exact next ((onward_setPins _ s).trans (.ite (.refl _) .of_eq))
  | pWrite _ | unknownOpcode _ _ | perform _ | standbySettle _ _ | standbyCut _ _ | swap _ | panic _ | sustain _
  | guard _ | guardLock _ | ack _ | reinit _ | flush _ => exact next (.of_eq (pWrite_pending _ s) (pWrite_timebase _ s))
  | pRead _ | tRead _ | tWrite _ | mportGrant => exact next .of_eq
  | descriptorReadLands _ | sectionsPhaseReadLands _ | pWriteLands _ | pReadCompletes _ | tReadCompletes _
  | tWriteCompletes _ | voiceWriteLands _ | heldReadFillLands _ | argumentReadLands _ | snapshotAccessLands _ =>
    exact next (onward_landing (fun _ _ => .of_eq) s)
  | mapEntryFetchLands _ | programFetchLands _ | sectionReloadLands _ =>
    refine next (onward_landing (fun _ t => ?_) s)
    split
    · exact .of_eq
    · exact .refl t
  | scanSilenceTrip f | reversalHoldEnd f | settleCut f => exact guarded (next (onward_frameAnswer f s))
  | settleTimerEnd => exact settleTimerEnd s
  | groupLate => exact groupLate s
  | heldReadDiscard => exact heldReadDiscard s
  | pushWaitEnd => exact pushWaitEnd s
  | hushItem => exact guarded (next (onward_hushItem s))
  | releaseAll | frameExpiry => exact guarded (next (.of_eq (runJobs_pending _ _ _) (runJobs_timebase _ _ _)))
  | takeReversalNotice | takeLevelNotice =>
    refine guarded ?_
    split
    · exact next (.of_eq rfl rfl)
    · exact idle s
  | reversalWalkStep =>
    refine guarded ?_
    split
    · next p _ => exact next (onward_reversalStep p s)
    · exact idle s
  | press =>
    refine guarded ?_
    split
    · next ev _ _ => exact next ((onward_pressItem ev.pos s).trans .of_eq)
    · exact idle s
  | release =>
    refine guarded ?_
    split
    · next ev _ _ => exact next (onward_releaseItem ev.pos s)
    · exact idle s
  | sustainOffWalkStep => exact guarded (next (onward_sustainStep s))
  | restrikeWalkStep => exact guarded (next (onward_restrikeStep s))
  | levelSweepStep =>
    refine guarded ?_
    split
    · next i _ => exact next (onward_sweepStep i s)
    · exact idle s

end RunsOn

/-- Settles O2: every command goes onward to a next state. -/
theorem everyCommandRunsAndKeepsTheQueue : Obligations.EveryCommandRunsAndKeepsTheQueue := by
  intro c s
  obtain ⟨t, ht, hpending, htimebase⟩ := RunsOn.exec c s
  exact ⟨t, ht, hpending, htimebase⟩

end Sys2Proof.Machine
end
